-- ==== Sys2Proof/Word.lean ====
section
/-! DEFINITION. The plain types of the M24's values (00_scope.md 3.2 to 3.6, 11 R161). -/

namespace Sys2Proof

/-- A byte of the Host Link. -/
abbrev Byte := BitVec 8
/-- A receiver frame number, 0..4095, whose arithmetic is modulo 4096 (00_scope.md 3.2). -/
abbrev Frame := BitVec 12
/-- A speech sequence number, 0..255, which wraps (00_scope.md 3.5). -/
abbrev Seq := BitVec 8
/-- A transaction ident or an order tag, 0..15, which wraps (R6, R49). -/
abbrev Ident := BitVec 4
/-- An alias, an unsigned 32-bit value (00_scope.md 3.4). -/
abbrev AliasValue := BitVec 32
/-- Decimal digits, most significant first (00_scope.md 3.4). -/
abbrev Digits := List Nat

/-- The forward distance from frame `x` to frame `y`, modulo 4096. -/
def frameDist (x y : Frame) : Nat := (y - x).toNat

/-- The frame of number `n`, modulo 4096. -/
def frameOf (n : Nat) : Frame := BitVec.ofNat 12 n

end Sys2Proof
end

