-- ==== Sys2Proof/Syntax.lean ====
section
/-! DEFINITION. The commands of the M24: one constructor per row of opcode_table.json, with the values each brings from outside. -/

namespace Sys2Proof

/-- The two subscriptions (00_scope.md 3.1). -/
inductive Sub | a | b
deriving DecidableEq, Repr

/-- The items of an ORDER_ACK's error list (R50). -/
inductive OrderError | synthUnlock | badFrequency | timingLost | lateOrder
deriving DecidableEq, Repr

/-- The items of a network error list (R4). -/
inductive ErrorItem | unknownSubscriber | notAllowed | congestion | badState | peerBusy | noRoute
deriving DecidableEq, Repr

/-- An identity as a page or an uplink message names it: an alias or a permanent identity (01 section 1.2). -/
inductive Identity | aliasId (value : AliasValue) | permanent (digits : Digits)
deriving DecidableEq, Repr

/-- The reason of a paged item (01 section 1.2). -/
inductive PageReason | call | text | update
deriving DecidableEq, Repr

/-- One paged item of a PAGE block. -/
structure PageItem where
  identity : Identity
  reason   : PageReason
deriving DecidableEq, Repr

/-- The fields of a PAGE block. -/
structure PageBlock where
  cellId    : Nat
  cellFrame : Nat
  items     : List PageItem
deriving DecidableEq, Repr

/-- The fields of a BEACON block. -/
structure BeaconBlock where
  cellId    : Nat
  freq      : Nat
  area      : Nat
  cellFrame : Nat
  offset    : Nat
  phase     : Nat
  c         : Nat
  qmin      : Int
  barred    : Bool
  level     : Int
deriving DecidableEq, Repr

/-- The number types (01 section 1.3). -/
inductive NumberType | international | national | unknown
deriving DecidableEq, Repr

/-- The fields a SIGNAL block carries for its code beside ident, call reference and error list (01 section 1.3).
`none` stands for a code with no further field, and for one whose required fields are absent. -/
inductive SignalBody
  | none
  | calling (type : NumberType) (digits : Digits)
  | text (reference total seq : Nat) (type : NumberType) (digits : Digits) (payload : List Byte)
  | handover (cellId freq offset phase access : Nat)
  | area (code : Nat) (newAlias : Option AliasValue)
  | raw (bytes : List Byte)
deriving DecidableEq, Repr

/-- The fields of a SIGNAL block. -/
structure SignalBlock where
  code    : Nat
  ident   : Nat
  callRef : Option Nat
  errors  : Option (List ErrorItem)
  body    : SignalBody
deriving DecidableEq, Repr

/-- The fields of a VOICE block. -/
structure VoiceBlock where
  seq   : Nat
  bytes : List Byte
deriving DecidableEq, Repr

/-- The commands: every row of opcode_table.json, in its order. -/
inductive Instr
  /-- R171: the reset input is asserted. -/
  | resetInputAssert
  /-- R171: the reset input is released; the reset is taken. -/
  | resetInputRelease
  /-- R42: the 256th sleep tick; a receiver frame begins. -/
  | frameBoundary
  /-- R82: the planned return from LIGHT. -/
  | lightReturn
  /-- R83: the wake timer expires in DEEP. -/
  | wakeTimerExpiry
  /-- R83: the settle count ends. -/
  | settleCountEnd
  /-- R50: the transceiver acknowledges an order. -/
  | orderAck (tag : Ident) (errors : List OrderError)
  /-- R50: the deadline of the outstanding order passes. -/
  | orderDeadline
  /-- R52: a measurement result; none is NO_SIGNAL. -/
  | measurementResult (entries : List (Option Int))
  /-- R117: the return counter has reached 0. -/
  | returnCounterExpiry (sub : Sub)
  /-- R7: an answer timer has reached 0. -/
  | answerTimerExpiry (sub : Sub) (ident : Ident)
  /-- R7: the wait timer of the message at this place of the queue has reached 1024. -/
  | waitTimerExpiry (sub : Sub) (pos : Nat)
  /-- R14: a link idle timer has reached 0. -/
  | linkIdle (sub : Sub) (ident : Ident)
  /-- R17: DETACH_NOTICE has waited 128 frames. -/
  | detachNoticeExpiry (sub : Sub)
  /-- R122: a ring timer has reached 0. -/
  | ringTimeout (ctx : Nat)
  /-- R155: a deadline counter has reached 0. -/
  | reassemblyDeadline (idx : Nat)
  /-- R71: a PAGE block, its frame of reception and decode-good flag. -/
  | pageBlock (frame : Frame) (good : Bool) (block : PageBlock)
  /-- R100, R103, R105: a BEACON block. -/
  | beaconBlock (frame : Frame) (good : Bool) (block : BeaconBlock)
  /-- R60: a SIGNAL block. -/
  | signalBlock (frame : Frame) (good : Bool) (block : SignalBlock)
  /-- R139: a VOICE block. -/
  | voiceBlock (frame : Frame) (good : Bool) (block : VoiceBlock)
  /-- R84, R160: a transfer begins with a byte other than 0x00. -/
  | hostFrameStart
  /-- R160: a transfer begins with the byte 0x00. -/
  | readOnlyTransfer
  /-- R162: the bytes of a host frame, whole or cut by the transfer's end. -/
  | hostFrameReceived (bytes : List Byte)
  /-- R167: the last byte of the outbound frame is clocked out. -/
  | outboundFrameSent
  /-- R153: TXT offers its COMPLETE texts again. -/
  | textOfferRetry
  /-- R9: the oldest held message takes a freed place. -/
  | heldMessageEnqueue (sub : Sub)
  /-- R27: SBS tries a pending update again. -/
  | pendingUpdateRetry (sub : Sub)
  /-- R158: TXT offers a due segment again. -/
  | segmentDueRetry (sub : Sub)
  /-- R69: PSC places a refused PAGING_LISTEN again. -/
  | pagingPlacementRetry (sub : Sub)
  /-- R91: MOB places a refused MEASURE again. -/
  | measurePlacementRetry (sub : Sub)
  /-- R101: MOB places a refused SEARCH again. -/
  | searchPlacementRetry (sub : Sub)
  /-- R135: CAL places a refused TRAFFIC again. -/
  | trafficPlacementRetry (sub : Sub)
  /-- R127: the other subscription is no longer ATTENDED. -/
  | connectWaitingResolved (ctx : Nat)
  /-- R16: HLC acts on the UP_SIGNAL at the head of the inbound hold. -/
  | upSignal
  /-- R143: HLC acts on the UP_SPEECH at the head of the inbound hold. -/
  | upSpeech
  /-- R19. -/
  | configureSubscription
  /-- R89. -/
  | loadNeighbours
  /-- R31. -/
  | loadNumbers
  /-- R62. -/
  | loadRoutes
  /-- R86. -/
  | setMobility
  /-- R53. -/
  | setArbitration
  /-- R78. -/
  | setSleep
  /-- R22. -/
  | attach
  /-- R25. -/
  | detach
  /-- R128. -/
  | dial
  /-- R123. -/
  | answer
  /-- R122. -/
  | reject
  /-- R132. -/
  | hangUp
  /-- R130. -/
  | hold
  /-- R131. -/
  | resume
  /-- R157. -/
  | sendText
  /-- R165. -/
  | hostDoze
  /-- R48. -/
  | radioHold
  /-- R48. -/
  | radioRelease
  /-- R170. -/
  | query
  /-- R171. -/
  | reset
  /-- R160: the transfer ends, in the middle of an outbound frame or not. -/
  | transferEnd (midFrame : Bool)
deriving DecidableEq, Repr

end Sys2Proof
end

