-- ==== Sys2Proof/Decode.lean ====
section
/-! DEFINITION. Reading a command from a word of opcode_table.json. No row of the table gives any bits, so no word spells a command. -/

namespace Sys2Proof

/-- The command a word of `nbits` bits spells by the table: none, since no row gives bits. -/
def decodeTableWord (_nbits _w : Nat) : Option Instr := none

end Sys2Proof
end

