-- ==== Sys2Proof/Config.lean ====
section
/-! DEFINITION. The sizes and defaults the spec fixes for every M24. And the one value it leaves open (log 33). -/

namespace Sys2Proof.Config

/-- Sleep ticks in a receiver frame (00_scope.md 3.2). -/
def frameTicks : Nat := 256
/-- Receiver frames in a second (00_scope.md 3.2). -/
def secondFrames : Nat := 128
/-- Entries of the transaction table (R5). -/
def txnEntries : Nat := 8
/-- Messages in an uplink signalling queue (R9). -/
def uplinkDepth : Nat := 6
/-- Frames after which a queued message is discarded (R7). -/
def waitLimit : Nat := 1024
/-- Start of a link idle timer (R14). -/
def linkIdleTime : Nat := 1024
/-- Frames after which an unsent DETACH_NOTICE is discarded (R17). -/
def noticeLimit : Nat := 128
/-- Entries of the claim table (R35). -/
def claimEntries : Nat := 12
/-- Frames the holder record covers (R42). -/
def holderFrames : Nat := 8
/-- Most radio holds at once (R48). -/
def holdLimit : Nat := 15
/-- Faults in a row that make a RADIO_FAULT report (R51). -/
def faultLimit : Nat := 4
/-- Entries of the number table (R31). -/
def numberEntries : Nat := 32
/-- Entries of a neighbour table (R89). -/
def neighbourEntries : Nat := 16
/-- Start of the return counter (R116). -/
def returnFrames : Nat := 64
/-- Frames the playout queue holds (R139). -/
def playoutDepth : Nat := 8
/-- Frames the uplink speech queue holds (R143). -/
def speechDepth : Nat := 4
/-- Bytes of a speech frame (00_scope.md 7). -/
def speechBytes : Nat := 40
/-- Segment buffers in the pool (R147). -/
def poolBuffers : Nat := 64
/-- Entries of the reassembly table (R148). -/
def textEntries : Nat := 8
/-- Frames the inbound hold keeps (R162). -/
def inboundDepth : Nat := 4
/-- RESULT frames the result queue holds (R166). -/
def resultDepth : Nat := 8
/-- Entries of the host-bound queue (R168). -/
def hostDepth : Nat := 32
/-- Longest payload of a frame (R161). -/
def payloadLimit : Nat := 1280
/-- Ticks of gap beyond S that DEEP needs (R82). -/
def deepMargin : Nat := 512
/-- The settle time S after a reset (R78). -/
def settleDefault : Nat := 160

/-- FREE VALUE (log 33): byte `i` of the speech bytes of the `n`-th SUBSTITUTE sent while VCP holds no last frame.
R141 sends the last frame's bytes and does not say which bytes go where none was ever played. -/
opaque freeSpeech : Nat → Nat → Byte

end Sys2Proof.Config
end

