-- ==== Sys2Proof/Machine/State.lean ====
section
/-! DEFINITION. Everything the M24 holds, as plain data, and its values after a reset. -/

namespace Sys2Proof.Machine

/-- One thing per subscription (00_scope.md 1.2). -/
structure PerSub (α : Type) where
  a : α
  b : α
deriving DecidableEq, Repr

/-! ### Names -/

/-- Kinds of claim, in the order of 03 section 3.1; the rank of a kind is its place (03 section 3.3). -/
inductive ClaimKind | handoverAccess | traffic | signalling | pagingListen | beaconRead | measure | search
deriving DecidableEq, Repr

/-- States of a claim (03 section 3.1). -/
inductive ClaimState | waiting | running | heldOut
deriving DecidableEq, Repr

/-- End codes (03 section 3.1; R46). RESET is never kept, since the table is emptied with it (R35). -/
inductive EndCode | done | missed | denied | radioFault | withdrawn
deriving DecidableEq, Repr

/-- Equal-class policies (R41). -/
inductive Policy | fixedA | fixedB | rotate
deriving DecidableEq, Repr

/-- Order kinds (03 section 3.8). -/
inductive OrderKind | connectedFrame | listen | measure | search
deriving DecidableEq, Repr

/-- Actions of a route table entry (R61). -/
inductive RouteAction | forward | forwardWake | defer | drop
deriving DecidableEq, Repr

/-- Transaction kinds (01 section 1.4). -/
inductive TxnKind | link | setup | connect | hold | resume | release | textOut | measReport | area | pass
deriving DecidableEq, Repr

/-- Transaction states (01 section 1.4). -/
inductive TxnState | queued | sent | linked
deriving DecidableEq, Repr

/-- Owners of transactions and of overflow holds (01 section 1.4, 1.5). -/
inductive Owner | ctx (index : Nat) | txt | mob | psc | host
deriving DecidableEq, Repr

/-- Outcomes of a transaction (01 section 1.4). -/
inductive TxnOutcome | answered | refused (item : ErrorItem) | timeout | linkIdle | closed | noService | detached
deriving DecidableEq, Repr

/-- Activity states (R20). -/
inductive Activity | detached | noService | camped | attended | inCall
deriving DecidableEq, Repr

/-- Registration states (02 section 2.1). -/
inductive Registration | unregistered | updating | registered | rejected
deriving DecidableEq, Repr

/-- Standings (R30). -/
inductive Standing | none | limited | full
deriving DecidableEq, Repr

/-- The item of a rejection: a network item or TIMEOUT (R28). -/
inductive RejectItem | item (e : ErrorItem) | timeout
deriving DecidableEq, Repr

/-- Match modes of a number entry (02 section 2.7). -/
inductive MatchMode | exact | suffix (n : Nat)
deriving DecidableEq, Repr

/-- Call actions (02 section 2.7). -/
inductive CallAction | wake | silent | reject
deriving DecidableEq, Repr

/-- Text actions (02 section 2.7). -/
inductive TextAction | wake | quiet | block
deriving DecidableEq, Repr

/-- Power states (R79). -/
inductive Power | awake | light | deep | waking
deriving DecidableEq, Repr

/-- States of a neighbour entry (R90). -/
inductive NeighbourState | unmeasured | tracked | lost
deriving DecidableEq, Repr

/-- Handover states (07 section 7.1). -/
inductive HoState | none | access | returnCheck
deriving DecidableEq, Repr

/-- What a BEACON_READ claim is for (07 section 7.1). -/
inductive ReadPurpose | reselect (index cellId : Nat) | refresh
deriving DecidableEq, Repr

/-- Directions of a call (08 section 8.1). -/
inductive Direction | incoming | outgoing
deriving DecidableEq, Repr

/-- States of a call context (08 section 8.1). -/
inductive CallState | idle | offered | originating | connecting | active | holding | held | resuming | releasing
deriving DecidableEq, Repr

/-- Progress of an outgoing call (08 section 8.1). -/
inductive Progress | none | proceeding | alert
deriving DecidableEq, Repr

/-- End causes in rank order, highest first (R134). RESET is never kept (R119). -/
inductive Cause | detached | hostRelease | handoverLost | radioLost | networkRelease | noAnswer | rejected
deriving DecidableEq, Repr

/-- Playout states (R137). -/
inductive Playout | stopped | filling | playing
deriving DecidableEq, Repr

/-- Kinds of DOWN_SPEECH frame (R141). -/
inductive SpeechKind | speech | substitute | silence
deriving DecidableEq, Repr

/-- States of a reassembly entry (10 section 10.2); FREE is the absent entry. -/
inductive TextState | collecting | blocked | complete | queued
deriving DecidableEq, Repr

/-- Delivery kinds (R153, R155). -/
inductive Delivery | received | partialText
deriving DecidableEq, Repr

/-- Host states (R165). -/
inductive HostState | awake | dozing
deriving DecidableEq, Repr

/-- Result codes (R164). -/
inductive ResultCode | ok | busy | busyOther | badParam | state | limit | noService | failed
deriving DecidableEq, Repr

/-- Host frame types (R161). -/
inductive HostType | request | upSignal | upSpeech
deriving DecidableEq, Repr

/-- Reasons of a BAD_FRAME report (R162). -/
inductive BadReason | unknownType | lengthOver | truncated | overrun
deriving DecidableEq, Repr

/-- Causes of RESET_DONE (R171). -/
inductive ResetCause | pin | request
deriving DecidableEq, Repr

/-- Causes of MISSED_PAGE (R72, R74). -/
inductive MissedCause | otherInCall | noTransaction | noLink
deriving DecidableEq, Repr

/-- Causes of TEXT_FAILED (R159). -/
inductive TextFailCause | refused (item : ErrorItem) | timeout | noService | detached
deriving DecidableEq, Repr

/-! ### Signalling Engine (chapter 1) -/

/-- What an uplink RELEASE carries beside its call reference (01 section 1.3). -/
inductive ReleaseWhy | item (e : ErrorItem) | cause (c : Cause)
deriving DecidableEq, Repr

/-- The uplink messages (01 section 1.3) and the pass-through message (R16). -/
inductive UpBody
  | pageResponse (identity : Identity) (reason : PageReason)
  | setupOut (callRef : Nat) (digits : Digits)
  | alerting (callRef : Nat)
  | connect (callRef : Nat)
  | hold (callRef : Nat)
  | resume (callRef : Nat)
  | release (callRef : Nat) (why : ReleaseWhy)
  | releaseDone (callRef : Nat)
  | textSeg (reference total seq : Nat) (destination : Digits) (payload : List Byte)
  | textAck
  | textNak (item : ErrorItem)
  | measReport (serving : Option Int) (cells : List (Nat × Int))
  | hoComplete (access : Nat)
  | hoFailure (access : Nat)
  | areaUpdate (identity : Option Identity) (lastArea newArea : Nat)
  | detachNotice (identity : Digits)
  | pass (code : Nat) (payload : List Byte)
deriving DecidableEq, Repr

/-- A message of an uplink queue or hold: its owner if it has one, its ident, whether it opened a transaction, its content and its wait timer (R7 to R9). -/
structure Msg where
  owner : Option Owner
  ident : Ident
  opens : Bool
  body  : UpBody
  wait  : Nat
deriving DecidableEq, Repr

/-- An entry of the transaction table (01 section 1.4); the paging reason of a LINK is kept for R74. -/
structure Txn where
  sub    : Sub
  kind   : TxnKind
  ident  : Ident
  owner  : Owner
  state  : TxnState
  answer : Option Nat
  idle   : Option Nat
  reason : Option PageReason
deriving DecidableEq, Repr

/-- What waits to offer again: a pending update (R27) or a due segment (R158). -/
inductive WaitKind | update | segment
deriving DecidableEq, Repr

/-- An owner waiting to offer again, and whether an event of its list has come since it last tried (R5). -/
structure Waiter where
  what : WaitKind
  sub  : Sub
  due  : Bool
deriving DecidableEq, Repr

/-- The Signalling Engine. -/
structure Sge where
  txns      : List (Option Txn)
  queues    : PerSub (List Msg)
  holds     : PerSub (List Msg)
  nextIdent : PerSub Ident
  stray     : Nat
  waiters   : List Waiter
deriving DecidableEq, Repr

/-! ### Radio Time Arbiter and Radio Port (chapter 3) -/

/-- The window values of a placement (R36); `later` marks a first frame whose number has just passed, so that the window is not
open before that number is next reached (log 34). -/
structure Window where
  first  : Frame
  slack  : Nat
  length : Nat
  period : Nat
  later  : Bool
deriving DecidableEq, Repr

/-- An entry of the claim table (03 section 3.1); `later` is the window's mark (R36, log 34), `suspend` marks a claim suspended
while RUNNING (R39). -/
structure Claim where
  sub         : Sub
  kind        : ClaimKind
  first       : Frame
  slack       : Nat
  length      : Nat
  period      : Nat
  later       : Bool
  perFrame    : Bool
  state       : ClaimState
  outranked   : Bool
  unavailable : Bool
  placement   : Option Window
  withdrawing : Bool
  lastEnd     : Option EndCode
  suspend     : Bool
deriving DecidableEq, Repr

/-- A cell listed in a MEASURE order: its table index (none for the serving cell), cell id and frequency (R92). -/
structure ListedCell where
  index  : Option Nat
  cellId : Nat
  freq   : Nat
deriving DecidableEq, Repr

/-- The unit in progress (R42, R43) with what its owner and RPT hold for it until it ends: the cells listed and the paired
result (R52, R92), the frequency searched and the beacon kept (R103, R105), whether a good access notice came (R114). -/
structure RadioUnit where
  sub        : Sub
  kind       : ClaimKind
  first      : Frame
  length     : Nat
  withdrawn  : Bool
  cells      : List ListedCell
  freq       : Nat
  result     : Option (List (Option Int))
  kept       : Option BeaconBlock
  goodNotice : Bool
deriving DecidableEq, Repr

/-- The holder of one receiver frame (R42), the first frame of its unit and the withdrawn mark (R56). -/
structure Holder where
  sub       : Sub
  kind      : ClaimKind
  unitFirst : Frame
  withdrawn : Bool
deriving DecidableEq, Repr

/-- A connected-cell copy (R38). -/
structure CellCopy where
  freq   : Nat
  offset : Nat
  phase  : Nat
deriving DecidableEq, Repr

/-- The Radio Time Arbiter; policies and marks stand in the order of the classes. `asked` is the model's own: within a step that a frame
boundary brings, the placements asked for and not yet taken (R36; log 4); between steps it is none. -/
structure Rta where
  claims    : List (Option Claim)
  unit      : Option RadioUnit
  holders   : List (Option Holder)
  policies  : List Policy
  marks     : List Sub
  tuneAway  : PerSub Bool
  holdCount : Nat
  copies    : PerSub (Option CellCopy)
  asked     : Option (List (ClaimKind × Sub))
deriving DecidableEq, Repr

/-- The further content of a radio order (03 section 3.8). -/
inductive OrderContent
  | none
  | access (code : Nat)
  | speech (seq : Seq) (bytes : List Byte)
  | message (m : Msg)
  | cells (list : List ListedCell)
deriving DecidableEq, Repr

/-- A radio order (R49); `carriesHead` says that the head of the uplink queue is in it and still in the queue (R8). -/
structure Order where
  tag         : Ident
  sub         : Sub
  claimKind   : ClaimKind
  kind        : OrderKind
  freq        : Nat
  offset      : Nat
  phase       : Nat
  length      : Nat
  content     : OrderContent
  carriesHead : Bool
deriving DecidableEq, Repr

/-- The Radio Port; `recoveryNext` says that the frame about to begin is a recovery frame (R50). -/
structure Rpt where
  order        : Option Order
  nextTag      : Ident
  faultCount   : Nat
  recoveryNext : Bool
deriving DecidableEq, Repr

/-- The receiver frame number and the sleep ticks since it began (R1). -/
structure Clock where
  now  : Frame
  tick : Nat
deriving DecidableEq, Repr

/-! ### Downlink Classifier (chapter 4) -/

/-- An entry of the route table (R61). -/
inductive RouteEntry | consume | route (awake dozing : RouteAction)
deriving DecidableEq, Repr

/-- The Downlink Classifier; an OPEN filter is `true`. -/
structure Dlc where
  routes       : List RouteEntry
  filters      : PerSub Bool
  filtered     : PerSub Nat
  unattributed : Nat
deriving DecidableEq, Repr

/-! ### Subscriber Store (chapter 2) -/

/-- A subscription record (R18); `updateByPage` says that a page raised the pending update (R27), `rejectItem` is the item
of the last rejection (R28, R30). -/
structure SubRecord where
  configured        : Bool
  identity          : Option Digits
  aliasVal          : Option AliasValue
  homeCode          : Option Digits
  trunk             : Option Nat
  intlPre           : Option Digits
  overrides         : List (Option Nat)
  ringTimeout       : Nat
  reassemblyTimeout : Nat
  voiceDepth        : Option Nat
  registration      : Registration
  lastArea          : Option Nat
  rejectedArea      : Option Nat
  updatePending     : Bool
  updateByPage      : Bool
  standing          : Standing
  rejectItem        : Option RejectItem
  activity          : Activity
deriving DecidableEq, Repr

/-- A valid entry of the number table (R31). -/
structure NumberEntry where
  digits     : Digits
  mode       : MatchMode
  callAction : CallAction
  textAction : TextAction
deriving DecidableEq, Repr

/-- The Subscriber Store. -/
structure Sbs where
  recs    : PerSub SubRecord
  numbers : List (Option NumberEntry)
deriving DecidableEq, Repr

/-! ### Paging and Sleep Controller (chapter 5) -/

/-- A paging schedule (05 section 5.1); `byAlias` is the offset source. -/
structure Schedule where
  c       : Nat
  cycle   : Nat
  byAlias : Bool
  o       : Nat
  d       : Nat
  p       : Nat
  length  : Nat
  residue : Nat
deriving DecidableEq, Repr

/-- A placement that RTA refused (R36): none, one waiting for its next occasion, or one whose occasion has come. -/
inductive Retry | none | waiting | due
deriving DecidableEq, Repr

/-- An occasion whose unit has begun (R71, R75, R76). -/
structure Listen where
  first     : Frame
  goodHeard : Bool
  matched   : Bool
deriving DecidableEq, Repr

/-- What PSC keeps for a subscription; `missed` and `denied` together are the missed-occasion run (R75), `listens` are the occasions that
a block may still name, the latest first (log 29). -/
structure PscSub where
  schedule   : Option Schedule
  retry      : Retry
  missed     : Nat
  denied     : Nat
  relaxCount : Nat
  level      : Option Int
  qmin       : Option Int
  thr        : Nat
  factor     : Nat
  margin     : Nat
  listens    : List Listen
deriving DecidableEq, Repr

/-- The Paging and Sleep Controller. -/
structure Psc where
  per         : PerSub PscSub
  settleS     : Nat
  power       : Power
  wakeTimer   : Option Nat
  settle      : Option Nat
  notedS      : Nat
  lightReturn : Option Frame
deriving DecidableEq, Repr

/-! ### Mobility Unit (chapters 6 and 7) -/

/-- Mobility parameters (R86). -/
structure MobParams where
  k              : Nat
  hysteresis     : Nat
  ttt            : Nat
  period         : Nat
  searchInterval : Nat
deriving DecidableEq, Repr

/-- A serving cell record (07 section 7.1). -/
structure Serving where
  cellId    : Nat
  freq      : Nat
  area      : Nat
  offset    : Nat
  phase     : Nat
  c         : Nat
  qmin      : Int
  barred    : Bool
  fs        : Option Int
  floorRun  : Nat
  confirmed : Bool
deriving DecidableEq, Repr

/-- A valid entry of the neighbour table (06 section 6.3). -/
structure Neighbour where
  cellId  : Nat
  freq    : Nat
  offset  : Int
  allowed : Bool
  state   : NeighbourState
  f       : Option Int
  miss    : Nat
  trigger : Nat
deriving DecidableEq, Repr

/-- The slot record of a handover (R112): no slot, or an index with what stood there. -/
inductive SlotRecord | noSlot | slot (index : Nat) (was : Option Neighbour)
deriving DecidableEq, Repr

/-- The return record (R112). -/
structure ReturnRecord where
  serving : Serving
  slot    : SlotRecord
deriving DecidableEq, Repr

/-- What MOB keeps of the handover command in hand: the access code and ident that HO_COMPLETE and HO_FAILURE echo (R111), and the target's
channel and timing, which the access order names (R49). -/
structure HoCommand where
  access : Nat
  ident  : Ident
  cell   : CellCopy
deriving DecidableEq, Repr

/-- What MOB keeps for a subscription; `returnNew` says that RETURN_CHECK was entered by ORDER_DEADLINE at the boundary that is about
to be taken, which the return counter does not count (R117). -/
structure MobSub where
  params        : MobParams
  serving       : Option Serving
  neighbours    : List (Option Neighbour)
  ranking       : List Nat
  fired         : Bool
  rotation      : Nat
  hoState       : HoState
  returnRec     : Option ReturnRecord
  returnCounter : Nat
  returnNew     : Bool
  hoCmd         : Option HoCommand
  guard         : Nat
  readPurpose   : Option ReadPurpose
  searchPos     : Nat
  bandScan      : Nat
  lastFreq      : Option Nat
  measRetry     : Option Nat
  searchRetry   : Option Nat
deriving DecidableEq, Repr

/-! ### Call Unit and Voice Path (chapters 8 and 9) -/

/-- A call context (08 section 8.1); `progress` is NONE in an incoming one, `screening` the kept lookup. -/
structure CallContext where
  sub            : Sub
  direction      : Direction
  callRef        : Nat
  networkIdent   : Option Ident
  digits         : Digits
  screenAction   : Option CallAction
  screenEntry    : Option Nat
  state          : CallState
  progress       : Progress
  answerPending  : Bool
  connectWaiting : Bool
  endCause       : Option Cause
  ring           : Option Nat
deriving DecidableEq, Repr

/-- Which request is pending (08 section 8.1). -/
inductive PendingKind | hold | resume | answer (ctx : Nat)
deriving DecidableEq, Repr

/-- The pending request: what is asked, the context being held or resumed, and the tag and subscription of its RESULT. -/
structure PendingReq where
  kind : PendingKind
  ctx  : Nat
  tag  : Byte
  sub  : Option Sub
deriving DecidableEq, Repr

/-- The Call Unit. -/
structure Cal where
  contexts     : List CallContext
  holdStack    : List Nat
  pendingReq   : Option PendingReq
  trafficRetry : PerSub Retry
deriving DecidableEq, Repr

/-- A speech frame of the playout queue. -/
structure SpeechFrame where
  seq   : Seq
  bytes : List Byte
deriving DecidableEq, Repr

/-- The Voice Path (09 section 9.1); `freeDraws` is the model's own count of the free speech frames drawn (log 33). -/
structure Vcp where
  playout   : Playout
  call      : Option (Sub × Nat)
  queue     : List SpeechFrame
  depth     : Nat
  position  : Option Seq
  lastFrame : Option (List Byte)
  subRun    : Nat
  lateRun   : Nat
  resync    : Bool
  fillAfter : Bool
  handover  : Bool
  uplink    : List (List Byte)
  upSeq     : Seq
  overflow  : Nat
  late      : Nat
  lost      : Nat
  upDrop    : Nat
  freeDraws : Nat
deriving DecidableEq, Repr

/-! ### Text Unit (chapter 10) -/

/-- A reassembly entry that is not FREE (10 section 10.2): held sequences in increasing order, each with its payload
(no payload in BLOCKED). -/
structure TextEntry where
  state      : TextState
  sub        : Sub
  originator : Digits
  reference  : Nat
  total      : Nat
  held       : List (Nat × List Byte)
  deadline   : Nat
  action     : TextAction
  entry      : Option Nat
  delivery   : Option Delivery
deriving DecidableEq, Repr

/-- An outgoing text (10 section 10.8): the payloads not yet acknowledged, the first being that of the next sequence. -/
structure Outgoing where
  reference   : Nat
  destination : Digits
  total       : Nat
  segments    : List (List Byte)
  nextSeq     : Nat
  segmentDue  : Bool
deriving DecidableEq, Repr

/-- The Text Unit. -/
structure Txt where
  entries    : List (Option TextEntry)
  completion : List Nat
  free       : Nat
  outgoing   : PerSub (Option Outgoing)
  nextRef    : PerSub (BitVec 8)
  congestion : Nat
  blocked    : Nat
deriving DecidableEq, Repr

/-! ### Host Link Controller (chapter 11) -/

/-- A host frame held in the inbound hold (R161). -/
structure HostFrame where
  type    : HostType
  sub     : Byte
  tag     : Byte
  payload : List Byte
deriving DecidableEq, Repr

/-- A RESULT frame (R161, R164), its header naming a subscription or none (log 15). -/
structure ResultFrame where
  tag     : Byte
  sub     : Option Sub
  request : Byte
  code    : ResultCode
  data    : List Byte
deriving DecidableEq, Repr

/-- A DOWN_SPEECH frame (R141). -/
structure DownSpeech where
  sub     : Sub
  ctx     : Nat
  seq     : Seq
  kind    : SpeechKind
  step    : Nat
  bytes   : List Byte
deriving DecidableEq, Repr

/-- The reports (11 section 11.6), with the fields of the rules that send them. -/
inductive Report
  | resetDone (cause : ResetCause)
  | serviceState (sub : Sub) (standing : Standing) (registration : Registration) (activity : Activity) (item : Option RejectItem)
  | radioFault (sub : Sub) (kind : ClaimKind) (order : OrderKind) (freq : Nat) (errors : List OrderError)
  | callOffered (sub : Sub) (ctx callRef : Nat) (digits : Digits) (entry : Option Nat)
  | callScreened (sub : Sub) (callRef : Nat) (digits : Digits) (entry : Nat)
  | callProgress (sub : Sub) (ctx : Nat) (stage : Progress)
  | callConnected (sub : Sub) (ctx : Nat) (direction : Direction)
  | callEnded (sub : Sub) (ctx callRef : Nat) (direction : Direction) (cause : Cause) (item : Option ErrorItem)
  | missedPage (sub : Sub) (reason : PageReason) (cause : MissedCause) (frame : Option Frame) (item : Option ErrorItem)
  | pagingDegraded (sub : Sub) (missed denied : Nat)
  | cellChanged (sub : Sub) (old new area : Nat)
  | handoverDone (sub : Sub) (old new : Nat)
  | textSent (sub : Sub) (reference : Nat)
  | textFailed (sub : Sub) (reference seq : Nat) (cause : TextFailCause)
  | passOutcome (sub : Sub) (ident : Ident) (outcome : TxnOutcome)
  | badFrame (reason : BadReason) (type : Byte) (tag : Option Byte)
deriving DecidableEq, Repr

/-- A DOWN_SIGNAL entry's content (R63). -/
structure DownSignal where
  sub     : Sub
  code    : Nat
  ident   : Nat
  callRef : Option Nat
  errors  : Option (List ErrorItem)
  bytes   : List Byte
  frame   : Frame
deriving DecidableEq, Repr

/-- What an entry of the host-bound queue holds: a report, a DOWN_SIGNAL, or the delivery of the reassembly entry of this index. -/
inductive EntryBody | report (r : Report) | signal (m : DownSignal) | text (index : Nat)
deriving DecidableEq, Repr

/-- An entry of the host-bound queue (11 section 11.5). -/
structure HostEntry where
  body   : EntryBody
  wake   : Bool
  prompt : Bool
deriving DecidableEq, Repr

/-- The outbound frame begun: the RESULT at the head of the result queue, a DOWN_SPEECH frame, or the head of the host-bound queue (R167). -/
inductive Sending | result | speech (f : DownSpeech) | entry
deriving DecidableEq, Repr

/-- Reception of a host frame: none, under way, or under way when a reset was taken (R162, R171). -/
inductive Reception | idle | receiving | lost
deriving DecidableEq, Repr

/-- The transfer in progress: none, one that carries frames, or one cut by a reset whose rest is fill (R160, R171). -/
inductive Transfer | none | carrying | fillOnly
deriving DecidableEq, Repr

/-- The Host Link Controller. -/
structure Hlc where
  host        : HostState
  inbound     : List HostFrame
  rx          : Reception
  link        : Transfer
  sending     : Option Sending
  results     : List ResultFrame
  slot        : Option DownSpeech
  slotBegun   : Bool
  queue       : List HostEntry
  lostReports : Nat
  lostWake    : Bool
deriving DecidableEq, Repr

/-- The two host lines and the oscillator enable (R169, R83, R171). -/
structure Pins where
  attn      : Bool
  wake      : Bool
  oscEnable : Bool
deriving DecidableEq, Repr

/-! ### The machine -/

/-- The whole part, the commands that wait for it, and the level of the reset input. -/
structure State where
  pending   : List Instr
  resetHeld : Bool
  pins      : Pins
  clock     : Clock
  rpt       : Rpt
  rta       : Rta
  dlc       : Dlc
  sge       : Sge
  sbs       : Sbs
  psc       : Psc
  mob       : PerSub MobSub
  cal       : Cal
  vcp       : Vcp
  txt       : Txt
  hlc       : Hlc
deriving DecidableEq, Repr

/-- Why the machine could stop with a fault: never. The spec gives every command an effect in every state, so the type has no constructor (safe: nothing to assume). -/
inductive Fault
deriving DecidableEq, Repr

/-- Why a command could be refused. -/
inductive Refusal
  /-- Raised by an arm of `exec` for a command with no meaning yet; no arm does so now (safe: the model stops). -/
  | notModelled (mnemonic : String)
deriving DecidableEq, Repr

/-! ### Values after a reset -/

namespace Reset

/-- Twice the same. -/
def both {α : Type} (x : α) : PerSub α := ⟨x, x⟩

/-- R5, R6, R9, R11, R17. -/
def sge : Sge := ⟨List.replicate Config.txnEntries none, both [], both [], both 0, 0, []⟩

/-- R35, R38, R40, R41, R42, R48, R54: ROTATE for SIGNALLING and PAGING_LISTEN, FIXED_A for the other five. -/
def rta : Rta :=
  ⟨List.replicate Config.claimEntries none, none, List.replicate Config.holderFrames none,
   [.fixedA, .fixedA, .rotate, .rotate, .fixedA, .fixedA, .fixedA], List.replicate 7 .a, both false, 0, both none, none⟩

/-- R50, R51, R54; that no frame after the reset is a recovery frame is the model's choice (log 35). -/
def rpt : Rpt := ⟨none, 0, 0, false⟩

/-- R56 to R58, R61. -/
def dlc : Dlc :=
  ⟨List.replicate 16 .consume ++ List.replicate 48 (.route .forward .defer), both false, both 0, 0⟩

/-- R18. -/
def record : SubRecord :=
  { configured := false, identity := none, aliasVal := none, homeCode := none, trunk := none, intlPre := none,
    overrides := List.replicate 10 none, ringTimeout := 30, reassemblyTimeout := 60, voiceDepth := none,
    registration := .unregistered, lastArea := none, rejectedArea := none, updatePending := false,
    updateByPage := false, standing := .none, rejectItem := none, activity := .detached }

/-- R18, R31. -/
def sbs : Sbs := ⟨both record, List.replicate Config.numberEntries none⟩

/-- R66, R75, R76, R78. -/
def pscSub : PscSub := ⟨none, .none, 0, 0, 0, none, none, 0, 2, 12, []⟩

/-- R78, R79. The S noted at DEEP entry is a DESIGN CHOICE (log 31): nothing reads it before DEEP is entered. -/
def psc : Psc := ⟨both pscSub, Config.settleDefault, .awake, none, none, Config.settleDefault, none⟩

/-- R86, R89, R98, R102, R118. -/
def mobSub : MobSub :=
  ⟨⟨2, 6, 3, 64, 256⟩, none, List.replicate Config.neighbourEntries none, [], false, 0, .none, none, 0, false, none, 0, none, 0, 0,
   none, none, none⟩

/-- R119: an IDLE context with every optional field absent; that its subscription is A, its direction INCOMING and its call reference 0 is the
model's choice (log 50). -/
def context : CallContext :=
  ⟨.a, .incoming, 0, none, [], none, none, .idle, .none, false, false, none, none⟩

/-- R119. -/
def cal : Cal := ⟨List.replicate 3 context, [], none, both .none⟩

/-- R137. -/
def vcp : Vcp := ⟨.stopped, none, [], 3, none, none, 0, 0, false, false, false, [], 0, 0, 0, 0, 0, 0⟩

/-- R147 to R149, R152, R157. -/
def txt : Txt := ⟨List.replicate Config.textEntries none, [], Config.poolBuffers, both none, both 0, 0, 0⟩

/-- R162, R165 to R168, R171: RESET_DONE alone in the host-bound queue. -/
def hlc (cause : ResetCause) : Hlc :=
  ⟨.awake, [], .idle, .none, none, [], none, false, [⟨.report (.resetDone cause), true, false⟩], 0, false⟩

end Reset

/-- The machine right after the reset input is released: RESET_DONE with cause PIN is queued and raises ATTN (R171). -/
def State.reset : State :=
  { pending := [], resetHeld := false, pins := ⟨true, false, true⟩, clock := ⟨0, 0⟩, rpt := Reset.rpt, rta := Reset.rta,
    dlc := Reset.dlc, sge := Reset.sge, sbs := Reset.sbs, psc := Reset.psc, mob := Reset.both Reset.mobSub,
    cal := Reset.cal, vcp := Reset.vcp, txt := Reset.txt, hlc := Reset.hlc .pin }

end Sys2Proof.Machine
end

