-- ==== Sys2Proof/Machine/Ops.lean ====
section
/-! DEFINITION. The named operations every block's behaviour is written with: reading and changing one part of State, counts that saturate, tables, levels, and the host-bound queue. -/

namespace Sys2Proof

/-- The subscription not named (00_scope.md 3.1). -/
def Sub.other : Sub → Sub
  | .a => .b
  | .b => .a

namespace Machine

/-! ### One thing per subscription -/

/-- What subscription `x` has. -/
def PerSub.get {α : Type} (p : PerSub α) : Sub → α
  | .a => p.a
  | .b => p.b

/-- `p` with `v` for subscription `x`; the other's is untouched. -/
def PerSub.set {α : Type} (p : PerSub α) (x : Sub) (v : α) : PerSub α :=
  match x with
  | .a => { p with a := v }
  | .b => { p with b := v }

/-- `p` with what subscription `x` has changed by `f`. -/
def PerSub.upd {α : Type} (p : PerSub α) (x : Sub) (f : α → α) : PerSub α := p.set x (f (p.get x))

/-! ### One block's state at a time -/

def State.onClock (f : Clock → Clock) (s : State) : State := { s with clock := f s.clock }
def State.onRpt (f : Rpt → Rpt) (s : State) : State := { s with rpt := f s.rpt }
def State.onRta (f : Rta → Rta) (s : State) : State := { s with rta := f s.rta }
def State.onDlc (f : Dlc → Dlc) (s : State) : State := { s with dlc := f s.dlc }
def State.onSge (f : Sge → Sge) (s : State) : State := { s with sge := f s.sge }
def State.onSbs (f : Sbs → Sbs) (s : State) : State := { s with sbs := f s.sbs }
def State.onPsc (f : Psc → Psc) (s : State) : State := { s with psc := f s.psc }
def State.onMob (f : PerSub MobSub → PerSub MobSub) (s : State) : State := { s with mob := f s.mob }
def State.onCal (f : Cal → Cal) (s : State) : State := { s with cal := f s.cal }
def State.onVcp (f : Vcp → Vcp) (s : State) : State := { s with vcp := f s.vcp }
def State.onTxt (f : Txt → Txt) (s : State) : State := { s with txt := f s.txt }
def State.onHlc (f : Hlc → Hlc) (s : State) : State := { s with hlc := f s.hlc }

/-- The subscription record of `x`. -/
def State.record (s : State) (x : Sub) : SubRecord := s.sbs.recs.get x
/-- Change the subscription record of `x`. -/
def State.onRecord (x : Sub) (f : SubRecord → SubRecord) (s : State) : State :=
  s.onSbs fun b => { b with recs := b.recs.upd x f }
/-- What PSC keeps for `x`. -/
def State.pscOf (s : State) (x : Sub) : PscSub := s.psc.per.get x
/-- Change what PSC keeps for `x`. -/
def State.onPscOf (x : Sub) (f : PscSub → PscSub) (s : State) : State :=
  s.onPsc fun p => { p with per := p.per.upd x f }
/-- What MOB keeps for `x`. -/
def State.mobOf (s : State) (x : Sub) : MobSub := s.mob.get x
/-- Change what MOB keeps for `x`. -/
def State.onMobOf (x : Sub) (f : MobSub → MobSub) (s : State) : State := s.onMob fun m => m.upd x f
/-- The serving record of `x`. -/
def State.serving (s : State) (x : Sub) : Option Serving := (s.mobOf x).serving
/-- The activity state of `x`. -/
def State.activity (s : State) (x : Sub) : Activity := (s.record x).activity

/-- CAMPED, ATTENDED and IN_CALL are the camped states (R25). -/
def Activity.isCampedState : Activity → Bool
  | .camped | .attended | .inCall => true
  | .detached | .noService => false

/-- ATTENDED or IN_CALL. -/
def Activity.isBusy : Activity → Bool
  | .attended | .inCall => true
  | .camped | .detached | .noService => false

/-! ### Counts, tables and lists -/

/-- A count one higher, staying at its maximum (00_scope.md 3.6). -/
def satInc (max n : Nat) : Nat := if n < max then n + 1 else max

/-- A timer one lower, staying at 0. -/
def countDown (n : Nat) : Nat := n - 1

/-- The entry of a table at an index, absent beyond its end. -/
def entryAt {α : Type} (l : List (Option α)) (i : Nat) : Option α := (l[i]?).getD none

/-- The lowest index of a free entry (log 8). -/
def lowestFree {α : Type} (l : List (Option α)) : Option Nat := l.findIdx? Option.isNone

/-- A list of `n` entries: the items of `l`, then absent entries. -/
def padTable {α : Type} (n : Nat) (l : List α) : List (Option α) :=
  (l.map some ++ List.replicate n none).take n

/-- The entries of a table that are taken, each with its index, in index order. -/
def takenFrom {α : Type} : Nat → List (Option α) → List (Nat × α)
  | _, [] => []
  | i, none :: l => takenFrom (i + 1) l
  | i, some e :: l => (i, e) :: takenFrom (i + 1) l

/-- The taken entries of a table with their indexes. -/
def taken {α : Type} (l : List (Option α)) : List (Nat × α) := takenFrom 0 l

/-- Insert before the first member that `before` does not put ahead; members that compare equal keep their order. -/
def insertBy {α : Type} (before : α → α → Bool) (x : α) : List α → List α
  | [] => [x]
  | y :: l => if before x y then x :: y :: l else y :: insertBy before x l

/-- A list in order, equal members in the order given. -/
def sortBy {α : Type} (before : α → α → Bool) (l : List α) : List α :=
  l.foldl (fun acc x => insertBy before x acc) []

/-- The distinct members of a list, each at its first place. -/
def distinct {α : Type} [DecidableEq α] (l : List α) : List α :=
  l.foldl (fun acc x => if acc.contains x then acc else acc ++ [x]) []

/-! ### Levels (R87, R88) -/

/-- A level brought into the part's range (R87). -/
def clampLevel (m : Int) : Int := if m < -280 then -280 else if -60 < m then -60 else m

/-- The rounded level of a filtered level: a half goes toward plus infinity (R87). -/
def rounded (f : Int) : Int := (f + 8) / 16

/-- The filter update: the difference halved k times, rounded toward minus infinity (R88). -/
def filterStep (k : Nat) (f m : Int) : Int := f + (16 * clampLevel m - f) / (2 ^ k)

/-- A filtered level after a valid level arrives: set where it has no value, else updated (R88, R94). -/
def filtered (k : Nat) (f : Option Int) (m : Int) : Int :=
  match f with
  | none => 16 * clampLevel m
  | some f => filterStep k f m

/-! ### Sequence arithmetic (00_scope.md 3.5) -/

/-- The forward distance of a sequence number from a position, modulo 256. -/
def seqDist (position n : Seq) : Nat := (n - position).toNat

/-- Ahead of the position: forward distance 1 to 127. -/
def seqAhead (position n : Seq) : Bool := 1 ≤ seqDist position n && seqDist position n ≤ 127

/-! ### The host-bound queue and the result queue (R166, R168) -/

/-- An entry is offered to the host-bound queue: it joins the tail, or is lost and counted (R168). -/
def State.offerEntry (e : HostEntry) (s : State) : State :=
  s.onHlc fun h =>
    if h.queue.length < Config.hostDepth then { h with queue := h.queue ++ [e] }
    else { h with
      lostReports := satInc 255 h.lostReports
      lostWake := h.lostWake || (e.wake && h.host == .dozing) }

/-- A report of DEFER class (11 section 11.6). -/
def State.report (r : Report) (s : State) : State := s.offerEntry ⟨.report r, false, false⟩

/-- A report of wake class. -/
def State.reportWake (r : Report) (s : State) : State := s.offerEntry ⟨.report r, true, false⟩

/-- A RESULT joins the result queue (R166). -/
def State.pushResult (r : ResultFrame) (s : State) : State :=
  s.onHlc fun h => { h with results := h.results ++ [r] }

/-! ### Listen filters and the classifier's counts (R56 to R59) -/

/-- Open or close the listen filter of `x` (R59). -/
def State.setFilter (x : Sub) (isOpen : Bool) (s : State) : State :=
  s.onDlc fun d => { d with filters := d.filters.set x isOpen }

/-- A block of `x` stopped as unexpected, by the filter, or as a bad SIGNAL (R57, R58, R64). -/
def State.countFiltered (x : Sub) (s : State) : State :=
  s.onDlc fun d => { d with filtered := d.filtered.upd x (satInc 255) }

/-- A block that no unit can be given (R56). -/
def State.countUnattributed (s : State) : State :=
  s.onDlc fun d => { d with unattributed := satInc 255 d.unattributed }

/-- The stray-answer count (R11). -/
def State.countStray (s : State) : State := s.onSge fun g => { g with stray := satInc 255 g.stray }

/-! ### Call contexts -/

/-- The context of an index. -/
def State.ctx (s : State) (i : Nat) : CallContext := (s.cal.contexts[i]?).getD Reset.context

/-- Change the context of an index. -/
def State.onCtx (i : Nat) (f : CallContext → CallContext) (s : State) : State :=
  s.onCal fun c => { c with contexts := c.contexts.modify i f }

/-- The context indexes, in order. -/
def ctxIndexes : List Nat := [0, 1, 2]

/-- Whether a context is not IDLE and belongs to `x`. -/
def State.ctxOf (s : State) (x : Sub) (i : Nat) : Bool := (s.ctx i).state != .idle && (s.ctx i).sub == x

/-- Whether some context of `x` is not IDLE. -/
def State.hasCtx (s : State) (x : Sub) : Bool := ctxIndexes.any (s.ctxOf x)

/-- The established call: ACTIVE, HOLDING, HELD or RESUMING (R20). -/
def CallState.established : CallState → Bool
  | .active | .holding | .held | .resuming => true
  | .idle | .offered | .originating | .connecting | .releasing => false

/-- Some context of `x` holds an established call (R20, R135). -/
def State.hasCall (s : State) (x : Sub) : Bool := ctxIndexes.any fun i => s.ctxOf x i && (s.ctx i).state.established

/-! ### Transactions -/

/-- The open transactions, with their table indexes. -/
def State.openTxns (s : State) : List (Nat × Txn) := taken s.sge.txns

/-- The open transactions of `x`. -/
def State.txnsOf (s : State) (x : Sub) : List (Nat × Txn) := s.openTxns.filter fun e => e.2.sub == x

/-- The open transaction of `x` with an ident. -/
def State.txnBy (s : State) (x : Sub) (ident : Ident) : Option (Nat × Txn) :=
  (s.txnsOf x).find? fun e => e.2.ident == ident

/-- Whether `x` has an open transaction of a kind. -/
def State.hasTxn (s : State) (x : Sub) (k : TxnKind) : Bool := (s.txnsOf x).any fun e => e.2.kind == k

/-- Change the transaction entry at an index. -/
def State.onTxn (i : Nat) (f : Txn → Txn) (s : State) : State :=
  s.onSge fun g => { g with txns := g.txns.modify i (Option.map f) }

end Machine
end Sys2Proof
end

