-- ==== Sys2Proof/Machine/Flags.lean ====
section
/-! DEFINITION. The two host lines and the oscillator enable, computed from the state that drives them (R83, R169, R171). -/

namespace Sys2Proof.Machine

/-- TXT holds a wake-class text COMPLETE for a full queue (R153). -/
def State.wakeTextHeld (s : State) : Bool :=
  Config.hostDepth ≤ s.hlc.queue.length &&
    s.txt.entries.any fun e => match e with
      | some t => t.state == .complete && t.action == .wake
      | none => false

/-- ATTN by R169, while the reset input is not held. -/
def State.attnLine (s : State) : Bool :=
  match s.hlc.host with
  | .awake => !s.hlc.results.isEmpty || s.hlc.slot.isSome || !s.hlc.queue.isEmpty
  | .dozing => !s.hlc.results.isEmpty || s.hlc.queue.any (·.prompt)

/-- WAKE by R169, while the reset input is not held. -/
def State.wakeLine (s : State) : Bool :=
  match s.hlc.host with
  | .awake => false
  | .dozing => s.hlc.queue.any (·.wake) || s.wakeTextHeld || s.hlc.lostWake

/-- All three outputs: while the reset input is held, both lines deasserted and the enable asserted (R171); the enable is
deasserted in DEEP alone (05 section 5.7). -/
def State.pinsNow (s : State) : Pins :=
  if s.resetHeld then ⟨false, false, true⟩
  else ⟨s.attnLine, s.wakeLine, s.psc.power != .deep⟩

/-- Drive the outputs from the state as it stands. -/
def State.drivePins (s : State) : State := { s with pins := s.pinsNow }

end Sys2Proof.Machine
end

