-- ==== Sys2Proof/Machine/Sleep.lean ====
section
/-! DEFINITION. Windows and connected patterns (R38, R40), and the Paging and Sleep Controller's choice of power state (05 sections 5.7, 5.8). -/

namespace Sys2Proof.Machine

/-! ### Windows and the connected pattern -/

/-- Frame `r` lies in the window that starts at `first` with this slack (log 9: judged modulo 4096). -/
def inWindow (first : Frame) (slack : Nat) (r : Frame) : Bool := frameDist first r ≤ slack

/-- Frame `r` overlaps a cell frame of the copy whose number modulo 16 is less than 14 (R38). -/
def CellCopy.demands (c : CellCopy) (r : Frame) : Bool :=
  let fn := r - frameOf c.offset
  fn.toNat % 16 < 14 || (0 < c.phase && (fn - 1).toNat % 16 < 14)

/-- Frame `r` is demanded by the standing claims of `x`; none while its copy is absent (R38). -/
def State.demanded (s : State) (x : Sub) (r : Frame) : Bool :=
  match s.rta.copies.get x with
  | none => false
  | some c => c.demands r

/-- The least number from 1 to `fuel` for which `p` holds. -/
def leastFrom (p : Nat → Bool) : Nat → Nat → Option Nat
  | _, 0 => none
  | k, fuel + 1 => if p k then some k else leastFrom p (k + 1) fuel

/-- How many frames after the frame in progress a claim could first be eligible (R81). -/
def State.claimGap (s : State) (c : Claim) : Option Nat :=
  if c.state != .waiting then none
  else if c.perFrame then leastFrom (fun k => s.demanded c.sub (s.clock.now + frameOf k)) 1 16
  else if !c.later && inWindow c.first c.slack (s.clock.now + 1) then some 1
  else
    let d := frameDist s.clock.now c.first
    some (if d = 0 then 4096 else d)

/-- The wake frame, as how many frames after the frame in progress it begins; none when no claim gives one (R81). -/
def State.wakeDistance (s : State) : Option Nat :=
  s.rta.claims.foldl (fun acc e =>
    match e.bind s.claimGap, acc with
    | none, acc => acc
    | some k, none => some k
    | some k, some m => some (min k m)) none

/-- The gap of a wake frame `k` frames after the frame in progress, in ticks (R81). -/
def State.gapTicks (s : State) (k : Nat) : Nat := k * Config.frameTicks - s.clock.tick

/-! ### Power states -/

/-- DEEP or LIGHT to AWAKE at once (R84, R85), or the planned return (R82). -/
def State.becomeAwake (s : State) : State :=
  s.onPsc fun p => { p with power := .awake, lightReturn := none, wakeTimer := none, settle := none }

/-- Into WAKING: the settle counter counts the S noted at DEEP entry, and the wake timer is no more (R83, R84). -/
def State.enterWaking (s : State) : State :=
  s.onPsc fun p => { p with power := .waking, wakeTimer := none, settle := some p.notedS, lightReturn := none }

/-- Into DEEP, with S noted and the wake timer set when the gap is bounded (R83). -/
def State.enterDeep (gap : Option Nat) (s : State) : State :=
  s.onPsc fun p => { p with
    power := .deep
    notedS := p.settleS
    wakeTimer := gap.map fun g => g - (p.settleS + Config.frameTicks)
    settle := none
    lightReturn := none }

/-- Into LIGHT, to return at a frame (R82). -/
def State.enterLight (back : Frame) (s : State) : State :=
  s.onPsc fun p => { p with power := .light, lightReturn := some back }

/-- The conditions under which the part may leave AWAKE (R80). -/
def State.maySleep (s : State) : Bool :=
  s.psc.power == .awake && !(s.activity .a).isBusy && !(s.activity .b).isBusy && s.rta.unit.isNone &&
    s.rpt.order.isNone && s.hlc.rx != .receiving && s.hlc.inbound.isEmpty

/-- The depth chosen from the gap; at a gap of 256 the boundary to return at is the present one, and the part stays AWAKE (R82). -/
def State.chooseDepth (s : State) : State :=
  match s.wakeDistance with
  | none => s.enterDeep none
  | some k =>
    let g := s.gapTicks k
    if s.psc.settleS + Config.deepMargin ≤ g then s.enterDeep (some g)
    else if Config.frameTicks < g then s.enterLight (s.clock.now + frameOf (k - 1))
    else s

/-- A sleep evaluation (R80 to R83). -/
def State.evaluate (s : State) : State := if s.maySleep then s.chooseDepth else s

/-- A claim placed, re-placed or resumed in LIGHT or DEEP may bring the wake frame nearer (R85). -/
def State.recomputeWake (s : State) : State :=
  match s.psc.power, s.wakeDistance with
  | .light, some k =>
    if s.gapTicks k ≤ Config.frameTicks then s.becomeAwake
    else match s.psc.lightReturn with
      | none => s.enterLight (s.clock.now + frameOf (k - 1))
      | some f => if k - 1 < frameDist s.clock.now f then s.enterLight (s.clock.now + frameOf (k - 1)) else s
  | .deep, some k =>
    let lead := s.psc.notedS + Config.frameTicks
    let g := s.gapTicks k
    if g ≤ lead then s.enterWaking
    else s.onPsc fun p => { p with
      wakeTimer := some (match p.wakeTimer with
        | none => g - lead
        | some t => min t (g - lead)) }
  | _, _ => s

/-- `n` sleep ticks pass for the two timers that count them (R79). -/
def State.elapse (n : Nat) (s : State) : State :=
  s.onPsc fun p => { p with wakeTimer := p.wakeTimer.map (· - n), settle := p.settle.map (· - n) }

/-- One sleep tick inside a frame; at the frame's 256th the boundary is due, and FRAME_BOUNDARY is its row (R1; log 2). -/
def State.sleepTick (s : State) : State :=
  if s.clock.tick < Config.frameTicks then (s.elapse 1).onClock fun c => { c with tick := c.tick + 1 } else s

end Sys2Proof.Machine
end

