-- ==== Sys2Proof/Machine/Claims.lean ====
section
/-! DEFINITION. Placing, withdrawing, suspending and resuming claims (R36, R37, R39). -/

namespace Sys2Proof.Machine

/-- Standing kinds (03 section 3.3). -/
def ClaimKind.standing : ClaimKind → Bool
  | .traffic | .signalling => true
  | .handoverAccess | .pagingListen | .beaconRead | .measure | .search => false

/-- The place of a kind among the classes, which is its rank (03 section 3.3). -/
def ClaimKind.rank : ClaimKind → Nat
  | .handoverAccess => 0
  | .traffic => 1
  | .signalling => 2
  | .pagingListen => 3
  | .beaconRead => 4
  | .measure => 5
  | .search => 6

/-- A claim serves `x` with kind `k`. -/
def Claim.isFor (c : Claim) (x : Sub) (k : ClaimKind) : Bool := c.sub == x && c.kind == k

/-- The claim of `x` of a kind, with its index. -/
def State.claimOf (s : State) (x : Sub) (k : ClaimKind) : Option (Nat × Claim) :=
  (taken s.rta.claims).find? fun e => e.2.isFor x k

/-- A claim of `x` of a kind is in the table. -/
def State.hasClaim (s : State) (x : Sub) (k : ClaimKind) : Bool := (s.claimOf x k).isSome

/-- A claim of `x` of a kind is in the table and not being withdrawn. -/
def State.claimInPlace (s : State) (x : Sub) (k : ClaimKind) : Bool :=
  match s.claimOf x k with
  | none => false
  | some e => !e.2.withdrawing

/-- Change the claim at an index. -/
def State.onClaim (i : Nat) (f : Claim → Claim) (s : State) : State :=
  s.onRta fun r => { r with claims := r.claims.modify i (Option.map f) }

/-- Free the claim entry at an index. -/
def State.freeClaim (i : Nat) (s : State) : State :=
  s.onRta fun r => { r with claims := r.claims.set i none }

/-- A claim taken anew: WAITING, both marks no, no end code (R36). -/
def newClaim (x : Sub) (k : ClaimKind) (w : Window) : Claim :=
  { sub := x, kind := k, first := w.first, slack := w.slack, length := w.length, period := w.period,
    later := w.later, perFrame := k.standing, state := .waiting, outranked := false, unavailable := false, placement := none,
    withdrawing := false, lastEnd := none, suspend := false }

/-- The values of a placement taken by a claim that is not RUNNING: both marks return to no (R36). -/
def Claim.takeWindow (w : Window) (c : Claim) : Claim :=
  { c with first := w.first, slack := w.slack, length := w.length, period := w.period, later := w.later, outranked := false,
           unavailable := false, placement := none }

/-- A window as RTA takes it in frame `now`: where the first frame's number has passed within the slack, the window is that of the next
frame of this number (R36; log 34). -/
def Window.placedAt (now : Frame) (w : Window) : Window :=
  { w with later := w.first != now + 1 && inWindow w.first w.slack (now + 1) }

/-- A placement on a claim that is in the table (R36): kept as pending while RUNNING, clearing the withdrawing mark. A WAITING claim
given its own first frame again keeps its window (R91, R101). -/
def Claim.placeAgain (w : Window) (c : Claim) : Claim :=
  match c.state with
  | .running => { c with placement := some w, withdrawing := false }
  | .waiting | .heldOut => c.takeWindow (if w.first = c.first then { w with later := c.later } else w)

/-- An owner places a claim (R36); the answer says whether RTA took it. -/
def State.place (x : Sub) (k : ClaimKind) (given : Window) (s : State) : Bool × State :=
  let w := given.placedAt s.clock.now
  match s.claimOf x k with
  | some e => (true, (s.onClaim e.1 (Claim.placeAgain w)).recomputeWake)
  | none =>
    match lowestFree s.rta.claims with
    | none => (false, s)
    | some i => (true, (s.onRta fun r => { r with claims := r.claims.set i (some (newClaim x k w)) }).recomputeWake)

/-- A placement of `x` is asked for and not yet taken (R36). -/
def State.hasAsked (s : State) (x : Sub) (k : ClaimKind) : Bool := s.rta.asked.any fun l => l.contains (k, x)

/-- A placement asked for is not wanted any more. -/
def State.unask (x : Sub) (k : ClaimKind) (s : State) : State :=
  s.onRta fun r => { r with asked := r.asked.map fun l => l.filter (· != (k, x)) }

/-- A placement: taken at once with `now`, or, within a step that a frame boundary brings, asked for and taken in the order of R36 (log 4). -/
def State.ask (x : Sub) (k : ClaimKind) (now : State → State) (s : State) : State :=
  match s.rta.asked with
  | none => now s
  | some l => if l.contains (k, x) then s else s.onRta fun r => { r with asked := some (l ++ [(k, x)]) }

/-- The window of a standing claim (03 section 3.1). Its first frame and slack are not used, and QUERY returns them as 0, the model's
choice (log 59). -/
def standingWindow : Window := ⟨0, 0, 1, 0, false⟩

/-- The holders of the unit in progress, and the unit, marked withdrawn (R56). -/
def State.markUnitWithdrawn (s : State) : State :=
  match s.rta.unit with
  | none => s
  | some u => s.onRta fun r => { r with
      unit := some { u with withdrawn := true }
      holders := r.holders.map fun h => h.map fun h =>
        if h.sub == u.sub && h.kind == u.kind && h.unitFirst == u.first then { h with withdrawn := true } else h }

/-- The read purpose of a BEACON_READ that has ended becomes absent (R105). -/
def State.dropPurpose (x : Sub) (k : ClaimKind) (s : State) : State :=
  if k == .beaconRead then s.onMobOf x fun m => { m with readPurpose := none } else s

/-- An owner withdraws a claim (R37): freed at once, or marked while RUNNING, when a pending placement taken before is dropped with it
(log 36). The owners take no action on WITHDRAWN but for the read purpose. -/
def State.withdraw (x : Sub) (k : ClaimKind) (s : State) : State :=
  let s := s.unask x k
  match s.claimOf x k with
  | none => s
  | some e =>
    match e.2.state with
    | .running => (s.onClaim e.1 fun c => { c with withdrawing := true, placement := none }).markUnitWithdrawn
    | .waiting | .heldOut => (s.freeClaim e.1).dropPurpose x k

/-- An owner suspends a standing claim (R39). -/
def State.suspendClaim (x : Sub) (k : ClaimKind) (s : State) : State :=
  match s.claimOf x k with
  | none => s
  | some e => s.onClaim e.1 fun c =>
      match c.state with
      | .running => { c with suspend := true }
      | .waiting | .heldOut => { c with state := .heldOut }

/-- An owner resumes a standing claim: one that is not HELD_OUT is left as it is (R39). -/
def State.resumeClaim (x : Sub) (k : ClaimKind) (s : State) : State :=
  match s.claimOf x k with
  | none => s
  | some e => (s.onClaim e.1 fun c =>
      match c.state with
      | .heldOut => { c with state := .waiting }
      | .running | .waiting => c).recomputeWake

/-- Withdraw every claim of `x`, in rank order (R25). -/
def State.withdrawAll (x : Sub) (s : State) : State :=
  [ClaimKind.handoverAccess, .traffic, .signalling, .pagingListen, .beaconRead, .measure, .search].foldl
    (fun s k => s.withdraw x k) s

end Sys2Proof.Machine
end

