-- ==== Sys2Proof/Machine/Paging.lean ====
section
/-! DEFINITION. Paging schedules and claims, the missed-occasion run and relaxation (05 sections 5.1, 5.2, 5.4, 5.5), with the MEASURE claim that relaxation paces (R91). -/

namespace Sys2Proof.Machine

/-! ### The MEASURE claim's period -/

/-- A subscription is relaxed while its threshold is above 0 and its count equals it (R76). -/
def PscSub.relaxed (p : PscSub) : Bool := 0 < p.thr && p.relaxCount == p.thr

/-- The period in force of MEASURE (R91). -/
def State.measurePeriod (s : State) (x : Sub) : Nat :=
  let p := (s.mobOf x).params.period
  if (s.pscOf x).relaxed then p * (s.pscOf x).factor else p

/-- MEASURE is placed again with the current occurrence's first frame and the new period (R91); one that is being withdrawn counts as no
longer in the table, the model's choice (log 54). -/
def State.replaceMeasure (x : Sub) (s : State) : State :=
  match s.claimOf x .measure with
  | none => s
  | some e => if e.2.withdrawing then s else (s.place x .measure ⟨e.2.first, 15, 1, s.measurePeriod x, false⟩).2

/-- A change in what relaxation depends on, with what MOB is then told (R77): a new relaxed status, or a new factor while relaxed. -/
def State.withRelax (x : Sub) (f : PscSub → PscSub) (s : State) : State :=
  let before := s.pscOf x
  let s := s.onPscOf x f
  let after := s.pscOf x
  if before.relaxed != after.relaxed || (after.relaxed && before.factor != after.factor) then s.replaceMeasure x else s

/-- The relaxation count is set to 0 (R77). -/
def State.clearRelax (x : Sub) (s : State) : State := s.withRelax x fun p => { p with relaxCount := 0 }

/-- The level PSC holds is at least Qmin plus the margin; an absent level is below it (R76). -/
def PscSub.levelOk (p : PscSub) : Bool :=
  match p.level, p.qmin with
  | some l, some q => decide (q + p.margin ≤ l)
  | _, _ => false

/-- MOB gives PSC the serving rounded level, or none, and Qmin (R76, R77). -/
def State.giveLevel (x : Sub) (level : Option Int) (qmin : Int) (s : State) : State :=
  s.withRelax x fun p =>
    let p := { p with level := level, qmin := some qmin }
    if p.levelOk then p else { p with relaxCount := 0 }

/-- The serving rounded level and Qmin as they stand, given to PSC (R93 step 8, R99, R100). -/
def State.giveServingLevel (x : Sub) (s : State) : State :=
  match s.serving x with
  | none => s
  | some v => s.giveLevel x (v.fs.map rounded) v.qmin

/-! ### The schedule -/

/-- The last four digits of a permanent identity, as a number (R67). -/
def lastFour (d : Digits) : Nat := (d.drop (d.length - 4)).foldl (fun n x => n * 10 + x) 0

/-- The paging schedule of a cell and an identity (R66 to R68). -/
def scheduleOf (v : Serving) (aliasVal : Option AliasValue) (identity : Digits) : Schedule :=
  let cycle := 2 ^ v.c
  let o := match aliasVal with
    | some n => n.toNat % cycle
    | none => lastFour identity % cycle
  { c := v.c, cycle := cycle, byAlias := aliasVal.isSome, o := o, d := v.offset, p := v.phase,
    length := if v.phase = 0 then 2 else 3, residue := (o + v.offset) % cycle }

/-- The schedule of `x` from the serving record and the identity held, if both are there (05 section 5.1). -/
def State.freshSchedule (s : State) (x : Sub) : Option Schedule :=
  match s.serving x, (s.record x).identity with
  | some v, some d => some (scheduleOf v (s.record x).aliasVal d)
  | _, _ => none

/-- The first receiver frame at or after the next boundary whose number leaves the residue (R69). -/
def pagingFirst (now : Frame) (d : Schedule) : Frame :=
  let t := (now + 1).toNat
  frameOf (t + (d.residue + d.cycle - t % d.cycle) % d.cycle)

/-- The window of a PAGING_LISTEN placed now (R69). -/
def State.pagingWindow (s : State) (d : Schedule) : Window := ⟨pagingFirst s.clock.now d, 0, d.length, d.cycle, false⟩

/-! ### The missed-occasion run (R75) -/

/-- The run is set to 0. -/
def State.clearRun (x : Sub) (s : State) : State := s.onPscOf x fun p => { p with missed := 0, denied := 0 }

/-- An occasion ended MISSED or DENIED; the fourth in a row makes a PAGING_DEGRADED report. -/
def State.lostOccasion (x : Sub) (wasMissed : Bool) (s : State) : State :=
  let p := s.pscOf x
  let missed := if wasMissed then p.missed + 1 else p.missed
  let denied := if wasMissed then p.denied else p.denied + 1
  if 4 ≤ missed + denied then (s.clearRun x).report (.pagingDegraded x missed denied)
  else s.onPscOf x fun p => { p with missed := missed, denied := denied }

/-! ### The PAGING_LISTEN claim -/

/-- PSC places the claim of `x` (R69), whose conditions besides the schedule the caller has seen to; a refused placement waits for the
next boundary of the listen residue. -/
def State.tryPaging (x : Sub) (s : State) : State :=
  match (s.pscOf x).schedule with
  | none => s
  | some d =>
    match s.place x .pagingListen (s.pagingWindow d) with
    | (true, s) => s.onPscOf x fun p => { p with retry := .none }
    | (false, s) => (s.onPscOf x fun p => { p with retry := .waiting }).lostOccasion x true

/-- PSC places the claim of `x` unless its registration is REJECTED (R69). -/
def State.placePaging (x : Sub) (s : State) : State :=
  if (s.record x).registration == .rejected then s else s.ask x .pagingListen (State.tryPaging x)

/-- PSC withdraws the claim of `x`, and no placement is tried again (R69, R70). -/
def State.withdrawPaging (x : Sub) (s : State) : State :=
  (s.withdraw x .pagingListen).onPscOf x fun p => { p with retry := .none }

/-- The claim of `x` is placed again with a first frame computed anew, if it is in the table (R70); a claim RUNNING and being withdrawn counts
as one that is no longer in it, the model's choice (log 47). -/
def State.replacePaging (x : Sub) (s : State) : State :=
  match (s.pscOf x).schedule with
  | none => s
  | some d => if s.claimInPlace x .pagingListen then (s.place x .pagingListen (s.pagingWindow d)).2 else s

/-- PSC computes the schedule of `x` anew; another residue or length re-places the claim (R66, R70). -/
def State.recomputeSchedule (x : Sub) (s : State) : State :=
  let before := (s.pscOf x).schedule
  let fresh := s.freshSchedule x
  let s := s.onPscOf x fun p => { p with schedule := fresh, retry := if fresh.isSome then p.retry else .none }
  if before.map (fun d => (d.residue, d.length)) == fresh.map (fun d => (d.residue, d.length)) then s
  else s.replacePaging x

/-- PSC's part of a teardown (R24, R25, R66, R75 to R77): schedule, retry, run, relaxation and copies are cleared. -/
def PscSub.tornDown (p : PscSub) : PscSub :=
  { p with schedule := none, retry := .none, missed := 0, denied := 0, relaxCount := 0, level := none, qmin := none }

/-! ### The end of a listen -/

/-- A DONE listen that was heard and matched nobody, under an adequate level, advances the relaxation count up to the threshold (R76). -/
def State.quietListen (x : Sub) (h : Listen) (s : State) : State :=
  if h.goodHeard && !h.matched && (s.pscOf x).levelOk && (s.pscOf x).relaxCount < (s.pscOf x).thr then
    s.withRelax x fun p => { p with relaxCount := p.relaxCount + 1 }
  else s

/-- What was heard in the listen whose unit began at `first`, if there was one (log 29). -/
def PscSub.heardIn (p : PscSub) (first : Option Frame) : Option Listen :=
  p.listens.find? fun h => some h.first == first

/-- An occurrence of PAGING_LISTEN has ended (R75, R76); `first` is the first frame of its unit, if one ran. -/
def State.listenEnded (x : Sub) (code : EndCode) (first : Option Frame) (s : State) : State :=
  match code, (s.pscOf x).heardIn first with
  | .done, none => s.clearRun x
  | .done, some h => (s.clearRun x).quietListen x h
  | .missed, _ => s.lostOccasion x true
  | .denied, _ => s.lostOccasion x false
  | .radioFault, _ => s
  | .withdrawn, none => s
  | .withdrawn, some h => if h.goodHeard then s.clearRun x else s

end Sys2Proof.Machine
end

