-- ==== Sys2Proof/Machine/Signalling.lean ====
section
/-! DEFINITION. The Signalling Engine's own operations: offering a message, the queue and its holds, idents, and the SIGNALLING claim (R5 to R10). Ending a transaction stands in Answers.lean, after its owners. -/

namespace Sys2Proof.Machine

/-- The default answer times, in the order of the kinds (R7). -/
def defaultAnswerTimes : List Nat := [64, 2048, 512, 256, 256, 256, 256, 128, 1024, 256]

/-- The place of a transaction kind in the table of answer times (R7). -/
def TxnKind.place : TxnKind → Nat
  | .link => 0
  | .setup => 1
  | .connect => 2
  | .hold => 3
  | .resume => 4
  | .release => 5
  | .textOut => 6
  | .measReport => 7
  | .area => 8
  | .pass => 9

/-- The answer time of a kind for `x`: the override, else the default (R7). -/
def State.answerTime (s : State) (x : Sub) (k : TxnKind) : Nat :=
  (entryAt (s.record x).overrides k.place).getD ((defaultAnswerTimes[k.place]?).getD 0)

/-- The first ident from `n` on, stepping modulo 16, that `used` does not hold (R6). -/
def freeIdent (used : List Ident) : Nat → Ident → Ident
  | 0, n => n
  | fuel + 1, n => if used.contains n then freeIdent used fuel (n + 1) else n

/-- The idents of the open transactions of `x`. -/
def State.usedIdents (s : State) (x : Sub) : List Ident := (s.txnsOf x).map (·.2.ident)

/-- The ident the next transaction of `x` is given (R6). -/
def State.nextFreeIdent (s : State) (x : Sub) : Ident := freeIdent (s.usedIdents x) 15 (s.sge.nextIdent.get x)

/-- What an owner offers SGE: who owns it, the kind it opens if any, the ident it echoes otherwise, and its content. -/
structure Offer where
  owner  : Option Owner
  opens  : Option TxnKind
  echo   : Ident
  reason : Option PageReason
  body   : UpBody
deriving DecidableEq, Repr

/-- Internal owners have overflow holds; the host, and a message of no owner, have none (R9, R121, R133). -/
def Owner.hasHold : Owner → Bool
  | .ctx _ | .txt | .mob | .psc => true
  | .host => false

/-- The uplink queue of `x` has no place (R9). -/
def State.queueFull (s : State) (x : Sub) : Bool := Config.uplinkDepth ≤ (s.sge.queues.get x).length

/-- The hold of an owner for `x` is occupied (R9). -/
def State.holdTaken (s : State) (x : Sub) (o : Owner) : Bool :=
  (s.sge.holds.get x).any fun m => m.owner == some o

/-- A message has a place: in the queue, or in its owner's empty hold (R9). -/
def State.hasPlace (s : State) (x : Sub) (o : Option Owner) : Bool :=
  !s.queueFull x ||
    match o with
    | none => false
    | some o => o.hasHold && !s.holdTaken x o

/-- All 8 transaction entries are in use (R5). -/
def State.tableFull (s : State) : Bool := (lowestFree s.sge.txns).isNone

/-- A message joins the tail of the queue, or its owner's hold when the queue is full (R9). -/
def State.enqueue (x : Sub) (m : Msg) (s : State) : State :=
  if s.queueFull x then s.onSge fun g => { g with holds := g.holds.upd x (· ++ [m]) }
  else s.onSge fun g => { g with queues := g.queues.upd x (· ++ [{ m with wait := 0 }]) }

/-- SGE would take an offer: the message has a place, and an entry if it opens a transaction (R5, R9). -/
def State.takesOffer (s : State) (x : Sub) (o : Offer) : Bool :=
  s.hasPlace x o.owner && !(o.opens.isSome && s.tableFull)

/-- The owner a transaction of an offer has; only the host offers messages that open one without naming itself. -/
def Offer.txnOwner (o : Offer) : Owner := o.owner.getD .host

/-- An owner offers SGE a message (R5, R6, R9): the ident it carries when taken, and nothing changed when refused.
The SIGNALLING claim and the activity state follow at the end of the caller's actions (`settle`). -/
def State.offer (x : Sub) (o : Offer) (s : State) : Option Ident × State :=
  if !s.takesOffer x o then (none, s)
  else match o.opens, lowestFree s.sge.txns with
    | some k, some i =>
      let ident := s.nextFreeIdent x
      let t : Txn := { sub := x, kind := k, ident := ident, owner := o.txnOwner, state := .queued, answer := none,
                       idle := none, reason := o.reason }
      let s := s.onSge fun g => { g with txns := g.txns.set i (some t), nextIdent := g.nextIdent.set x (ident + 1) }
      (some ident, s.enqueue x ⟨o.owner, ident, true, o.body, 0⟩)
    | _, _ => (some o.echo, s.enqueue x ⟨o.owner, o.echo, false, o.body, 0⟩)

/-- An offer without a transaction, dropped if refused (R115, R121, R133, R151). -/
def State.offerPlain (x : Sub) (owner : Option Owner) (echo : Ident) (body : UpBody) (s : State) : State :=
  (s.offer x ⟨owner, none, echo, none, body⟩).2

/-! ### Owners that wait to offer again (R5) -/

/-- A waiter begins to wait, at the end of the order, unless it waits already. -/
def State.beginWait (w : WaitKind) (x : Sub) (s : State) : State :=
  if s.sge.waiters.any fun e => e.what == w && e.sub == x then s
  else s.onSge fun g => { g with waiters := g.waiters ++ [⟨w, x, false⟩] }

/-- A waiter waits no more. -/
def State.endWait (w : WaitKind) (x : Sub) (s : State) : State :=
  s.onSge fun g => { g with waiters := g.waiters.filter fun e => !(e.what == w && e.sub == x) }

/-- A waiter can try: an update only in a camped state (R27). -/
def State.mayTry (s : State) (e : Waiter) : Bool := e.what == .segment || (s.activity e.sub).isCampedState

/-- An event has come for the waiters that `p` picks and that can try. -/
def State.markWaiters (p : Waiter → Bool) (s : State) : State :=
  s.onSge fun g => { g with waiters := g.waiters.map fun e => if p e && s.mayTry e then { e with due := true } else e }

/-- A waiter has tried at the events so far. -/
def State.clearDue (w : WaitKind) (x : Sub) (s : State) : State :=
  s.onSge fun g => { g with waiters := g.waiters.map fun e => if e.what == w && e.sub == x then { e with due := false } else e }

/-- The waiters that an event has come for and that can try, in the order in which they began to wait (R5). -/
def State.dueWaiters (s : State) : List Waiter := s.sge.waiters.filter fun e => e.due && s.mayTry e

/-! ### Messages and entries leaving -/

/-- The outstanding order no longer carries a message that is in the queue of `x` (R8). -/
def State.forgetHead (x : Sub) (s : State) : State :=
  s.onRpt fun r => { r with order := r.order.map fun o => if o.sub == x then { o with carriesHead := false } else o }

/-- The message at a place of the queue of `x` leaves it; the held messages follow by a step of their own (R9), and the
owners that wait for a place may try (R27, R158). -/
def State.dropQueued (x : Sub) (pos : Nat) (s : State) : State :=
  if pos < (s.sge.queues.get x).length then
    let s := if pos = 0 then s.forgetHead x else s
    (s.onSge fun g => { g with queues := g.queues.upd x (·.eraseIdx pos) }).markWaiters fun e => e.sub == x
  else s

/-- The message that opened the transaction of an ident. -/
def Msg.isOpenerOf (m : Msg) (ident : Ident) : Bool := m.opens && m.ident == ident

/-- The message of a transaction that ends is removed from the queue or its hold (R5). -/
def State.removeMessage (x : Sub) (ident : Ident) (s : State) : State :=
  let s := match (s.sge.queues.get x).findIdx? (·.isOpenerOf ident) with
    | none => s
    | some pos => s.dropQueued x pos
  s.onSge fun g => { g with holds := g.holds.upd x (·.filter fun m => !m.isOpenerOf ident) }

/-- Steps 1 and 2 of a transaction's ending: the entry is freed and its message removed (R5). -/
def State.freeTxn (i : Nat) (s : State) : State :=
  match entryAt s.sge.txns i with
  | none => s
  | some t =>
    ((s.onSge fun g => { g with txns := g.txns.set i none }).removeMessage t.sub t.ident).markWaiters fun _ => true

/-- Free every open transaction of `x` that `p` picks, without an outcome. -/
def State.freeTxns (x : Sub) (p : Txn → Bool) (s : State) : State :=
  ((s.txnsOf x).filter fun e => p e.2).foldl (fun s e => s.freeTxn e.1) s

/-- The queue and holds of `x` are emptied (R17). -/
def State.emptyUplink (x : Sub) (s : State) : State :=
  (s.forgetHead x).onSge fun g => { g with queues := g.queues.set x [], holds := g.holds.set x [] }

/-! ### The SIGNALLING claim -/

/-- SGE places SIGNALLING for `x`; a refusal leaves it to the next re-examination (R10, R36). -/
def State.placeSignalling (x : Sub) (s : State) : State := (s.place x .signalling standingWindow).2

/-- SGE re-examines the SIGNALLING claim of `x` (R10). -/
def State.reexamine (x : Sub) (s : State) : State :=
  if s.claimInPlace x .traffic then s.withdraw x .signalling
  else if (s.sge.queues.get x).isEmpty && (s.txnsOf x).isEmpty then s.withdraw x .signalling
  else if s.claimInPlace x .signalling then s
  else s.ask x .signalling (State.placeSignalling x)

/-- A good SIGNAL block for `x` restarts the idle timer of its LINKED LINK transaction (R3, R14). -/
def State.restartLinkIdle (x : Sub) (s : State) : State :=
  s.onSge fun g => { g with
    txns := g.txns.map fun e => e.map fun t =>
      if t.sub == x && t.kind == .link && t.state == .linked then { t with idle := some Config.linkIdleTime } else t }

/-- The head of the queue of `x` has left in a granted frame: it is removed, and its transaction becomes SENT with the
answer timer started (R7, R8). -/
def State.headLeaves (x : Sub) (s : State) : State :=
  match (s.sge.queues.get x).head? with
  | none => s
  | some m =>
    let s := s.dropQueued x 0
    if m.opens then
      match s.txnBy x m.ident with
      | none => s
      | some e => s.onTxn e.1 fun t => { t with state := .sent, answer := some (s.answerTime x t.kind) }
    else s

end Sys2Proof.Machine
end

