-- ==== Sys2Proof/Machine/Subscriber.lean ====
section
/-! DEFINITION. The Subscriber Store: standing, area updates and the number table (chapter 2). -/

namespace Sys2Proof.Machine

/-! ### Standing (R30) -/

/-- The standing of a record from its activity and registration (R30). -/
def SubRecord.standingNow (r : SubRecord) : Standing :=
  match r.activity with
  | .detached | .noService => .none
  | .camped | .attended | .inCall =>
    match r.registration with
    | .rejected => .limited
    | .registered => .full
    | .unregistered | .updating => r.standing

/-- SBS computes the standing, and reports it when it has changed (R30). -/
def State.updateStanding (x : Sub) (s : State) : State :=
  let r := s.record x
  let now := r.standingNow
  if now = r.standing then s
  else (s.onRecord x fun r => { r with standing := now }).reportWake
    (.serviceState x now r.registration r.activity (if now = .limited then r.rejectItem else none))

/-! ### Area updates (R26 to R29) -/

/-- An update is due for the serving cell's area code by the first event of R26. -/
def SubRecord.dueFor (r : SubRecord) (area : Nat) : Bool :=
  match r.registration with
  | .unregistered => true
  | .registered => r.lastArea != some area
  | .rejected => r.rejectedArea != some area
  | .updating => false

/-- Update pending is set to yes, and SBS begins to wait for the events of R27. -/
def State.pendUpdate (x : Sub) (byPage : Bool) (s : State) : State :=
  (s.onRecord x fun r => { r with updatePending := true, updateByPage := r.updateByPage || byPage }).beginWait .update x

/-- Update pending becomes no. -/
def State.dropUpdate (x : Sub) (s : State) : State :=
  (s.onRecord x fun r => { r with updatePending := false, updateByPage := false }).endWait .update x

/-- The identity an AREA_UPDATE carries: the alias if one is held, otherwise the permanent identity (R27). -/
def SubRecord.updateIdentity (r : SubRecord) : Option Identity :=
  match r.aliasVal with
  | some v => some (.aliasId v)
  | none => r.identity.map .permanent

/-- The AREA_UPDATE of `x` on a cell of area `area` (R27). -/
def State.areaOffer (s : State) (x : Sub) (area : Nat) : Offer :=
  { owner := some .psc, opens := some .area, echo := 0, reason := none,
    body := .areaUpdate (s.record x).updateIdentity ((s.record x).lastArea.getD area) area }

/-- An update that is due is opened, or left pending (R27). The other's call holds it back from the moment it is established, be the activity
state still to be derived in the same step (R127; log 21). -/
def State.openUpdate (x : Sub) (byPage : Bool) (s : State) : State :=
  match s.serving x with
  | none => s
  | some v =>
    if s.activity x.other == .inCall || s.hasCall x.other then s.pendUpdate x byPage
    else match s.offer x (s.areaOffer x v.area) with
      | (none, s) => s.pendUpdate x byPage
      | (some _, s) => (s.dropUpdate x).onRecord x fun r => { r with registration := .updating }

/-- MOB passes SBS the serving cell's area code (R23, R26). -/
def State.areaPassed (x : Sub) (s : State) : State :=
  match s.serving x with
  | none => s
  | some v => if (s.record x).dueFor v.area then s.openUpdate x false else s

/-- SBS tries a pending update again, comparing the area anew; one a page raised stays due (R27). -/
def State.retryUpdate (x : Sub) (s : State) : State :=
  match s.serving x with
  | none => s
  | some v =>
    if (s.record x).updateByPage || (s.record x).dueFor v.area then s.openUpdate x (s.record x).updateByPage
    else s.dropUpdate x

/-- The registration of `x` becomes REJECTED (R28): its paging claim, if in place, is withdrawn (R70). -/
def State.reject (x : Sub) (item : RejectItem) (s : State) : State :=
  (s.onRecord x fun r => { r with registration := .rejected, rejectedArea := (s.serving x).map (·.area), lastArea := none,
                                  rejectItem := some item }).withdrawPaging x

/-- What AREA_ACCEPT brings (R28, R29): a new alias makes PSC compute the schedule anew (R66). -/
def State.areaAccepted (x : Sub) (area : Nat) (newAlias : Option AliasValue) (s : State) : State :=
  let t := s.onRecord x fun r => { r with registration := .registered, lastArea := some area, rejectedArea := none,
                                          rejectItem := none, aliasVal := newAlias.orElse fun _ => r.aliasVal }
  if newAlias.isSome then t.recomputeSchedule x else t

/-- What SBS does at the end of an AREA transaction (R28): the standing follows the new registration (R30), and a further update is opened
within the same ending. -/
def State.areaEnded (x : Sub) (outcome : TxnOutcome) (accept : Option (Nat × Option AliasValue)) (s : State) : State :=
  match outcome, accept with
  | .answered, some (area, newAlias) => ((s.areaAccepted x area newAlias).updateStanding x).areaPassed x
  | .refused item, _ => ((s.reject x (.item item)).updateStanding x).areaPassed x
  | .timeout, _ => ((s.reject x .timeout).updateStanding x).areaPassed x
  | .noService, _ => s.onRecord x fun r => { r with registration := .unregistered }
  | _, _ => s

/-! ### Numbers (R32 to R34) -/

/-- A number begins with a digit string when at least one digit follows it (R32). -/
def beginsWith (number start : Digits) : Bool := start.isPrefixOf number && start.length < number.length

/-- The trunk prefix removed and the home country code in front, when the number begins with that digit (R32). -/
def withoutTrunk (r : SubRecord) (number : Digits) : Option Digits :=
  match r.trunk with
  | some t => if beginsWith number [t] then some (r.homeCode.getD [] ++ number.tail) else none
  | none => none

/-- At most the last 20 digits of a number (R33). -/
def lastTwenty (d : Digits) : Digits := d.drop (d.length - 20)

/-- The international form of a received number by the record of its subscription (R32, R33); the withheld number stays empty. -/
def normalise (r : SubRecord) (type : NumberType) (number : Digits) : Digits :=
  if number.isEmpty then []
  else lastTwenty <|
    match type with
    | .international => number
    | .national => (withoutTrunk r number).getD (r.homeCode.getD [] ++ number)
    | .unknown =>
      match r.intlPre with
      | some p => if number = p then number else if beginsWith number p then number.drop p.length else (withoutTrunk r number).getD number
      | none => (withoutTrunk r number).getD number

/-- The last `n` digits of a string. -/
def lastDigits (n : Nat) (d : Digits) : Digits := d.drop (d.length - n)

/-- An entry qualifies for a number; the answer is how it ranks: EXACT above every SUFFIX, a larger n above a smaller (R33). -/
def NumberEntry.qualifies (e : NumberEntry) (number : Digits) : Option Nat :=
  match e.mode with
  | .exact => if e.digits = number then some 21 else none
  | .suffix n => if n ≤ number.length && lastDigits n e.digits = lastDigits n number then some n else none

/-- The winning entry among those left, each with its index: the best rank, the lowest index among equals (R33). -/
def bestEntry (number : Digits) : List (Nat × NumberEntry) → Option (Nat × Nat × NumberEntry)
  | [] => none
  | (i, e) :: rest =>
    match e.qualifies number, bestEntry number rest with
    | none, b => b
    | some n, none => some (n, i, e)
    | some n, some b => if b.1 ≤ n then some (n, i, e) else some b

/-- A number looked up: the winning index, and the two actions, WAKE and QUIET where no entry qualifies (R33). -/
def State.lookup (s : State) (number : Digits) : Option Nat × CallAction × TextAction :=
  if number.isEmpty then (none, .wake, .quiet)
  else match bestEntry number (taken s.sbs.numbers) with
    | none => (none, .wake, .quiet)
    | some (_, i, e) => (some i, e.callAction, e.textAction)

end Sys2Proof.Machine
end

