-- ==== Sys2Proof/Machine/Voice.lean ====
section
/-! DEFINITION. The Voice Path (chapter 9). -/

namespace Sys2Proof.Machine

/-- The DOWN_SPEECH frame of the speech slot is replaced, the older one lost without a count (R167). -/
def State.sendSpeech (f : DownSpeech) (s : State) : State :=
  s.onHlc fun h => { h with slot := some f, slotBegun := false }

/-- A context has entered ACTIVE (R138): a fresh fill to the target depth of its subscription (R137). -/
def State.voiceStart (x : Sub) (i : Nat) (s : State) : State :=
  s.onVcp fun v => { v with
    playout := .filling
    call := some (x, i)
    queue := []
    depth := (s.record x).voiceDepth.getD 3
    position := none
    lastFrame := none
    subRun := 0
    lateRun := 0
    resync := false
    fillAfter := false
    upSeq := 0 }

/-- The ACTIVE context has left ACTIVE (R138); the speech slot is emptied with it (R167). -/
def State.voiceStop (s : State) : State :=
  (s.onVcp fun v => { v with playout := .stopped, call := none, queue := [], uplink := [], position := none, lastFrame := none,
                             fillAfter := false }).onHlc fun h => { h with slot := none, slotBegun := false }

/-- A frame at its place in the playout queue: increasing forward distance from the position (R139). -/
def insertSpeech (position : Seq) (f : SpeechFrame) (q : List SpeechFrame) : List SpeechFrame :=
  insertBy (fun x y => seqDist position x.seq ≤ seqDist position y.seq) f q

/-- A fill that has reached the target depth ends (R139). -/
def Vcp.endFill (v : Vcp) : Vcp :=
  if v.playout == .filling && v.depth ≤ v.queue.length then { v with playout := .playing, fillAfter := false } else v

/-- Start a new fill at a frame (R139 step 2, R140). -/
def Vcp.firstOfFill (f : SpeechFrame) (v : Vcp) : Vcp := { v with position := some (f.seq - 1), queue := [f] }

/-- A frame discarded as late, or the resynchronisation on it (R140). -/
def Vcp.lateFrame (f : SpeechFrame) (v : Vcp) : Vcp :=
  let v := { v with late := satInc 255 v.late }
  if v.lateRun = 3 || v.resync then
    let after := v.playout == .playing || v.fillAfter
    Vcp.endFill (Vcp.firstOfFill f { v with playout := .filling, lateRun := 0, resync := false, fillAfter := after })
  else { v with lateRun := v.lateRun + 1 }

/-- Steps 4 and 5 of R139: a duplicate is discarded, another frame inserted, the head first dropped from a full queue. -/
def Vcp.insertFrame (position : Seq) (f : SpeechFrame) (v : Vcp) : Vcp :=
  let v := { v with lateRun := 0, resync := false }
  if v.queue.any (·.seq == f.seq) then v
  else
    let v := if Config.playoutDepth ≤ v.queue.length then { v with queue := v.queue.tail, overflow := satInc 255 v.overflow } else v
    ({ v with queue := insertSpeech position f v.queue }).endFill

/-- A good VOICE block of `x` (R139). -/
def Vcp.goodVoice (x : Sub) (f : SpeechFrame) (v : Vcp) : Vcp :=
  if v.playout == .stopped || v.call.map (·.1) != some x then v
  else match v.position with
    | none => (({ v with resync := false }).firstOfFill f).endFill
    | some position => if seqAhead position f.seq then v.insertFrame position f else v.lateFrame f

/-- A speech frame the network sent is lost (R142). -/
def Vcp.countLost (v : Vcp) : Vcp := { v with lost := satInc 255 v.lost }

/-- The end code of a TRAFFIC frame, passed on by CAL (R44, R142). -/
def State.trafficEnded (code : EndCode) (s : State) : State :=
  match code with
  | .denied | .missed | .radioFault => s.onVcp Vcp.countLost
  | .done | .withdrawn => s

/-- The bytes of a SUBSTITUTE: the last frame's; free while there is none (log 33). -/
def Vcp.substituteBytes (v : Vcp) : List Byte :=
  v.lastFrame.getD ((List.range Config.speechBytes).map (Config.freeSpeech v.freeDraws))

/-- What fills a hole (R141): a SUBSTITUTE with one more step, or SILENCE from the fourth hole on. -/
def State.fillHole (x : Sub) (i : Nat) (position : Seq) (s : State) : State :=
  if s.vcp.subRun < 3 then
    let run := s.vcp.subRun + 1
    (s.sendSpeech ⟨x, i, position, .substitute, run, s.vcp.substituteBytes⟩).onVcp fun v => { v with
      subRun := run, freeDraws := if v.lastFrame.isNone then v.freeDraws + 1 else v.freeDraws }
  else (s.sendSpeech ⟨x, i, position, .silence, 0, []⟩).onVcp fun v => { v with subRun := 4 }

/-- A playout boundary (R141). -/
def State.playoutBoundary (s : State) : State :=
  match s.vcp.call, s.vcp.position with
  | some (x, i), some position =>
    match s.vcp.playout with
    | .stopped => s
    | .filling => if s.vcp.fillAfter then s.fillHole x i position else s
    | .playing =>
      let next := position + 1
      let t := s.onVcp fun v => { v with position := some next }
      match s.vcp.queue with
      | f :: rest =>
        if f.seq = next then
          (t.sendSpeech ⟨x, i, next, .speech, 0, f.bytes⟩).onVcp fun v => { v with
            queue := rest, subRun := 0, lastFrame := some f.bytes }
        else t.fillHole x i next
      | [] => t.fillHole x i next
  | _, _ => s

/-- An UP_SPEECH frame (R143); `x` is absent when the subscription byte names none that is valid. -/
def Vcp.upSpeech (x : Option Sub) (bytes : List Byte) (v : Vcp) : Vcp :=
  if v.playout == .stopped then v
  else if x.isNone || v.call.map (·.1) != x || bytes.length != Config.speechBytes then
    { v with upDrop := satInc 255 v.upDrop }
  else if Config.speechDepth ≤ v.uplink.length then
    { v with uplink := v.uplink.tail ++ [bytes], upDrop := satInc 255 v.upDrop }
  else { v with uplink := v.uplink ++ [bytes] }

/-- A granted TRAFFIC frame is stolen for signalling: the oldest speech frame is dropped (R144). -/
def Vcp.steal (v : Vcp) : Vcp :=
  match v.uplink with
  | [] => v
  | _ :: rest => { v with uplink := rest, upDrop := satInc 255 v.upDrop }

/-- A granted TRAFFIC frame carries the oldest speech frame if there is one (R144). -/
def Vcp.takeSpeech (v : Vcp) : OrderContent × Vcp :=
  match v.uplink with
  | [] => (.none, v)
  | f :: rest => (.speech v.upSeq f, { v with uplink := rest, upSeq := v.upSeq + 1 })

/-- MOB's first notice: a handover is in progress (R145). -/
def State.voiceHandover (s : State) : State := s.onVcp fun v => { v with handover := true }

/-- MOB's second notice: the access has ended (R145). -/
def State.voiceHandoverEnded (s : State) : State := s.onVcp fun v => { v with handover := false, resync := true }

end Sys2Proof.Machine
end

