-- ==== Sys2Proof/Machine/Calls.lean ====
section
/-! DEFINITION. The Call Unit (chapter 8): moving contexts between states, ending them, what the network's answers do to them. -/

namespace Sys2Proof.Machine

/-! ### Context states -/

/-- A context moves to a state: the hold stack gains and loses HELD contexts (R130), the Voice Path starts and stops with ACTIVE (R138). -/
def State.moveCtx (i : Nat) (st : CallState) (s : State) : State :=
  let old := (s.ctx i).state
  let s := s.onCtx i fun c => { c with state := st }
  let s := if old == .held && st != .held then s.onCal fun c => { c with holdStack := c.holdStack.filter (· != i) } else s
  let s := if st == .held && old != .held then s.onCal fun c => { c with holdStack := c.holdStack ++ [i] } else s
  if st == .active && old != .active then s.voiceStart (s.ctx i).sub i
  else if old == .active && st != .active then s.voiceStop
  else s

/-- The rank of an end cause, highest first (R134). -/
def Cause.rank : Cause → Nat
  | .detached => 2
  | .hostRelease => 3
  | .handoverLost => 4
  | .radioLost => 5
  | .networkRelease => 6
  | .noAnswer => 7
  | .rejected => 8

/-- The cause a context records when an event brings one: a RELEASING context keeps a higher one (R134). -/
def CallContext.causeAfter (c : CallContext) (new : Cause) : Cause :=
  match c.state, c.endCause with
  | .releasing, some old => if new.rank < old.rank then new else old
  | _, _ => new

/-- An event brings an end cause. -/
def State.recordCause (i : Nat) (new : Cause) (s : State) : State :=
  s.onCtx i fun c => { c with endCause := some (c.causeAfter new) }

/-- A context was taken for a rejection by screening (R120, R121). -/
def CallContext.screenedOut (c : CallContext) : Bool := c.screenAction == some .reject

/-- CALL_ENDED of a context going IDLE, but not of a screened rejection (R120). -/
def State.reportEnded (i : Nat) (item : Option ErrorItem) (s : State) : State :=
  let c := s.ctx i
  if c.screenedOut then s
  else s.report (.callEnded c.sub i c.callRef c.direction (c.endCause.getD .rejected) item)

/-- CAL withdraws TRAFFIC when the last non-IDLE context of `x` has gone, and a return check ends with it (R117, R135), its
counter becoming 0, the model's choice (log 68). -/
def State.dropTraffic (x : Sub) (s : State) : State :=
  if s.hasCtx x then s
  else
    let s := (s.withdraw x .traffic).onCal fun c => { c with trafficRetry := c.trafficRetry.set x .none }
    s.onMobOf x fun m => if m.hoState == .returnCheck then { m with hoState := .none, returnCounter := 0 } else m

/-- A context goes IDLE with its recorded cause (R119, R132); that all its fields take their reset values is the model's choice (log 50). -/
def State.endCtx (i : Nat) (item : Option ErrorItem) (s : State) : State :=
  let x := (s.ctx i).sub
  let s := s.reportEnded i item
  ((s.moveCtx i .idle).onCtx i fun _ => Reset.context).dropTraffic x

/-! ### RESULTs that come later (R164, R166) -/

/-- The request code of a pending request (R163). -/
def PendingKind.code : PendingKind → Byte
  | .hold => 14
  | .resume => 15
  | .answer _ => 11

/-- The pending request gets its RESULT and becomes absent. -/
def State.answerPending (code : ResultCode) (s : State) : State :=
  match s.cal.pendingReq with
  | none => s
  | some p => (s.pushResult ⟨p.tag, p.sub, p.kind.code, code, []⟩).onCal fun c => { c with pendingReq := none }

/-- CAL offers a message of a context that opens a transaction. -/
def State.ctxOffer (i : Nat) (k : TxnKind) (body : UpBody) (s : State) : Option Ident × State :=
  s.offer (s.ctx i).sub ⟨some (.ctx i), some k, 0, none, body⟩

/-- An answered context whose automatic hold has settled offers CONNECT, or returns to plain OFFERED (R124, R125). -/
def State.connectAnswered (j : Nat) (s : State) : State :=
  let c := s.ctx j
  if c.state == .offered && c.answerPending then
    match s.ctxOffer j .connect (.connect c.callRef) with
    | (some _, s) =>
      ((s.onCtx j fun c => { c with answerPending := false, ring := none }).moveCtx j .connecting).answerPending .ok
    | (none, s) => (s.onCtx j fun c => { c with answerPending := false }).answerPending .failed
  else s.answerPending .failed

/-- The answered context of a failed automatic hold, if still OFFERED, returns to plain OFFERED (R124). -/
def State.unanswer (j : Nat) (s : State) : State :=
  if (s.ctx j).state == .offered then s.onCtx j fun c => { c with answerPending := false } else s

/-- A context has left HOLDING or RESUMING before its transaction ended (R125, R130, R131). -/
def State.pendingLeft (i : Nat) (s : State) : State :=
  match s.cal.pendingReq with
  | none => s
  | some p =>
    if p.ctx != i then s
    else match p.kind with
      | .hold | .resume => s.answerPending .failed
      | .answer j => s.connectAnswered j

/-- A teardown ends contexts a pending request concerns (R125, R134). -/
def State.failPending (x : Sub) (s : State) : State :=
  match s.cal.pendingReq with
  | none => s
  | some p => if (s.ctx p.ctx).sub == x then s.answerPending .failed else s

/-! ### Release -/

/-- A context enters RELEASING with a cause and offers RELEASE; it goes IDLE at once when SGE refuses (R132). -/
def State.releaseCtx (i : Nat) (cause : Cause) (s : State) : State :=
  let was := (s.ctx i).state
  let ref := (s.ctx i).callRef
  let s := (s.recordCause i cause).onCtx i fun c => { c with ring := none, answerPending := false, connectWaiting := false }
  let s := match (s.moveCtx i .releasing).ctxOffer i .release (.release ref (.cause cause)) with
    | (some _, s) => s
    | (none, s) => s.endCtx i none
  if was == .holding || was == .resuming then s.pendingLeft i else s

/-- The contexts of `x` that are not IDLE. -/
def State.ctxsOf (s : State) (x : Sub) : List Nat := ctxIndexes.filter (s.ctxOf x)

/-- A teardown ends every context of `x` at once, without a message to the network (R134). That several end, and report CALL_ENDED, in the order
of their indexes is the model's choice (DESIGN CHOICE, log 76): R24, R25 and R134 state no order among them. -/
def State.endAllCtxs (x : Sub) (cause : Cause) (s : State) : State :=
  let s := if s.hasCtx x then s.failPending x else s
  (s.ctxsOf x).foldl (fun s i => (s.recordCause i cause).endCtx i none) s

/-! ### Connection -/

/-- CAL places TRAFFIC for `x` unless it is in the table (R135), where one that is being withdrawn counts as absent (log 40); during an
access it is held out from its placement. A refused placement waits for the next boundary. -/
def State.placeTraffic (x : Sub) (s : State) : State :=
  if s.claimInPlace x .traffic then s
  else match s.place x .traffic standingWindow with
    | (true, s) =>
      let s := s.onCal fun c => { c with trafficRetry := c.trafficRetry.set x .none }
      if (s.mobOf x).hoState == .access then s.suspendClaim x .traffic else s
    | (false, s) => s.onCal fun c => { c with trafficRetry := c.trafficRetry.set x .waiting }

/-- A connected context becomes ACTIVE (R127). -/
def State.becomeActive (i : Nat) (s : State) : State :=
  let s := (s.onCtx i fun c => { c with connectWaiting := false }).moveCtx i .active
  let c := s.ctx i
  (s.report (.callConnected c.sub i c.direction)).placeTraffic c.sub

/-- A call is connected: it waits while the other subscription is ATTENDED (R127). -/
def State.callConnected (i : Nat) (s : State) : State :=
  if s.activity (s.ctx i).sub.other == .attended then s.onCtx i fun c => { c with connectWaiting := true }
  else s.becomeActive i

/-! ### Outcomes of the contexts' transactions -/

/-- The item of an outcome, if the network gave one. -/
def TxnOutcome.item? : TxnOutcome → Option ErrorItem
  | .refused e => some e
  | .answered | .timeout | .linkIdle | .closed | .noService | .detached => none

/-- Whether an outcome is ANSWERED. -/
def TxnOutcome.ok : TxnOutcome → Bool
  | .answered => true
  | .refused _ | .timeout | .linkIdle | .closed | .noService | .detached => false

/-- A context moves to ACTIVE, and TRAFFIC is placed for its subscription (R135). -/
def State.moveActive (i : Nat) (s : State) : State := (s.moveCtx i .active).placeTraffic (s.ctx i).sub

/-- The end of a HOLD: HELD, or ACTIVE again; the pending HOLD or automatic-hold ANSWER is completed or fails (R124, R130). -/
def State.holdEnded (i : Nat) (ok : Bool) (s : State) : State :=
  let s := if ok then s.moveCtx i .held else s.moveActive i
  match s.cal.pendingReq with
  | none => s
  | some p =>
    if p.ctx != i then s
    else match p.kind with
      | .hold | .resume => s.answerPending (if ok then .ok else .failed)
      | .answer j => if ok then s.connectAnswered j else (s.unanswer j).answerPending .failed

/-- The end of a RESUME: ACTIVE, or HELD again on the top of the stack (R131). -/
def State.resumeEnded (i : Nat) (ok : Bool) (s : State) : State :=
  (if ok then s.moveActive i else s.moveCtx i .held).answerPending (if ok then .ok else .failed)

/-- The owning context is told the outcome of a transaction (R119, R124, R126, R129 to R132); one in a state the outcome does not concern
ignores it. The item of a refused CONNECT is not carried to CALL_ENDED (log 39). -/
def State.ctxOutcome (i : Nat) (k : TxnKind) (o : TxnOutcome) (s : State) : State :=
  match k, (s.ctx i).state with
  | .setup, .originating =>
    match o with
    | .answered => s.callConnected i
    | .refused item => (s.recordCause i .rejected).endCtx i (some item)
    | .timeout => s.releaseCtx i .noAnswer
    | .linkIdle | .closed | .noService | .detached => s
  | .connect, .connecting =>
    match o with
    | .answered => s.callConnected i
    | .refused _ | .timeout => s.releaseCtx i .rejected
    | .linkIdle | .closed | .noService | .detached => s
  | .hold, .holding => s.holdEnded i o.ok
  | .resume, .resuming => s.resumeEnded i o.ok
  | .release, .releasing => s.endCtx i o.item?
  | _, _ => s

/-- PROCEEDING or ALERT reaches the owning context (R129): a later stage than the one recorded is reported. -/
def State.ctxProgress (i : Nat) (alert : Bool) (s : State) : State :=
  let stage := if alert then Progress.alert else .proceeding
  let later := match (s.ctx i).progress with
    | .none => true
    | .proceeding => alert
    | .alert => false
  if (s.ctx i).state == .originating && later then
    (s.onCtx i fun c => { c with progress := stage }).report (.callProgress (s.ctx i).sub i stage)
  else s

/-! ### Incoming calls -/

/-- A context is free when it is IDLE and owns no open transaction (R119). -/
def State.ctxFree (s : State) (i : Nat) : Bool :=
  (s.ctx i).state == .idle && !s.openTxns.any fun e => e.2.owner == .ctx i

/-- The free context of lowest index (R119). -/
def State.freeCtx (s : State) : Option Nat := ctxIndexes.find? s.ctxFree

/-- `x` has a LINKED LINK transaction (R121). -/
def State.hasLinked (s : State) (x : Sub) : Bool :=
  (s.txnsOf x).any fun e => e.2.kind == .link && e.2.state == .linked

/-- The context of `x` that is not IDLE and holds a call reference (R13, R121, R133). -/
def State.ctxByRef (s : State) (x : Sub) (ref : Nat) : Option Nat :=
  ctxIndexes.find? fun i => s.ctxOf x i && (s.ctx i).callRef == ref

/-- The context a SETUP_IN takes, screened (R121). -/
def State.offeredCtx (s : State) (x : Sub) (ref : Nat) (ident : Ident) (number : Digits) : CallContext :=
  let l := s.lookup number
  let rejected := l.2.1 == .reject
  { sub := x, direction := .incoming, callRef := ref, networkIdent := some ident, digits := number,
    screenAction := some l.2.1, screenEntry := l.1, state := if rejected then .idle else .offered, progress := .none,
    answerPending := false, connectWaiting := false, endCause := none,
    ring := if rejected then none else some ((s.record x).ringTimeout * Config.secondFrames) }

/-- A SETUP_IN takes a context: rejected by screening, or offered to the host (R121). -/
def State.takeSetup (x : Sub) (i ref : Nat) (ident : Ident) (number : Digits) (s : State) : State :=
  let c := s.offeredCtx x ref ident number
  let s := s.onCtx i fun _ => c
  let offered : Report := .callOffered x i ref number c.screenEntry
  match c.screenAction with
  | some .reject => (s.report (.callScreened x ref number (c.screenEntry.getD 0))).releaseCtx i .rejected
  | some .silent => (s.offerPlain x (some (.ctx i)) ident (.alerting ref)).report offered
  | some .wake | none => (s.offerPlain x (some (.ctx i)) ident (.alerting ref)).reportWake offered

/-- SGE hands CAL a SETUP_IN (R121). -/
def State.setupIn (x : Sub) (ident : Ident) (ref : Nat) (type : NumberType) (digits : Digits) (s : State) : State :=
  if !s.hasLinked x && !s.hasCtx x then s
  else if (s.ctxByRef x ref).isSome then s
  else match s.hasCtx x.other, s.freeCtx with
    | false, some i => s.takeSetup x i ref ident (normalise (s.record x) type digits)
    | _, _ => s.offerPlain x none ident (.release ref (.item .peerBusy))

/-! ### Release by the network -/

/-- The cause a network RELEASE brings: REJECTED for a call being set up that the network has not connected (R127, R133). -/
def CallContext.releaseCause (c : CallContext) : Cause :=
  if c.state == .originating && !c.connectWaiting then .rejected else .networkRelease

/-- CAL acts on a network RELEASE whose context's transactions SGE has closed (R133). -/
def State.networkRelease (x : Sub) (ident : Ident) (ref : Nat) (item : Option ErrorItem) (s : State) : State :=
  match s.ctxByRef x ref with
  | none => s.offerPlain x none ident (.releaseDone ref)
  | some i =>
    let was := (s.ctx i).state
    let s := s.recordCause i (s.ctx i).releaseCause
    let s := (s.offerPlain x (some (.ctx i)) ident (.releaseDone ref)).endCtx i item
    if was == .holding || was == .resuming then s.pendingLeft i else s

end Sys2Proof.Machine
end

