-- ==== Sys2Proof/Machine/Texts.lean ====
section
/-! DEFINITION. The Text Unit (chapter 10). -/

namespace Sys2Proof.Machine

/-- Change the reassembly entry at an index. -/
def State.onText (i : Nat) (f : TextEntry → TextEntry) (s : State) : State :=
  s.onTxt fun t => { t with entries := t.entries.modify i (Option.map f) }

/-- The buffers an entry holds: one per held sequence, none in BLOCKED (10 section 10.2). -/
def TextEntry.buffers (e : TextEntry) : Nat := if e.state == .blocked then 0 else e.held.length

/-- An entry returns to FREE and its buffers to the free buffers. -/
def State.freeText (i : Nat) (s : State) : State :=
  match entryAt s.txt.entries i with
  | none => s
  | some e => s.onTxt fun t => { t with
      entries := t.entries.set i none, completion := t.completion.filter (· != i), free := t.free + e.buffers }

/-- The held sequences cover 1..total (R153). -/
def TextEntry.whole (e : TextEntry) : Bool :=
  (List.range e.total).all fun n => e.held.any fun h => h.1 == n + 1

/-- A sequence with its payload at its place, in increasing order. -/
def TextEntry.hold (seq : Nat) (payload : List Byte) (e : TextEntry) : TextEntry :=
  { e with held := insertBy (fun x y => x.1 ≤ y.1) (seq, payload) e.held }

/-- The sequences of 1..total not held, in increasing order (R155). -/
def TextEntry.missing (e : TextEntry) : List Nat :=
  ((List.range e.total).map (· + 1)).filter fun n => !e.held.any fun h => h.1 == n

/-! ### Delivery (R153) -/

/-- HLC has a place for a delivery, and TXT may offer it in this host state (R153). -/
def State.mayDeliver (s : State) (e : TextEntry) : Bool :=
  e.state == .complete && s.hlc.queue.length < Config.hostDepth && (e.action == .wake || s.hlc.host == .awake)

/-- A COMPLETE entry is offered: its delivery joins the host-bound queue, or it stays COMPLETE (R153). -/
def State.offerText (i : Nat) (s : State) : State :=
  match entryAt s.txt.entries i with
  | none => s
  | some e =>
    if s.mayDeliver e then
      ((s.onText i fun e => { e with state := .queued }).onTxt fun t => { t with completion := t.completion.filter (· != i) }).onHlc
        fun h => { h with queue := h.queue ++ [⟨.text i, e.action == .wake, false⟩] }
    else s

/-- TXT offers its COMPLETE entries, oldest completion first (R153). -/
def State.offerTexts (s : State) : State := s.txt.completion.foldl (fun s i => s.offerText i) s

/-- An entry in COLLECTING becomes COMPLETE and takes the next place in completion order, and TXT offers what it holds (R153, R155). -/
def State.completeText (i : Nat) (d : Delivery) (s : State) : State :=
  ((s.onText i fun e => { e with state := .complete, delivery := some d }).onTxt fun t =>
    { t with completion := t.completion ++ [i] }).offerTexts

/-! ### Incoming segments (R149 to R152) -/

/-- The entry that is not FREE and holds a key (R148). -/
def State.textByKey (s : State) (x : Sub) (originator : Digits) (reference : Nat) : Option (Nat × TextEntry) :=
  (taken s.txt.entries).find? fun e => e.2.sub == x && e.2.reference == reference && e.2.originator == originator

/-- TXT acknowledges a segment (R151). -/
def State.ackText (x : Sub) (ident : Ident) (s : State) : State := s.offerPlain x (some .txt) ident .textAck

/-- TXT refuses a segment with an item (R151). -/
def State.nakText (x : Sub) (ident : Ident) (item : ErrorItem) (s : State) : State :=
  s.offerPlain x (some .txt) ident (.textNak item)

/-- A segment turned away with CONGESTION (R149, R150). -/
def State.congested (x : Sub) (ident : Ident) (s : State) : State :=
  (s.nakText x ident .congestion).onTxt fun t => { t with congestion := satInc 255 t.congestion }

/-- A TEXT_SEG as SGE hands it to TXT (R12), the originator normalised. -/
structure Segment where
  originator : Digits
  reference  : Nat
  total      : Nat
  seq        : Nat
  payload    : List Byte
deriving DecidableEq, Repr

/-- The entry a first segment opens (R149, R152); in BLOCKED no payload is kept. -/
def State.firstEntry (s : State) (x : Sub) (g : Segment) (isBlocked : Bool) (found : Option Nat × CallAction × TextAction) : TextEntry :=
  { state := if isBlocked then .blocked else .collecting, sub := x, originator := g.originator, reference := g.reference,
    total := g.total, held := [(g.seq, if isBlocked then [] else g.payload)],
    deadline := (s.record x).reassemblyTimeout * Config.secondFrames, action := found.2.2, entry := found.1, delivery := none }

/-- The completion check of an entry: a whole COLLECTING text is delivered, a whole BLOCKED one is freed (R152, R153). -/
def State.checkWhole (i : Nat) (s : State) : State :=
  match entryAt s.txt.entries i with
  | none => s
  | some e =>
    if !e.whole then s
    else match e.state with
      | .collecting => s.completeText i .received
      | .blocked => s.freeText i
      | .complete | .queued => s

/-- A first segment (R149). -/
def State.firstSegment (x : Sub) (ident : Ident) (g : Segment) (s : State) : State :=
  match lowestFree s.txt.entries with
  | none => s.congested x ident
  | some i =>
    let found := s.lookup g.originator
    if found.2.2 = .block then
      ((s.onTxt fun t => { t with entries := t.entries.set i (some (s.firstEntry x g true found)),
                                  blocked := satInc 255 t.blocked }).ackText x ident).checkWhole i
    else if s.txt.free = 0 then s.congested x ident
    else ((s.onTxt fun t => { t with entries := t.entries.set i (some (s.firstEntry x g false found)),
                                     free := t.free - 1 }).ackText x ident).checkWhole i

/-- A later segment of the text that entry `i` holds (R150). -/
def State.laterSegment (x : Sub) (ident : Ident) (i : Nat) (e : TextEntry) (g : Segment) (s : State) : State :=
  if g.total != e.total then s.nakText x ident .badState
  else if e.held.any fun h => h.1 == g.seq then s.ackText x ident
  else match e.state with
    | .blocked => ((s.onText i (TextEntry.hold g.seq [])).ackText x ident).checkWhole i
    | .complete | .queued => s.ackText x ident
    | .collecting =>
      if s.txt.free = 0 then s.congested x ident
      else (((s.onText i (TextEntry.hold g.seq g.payload)).onTxt fun t => { t with free := t.free - 1 }).ackText x ident).checkWhole i

/-- SGE hands TXT a TEXT_SEG (R149, R150). -/
def State.textSegment (x : Sub) (ident : Ident) (g : Segment) (s : State) : State :=
  match s.textByKey x g.originator g.reference with
  | none => s.firstSegment x ident g
  | some (i, e) => s.laterSegment x ident i e g

/-- A deadline runs out (R155). -/
def State.textDeadline (i : Nat) (s : State) : State :=
  match entryAt s.txt.entries i with
  | none => s
  | some e =>
    match e.state with
    | .collecting => s.completeText i .partialText
    | .blocked => s.freeText i
    | .complete | .queued => s

/-! ### Outgoing texts (R157 to R159) -/

/-- The outgoing text of `x`. -/
def State.outgoingOf (s : State) (x : Sub) : Option Outgoing := s.txt.outgoing.get x

/-- Change the outgoing text of `x`. -/
def State.setOutgoing (x : Sub) (o : Option Outgoing) (s : State) : State :=
  s.onTxt fun t => { t with outgoing := t.outgoing.set x o }

/-- TXT offers the next segment of the outgoing text of `x` (R157, R158); the answer says whether SGE took it. -/
def State.offerSegment (x : Sub) (s : State) : Bool × State :=
  match s.outgoingOf x with
  | none => (false, s)
  | some o =>
    let body := UpBody.textSeg o.reference o.total o.nextSeq o.destination (o.segments.head?.getD [])
    match s.offer x ⟨some .txt, some .textOut, 0, none, body⟩ with
    | (some _, s) => (true, (s.setOutgoing x (some { o with segmentDue := false })).endWait .segment x)
    | (none, s) => (false, s)

/-- TXT offers the next segment, and holds it due where SGE refuses (R158). -/
def State.sendSegment (x : Sub) (s : State) : State :=
  match s.offerSegment x with
  | (true, s) => s
  | (false, s) =>
    match s.outgoingOf x with
    | none => s
    | some o => (s.setOutgoing x (some { o with segmentDue := true })).beginWait .segment x

/-- The outgoing text of `x` is over: the buffers it still holds are freed. -/
def State.dropOutgoing (x : Sub) (s : State) : State :=
  match s.outgoingOf x with
  | none => s
  | some o => ((s.onTxt fun t => { t with free := t.free + o.segments.length }).setOutgoing x none).endWait .segment x

/-- The outgoing text of `x` fails (R159). -/
def State.failText (x : Sub) (cause : TextFailCause) (s : State) : State :=
  match s.outgoingOf x with
  | none => s
  | some o => (s.dropOutgoing x).report (.textFailed x o.reference o.nextSeq cause)

/-- Segment n has been acknowledged: its buffer is freed, and the next segment is offered or the text is sent (R158). -/
def State.segmentAcked (x : Sub) (s : State) : State :=
  match s.outgoingOf x with
  | none => s
  | some o =>
    let s := (s.onTxt fun t => { t with free := t.free + 1 }).setOutgoing x
      (some { o with segments := o.segments.tail, nextSeq := o.nextSeq + 1 })
    if o.nextSeq = o.total then (s.dropOutgoing x).report (.textSent x o.reference) else s.sendSegment x

/-- The end of a TEXT_OUT transaction (R158, R159). -/
def State.textOutEnded (x : Sub) (outcome : TxnOutcome) (s : State) : State :=
  match outcome with
  | .answered => s.segmentAcked x
  | .refused item => s.failText x (.refused item)
  | .timeout => s.failText x .timeout
  | .noService => s.failText x .noService
  | .detached => s.failText x .detached
  | .linkIdle | .closed => s

/-! ### Detachment (R25, R156) -/

/-- The delivery of an entry has begun to be sent: it is the frame begun, at the head of the host-bound queue, from the moment HLC chose it
(R167; log 42). -/
def State.textBegun (s : State) (i : Nat) : Bool :=
  s.hlc.sending == some .entry && (s.hlc.queue.head?.map (·.body)) == some (.text i)

/-- DETACH frees the entries of `x`, and removes their deliveries, but for one whose frame has begun (R156); into the places freed TXT offers
the texts it holds (R153). -/
def State.detachTexts (x : Sub) (s : State) : State :=
  let gone := ((taken s.txt.entries).filter fun e => e.2.sub == x && !s.textBegun e.1).map (·.1)
  let isGone : HostEntry → Bool := fun h => match h.body with
    | .text i => gone.contains i
    | .report _ | .signal _ => false
  ((gone.foldl (fun s i => s.freeText i) s).onHlc fun h => { h with queue := h.queue.filter fun e => !isGone e }).offerTexts

end Sys2Proof.Machine
end

