-- ==== Sys2Proof/Machine/Mobility.lean ====
section
/-! DEFINITION. The Mobility Unit's tables (R90, R95, R98, R99) and the teardown for loss of service (R24). -/

namespace Sys2Proof.Machine

/-! ### Ranking (R95) -/

/-- The ranking value of a TRACKED entry: its rounded level plus its offset (R95). -/
def Neighbour.rankValue (n : Neighbour) : Option Int :=
  if n.state == .tracked then n.f.map fun f => rounded f + n.offset else none

/-- The entry belongs to the ranking list: TRACKED, its rounded level at least the serving Qmin (R95). -/
def Neighbour.ranks (n : Neighbour) (qmin : Int) : Bool :=
  match n.f with
  | some f => n.state == .tracked && decide (qmin ≤ rounded f)
  | none => false

/-- The ranking list of a table against a serving Qmin: highest value first, the lower index among equals (R95). -/
def rankingOf (table : List (Option Neighbour)) (qmin : Int) : List Nat :=
  let members := ((taken table).filter fun e => e.2.ranks qmin).map fun e => (e.1, (e.2.rankValue).getD 0)
  (sortBy (fun x y => decide (y.2 < x.2)) members).map (·.1)

/-- The ranking value Rs of the serving cell, absent while Fs is (R95). -/
def MobSub.servingRank (m : MobSub) : Option Int :=
  (m.serving.bind (·.fs)).map fun f => rounded f + m.params.hysteresis

/-- Every trigger count becomes 0. -/
def MobSub.clearTriggers (m : MobSub) : MobSub :=
  { m with neighbours := m.neighbours.map (Option.map fun n => { n with trigger := 0 }) }

/-- The list computed anew from the table. -/
def MobSub.rerank (m : MobSub) : MobSub :=
  match m.serving with
  | none => { m with ranking := [] }
  | some v => { m with ranking := rankingOf m.neighbours v.qmin }

/-- A recomputation outside a measurement result: every trigger count 0, the fired mark clear (R95). -/
def MobSub.rerankAnew (m : MobSub) : MobSub := { m.rerank.clearTriggers with fired := false }

/-! ### The serving record -/

/-- Change the serving record of `x`, if there is one. -/
def State.onServing (x : Sub) (f : Serving → Serving) (s : State) : State :=
  s.onMobOf x fun m => { m with serving := m.serving.map f }

/-- RTA's connected-cell copy of `x` is set to the serving record's cell (R38). -/
def State.setCopy (x : Sub) (s : State) : State :=
  match s.serving x with
  | none => s
  | some v => s.onRta fun r => { r with copies := r.copies.set x (some ⟨v.freq, v.offset, v.phase⟩) }

/-- The consequences of setting the serving record, in order (R99). -/
def State.servingSet (x : Sub) (s : State) : State :=
  let s := (s.onServing x fun v => { v with floorRun := 0 }).setCopy x
  ((s.recomputeSchedule x).onMobOf x MobSub.rerankAnew).giveServingLevel x

/-- The entry the old serving cell becomes (R106, R112). -/
def Serving.asNeighbour (v : Serving) : Neighbour :=
  { cellId := v.cellId, freq := v.freq, offset := 0, allowed := true,
    state := if v.fs.isSome then .tracked else .unmeasured, f := v.fs, miss := 0, trigger := 0 }

/-! ### Placements MOB may have to repeat -/

/-- A placement of MEASURE for `x` at the next boundary; a refusal is tried again one period later (R91). -/
def State.tryMeasure (x : Sub) (s : State) : State :=
  let period := s.measurePeriod x
  match s.place x .measure ⟨s.clock.now + 1, 15, 1, period, false⟩ with
  | (true, s) => s.onMobOf x fun m => { m with measRetry := none }
  | (false, s) => s.onMobOf x fun m => { m with measRetry := some period }

/-- MOB places MEASURE for `x` (R91, R103). -/
def State.placeMeasure (x : Sub) (s : State) : State := s.ask x .measure (State.tryMeasure x)

/-- A placement of SEARCH for `x` at the next boundary; a refusal is tried again one interval later (R101). -/
def State.trySearch (x : Sub) (s : State) : State :=
  let period := (s.mobOf x).params.searchInterval
  match s.place x .search ⟨s.clock.now + 1, 15, 4, period, false⟩ with
  | (true, s) => s.onMobOf x fun m => { m with searchRetry := none }
  | (false, s) => s.onMobOf x fun m => { m with searchRetry := some period }

/-- MOB places SEARCH for `x` (R101). -/
def State.placeSearch (x : Sub) (s : State) : State := s.ask x .search (State.trySearch x)

/-- The trigger count of the entry at an index is set. -/
def MobSub.setTrigger (i n : Nat) (m : MobSub) : MobSub :=
  { m with neighbours := m.neighbours.modify i (Option.map fun e => { e with trigger := n }) }

/-- A reselection read has failed (R107). -/
def State.readFailed (x : Sub) (i cellId : Nat) (s : State) : State :=
  s.onMobOf x fun m =>
    let m := if (entryAt m.neighbours i).any fun n => n.cellId = cellId then m.setTrigger i 0 else m
    { m with fired := false }

/-- The placement of a read is refused: a reselection read has failed, a refresh read is left for the next result (R105, R108). -/
def State.readRefused (x : Sub) (s : State) : State :=
  let t := s.onMobOf x fun m => { m with readPurpose := none }
  match (s.mobOf x).readPurpose with
  | some (.reselect i cellId) => t.readFailed x i cellId
  | some .refresh | none => t

/-- A placement of the BEACON_READ of `x` whose purpose MOB has set (R105, R108). -/
def State.tryRead (x : Sub) (s : State) : State :=
  match s.place x .beaconRead ⟨s.clock.now + 1, 15, 4, 0, false⟩ with
  | (true, s) => s
  | (false, s) => s.readRefused x

/-- MOB places a BEACON_READ for `x` with its purpose (R105, R108). -/
def State.placeRead (x : Sub) (purpose : ReadPurpose) (s : State) : State :=
  (s.onMobOf x fun m => { m with readPurpose := some purpose }).ask x .beaconRead (State.tryRead x)

/-- A BEACON_READ of `x` is in the table, or asked for (R104, R108). -/
def State.hasRead (s : State) (x : Sub) : Bool := s.hasClaim x .beaconRead || s.hasAsked x .beaconRead

/-- The refresh read of an unconfirmed record while CAMPED, when no BEACON_READ is in the table (R108). -/
def State.refreshRead (x : Sub) (s : State) : State :=
  match s.serving x with
  | none => s
  | some v =>
    if s.activity x == .camped && !v.confirmed && !s.hasRead x then s.placeRead x .refresh else s

/-! ### Teardowns of MOB's state (R98, R118) -/

/-- An entry kept through loss of service (R98). -/
def Neighbour.unmeasured (n : Neighbour) : Neighbour := { n with state := .unmeasured, f := none, miss := 0, trigger := 0 }

/-- MOB's state after the loss of a serving cell on `freq` (R98, R99, R118). -/
def MobSub.afterLoss (m : MobSub) : MobSub :=
  { m with serving := none, neighbours := m.neighbours.map (Option.map Neighbour.unmeasured), ranking := [], fired := false,
           rotation := 0, hoState := .none, returnRec := none, returnCounter := 0, returnNew := false, hoCmd := none, guard := 0,
           readPurpose := none, searchPos := 0, bandScan := 0, measRetry := none,
           lastFreq := (m.serving.map (·.freq)).orElse fun _ => m.lastFreq }

/-- MOB's state after DETACH: only the parameters are kept (R25, R98, R118). -/
def MobSub.afterDetach (m : MobSub) : MobSub := { Reset.mobSub with params := m.params }

/-! ### Ending transactions in a teardown (R17) -/

/-- PASS_OUTCOME of a PASS transaction that ended otherwise than ANSWERED (R16). -/
def State.passOutcome (t : Txn) (o : TxnOutcome) (s : State) : State :=
  if o.ok then s else s.report (.passOutcome t.sub t.ident o)

/-- The owner is told an outcome of a teardown, NO_SERVICE or DETACHED (R17): the contexts are IDLE by then, PSC and MOB do nothing for a LINK or a report (R74, R110). -/
def State.teardownOutcome (t : Txn) (o : TxnOutcome) (s : State) : State :=
  match t.kind with
  | .textOut => s.textOutEnded t.sub o
  | .area => s.areaEnded t.sub o none
  | .pass => s.passOutcome t o
  | .link | .setup | .connect | .hold | .resume | .release | .measReport => s

/-- Every open transaction of `x` ends with a teardown's outcome, in index order, and the queue and holds are emptied (R17). -/
def State.teardownSge (x : Sub) (o : TxnOutcome) (s : State) : State :=
  ((s.txnsOf x).foldl (fun s e => (s.freeTxn e.1).teardownOutcome e.2 o) s).emptyUplink x

/-! ### Loss of service (R24) -/

/-- The activity state of `x` is written to its record (R20); leaving IN_CALL lets the other's pending update try (R21). -/
def State.writeActivity (x : Sub) (a : Activity) (s : State) : State :=
  let before := s.activity x
  let s := s.onRecord x fun r => { r with activity := a }
  if before == .inCall && a != .inCall then s.markWaiters fun e => e.what == .update && e.sub == x.other else s

/-- The teardown of `x` for the loss of its serving cell (R24). A loss during an access leaves the Voice Path's handover mark as it stands, the
model's choice (log 71). -/
def State.loseService (x : Sub) (s : State) : State :=
  if !(s.activity x).isCampedState then s
  else
    let freq := (s.serving x).map (·.freq)
    let s := (s.onMobOf x fun m => { m with serving := none, lastFreq := freq.orElse fun _ => m.lastFreq }).writeActivity x .noService
    let s := s.endAllCtxs x .radioLost
    let s := (s.teardownSge x .noService).withdraw x .signalling
    let s := s.failText x .noService
    let s := (s.withdrawPaging x).onPscOf x PscSub.tornDown
    let s := ((s.withdraw x .measure).withdraw x .beaconRead).withdraw x .handoverAccess
    let s := (s.onMobOf x MobSub.afterLoss).placeSearch x
    ((s.setFilter x false).updateStanding x).clearDue .update x

/-! ### Activity (R20, R21) -/

/-- The activity state the facts give (R20). -/
def State.derivedActivity (s : State) (x : Sub) : Activity :=
  if s.activity x == .detached then .detached
  else if (s.serving x).isNone then .noService
  else if s.hasCall x then .inCall
  else if !(s.txnsOf x).isEmpty || s.hasCtx x || (s.outgoingOf x).isSome then .attended
  else .camped

/-- Entering CAMPED (R21): a barred serving cell is removed first (R100), else paging is placed and an unconfirmed record read (R108). -/
def State.enterCamped (x : Sub) (s : State) : State :=
  let s := s.setFilter x false
  if (s.serving x).any (·.barred) then s.loseService x
  else (s.placePaging x).refreshRead x

/-- Entering ATTENDED or IN_CALL from CAMPED or NO_SERVICE (R21). -/
def State.enterBusy (x : Sub) (s : State) : State :=
  ((s.setFilter x true).withdrawPaging x).clearRelax x

/-- SBS derives the activity state of `x` anew and acts on a change (R20, R21, R30). -/
def State.derive (x : Sub) (s : State) : State :=
  let before := s.activity x
  let after := s.derivedActivity x
  let s := if before = after then s else s.writeActivity x after
  let s :=
    if before = after then s
    else match after with
      | .camped => s.enterCamped x
      | .attended | .inCall => if before.isBusy then s else s.enterBusy x
      | .noService | .detached => s
  s.updateStanding x

/-- The last two steps of every action on `x`: SBS derives its activity state, SGE re-examines its claim (R5, R10, R20). -/
def State.settleAlone (x : Sub) (s : State) : State := (s.derive x).reexamine x

/-! ### Owners that try again (R5, R21, R27, R158) -/

/-- A waiter tries: SBS with the pending update, or TXT with the due segment (R27, R158). -/
def State.tryOnce (w : WaitKind) (x : Sub) (s : State) : State :=
  match w with
  | .update => if (s.record x).updatePending then s.retryUpdate x else s
  | .segment => if (s.outgoingOf x).any (·.segmentDue) then s.sendSegment x else s

/-- A waiter whose event has come tries, and its subscription settles, but for `hold`, which settles at the end of its own ending (R5). -/
def State.tryWaiter (hold : Option Sub) (s : State) (e : Waiter) : State :=
  let s := (s.clearDue e.what e.sub).tryOnce e.what e.sub
  if hold = some e.sub then s else s.settleAlone e.sub

/-- The waiters whose event has come try one after another, oldest first (R5; log 4). -/
def State.tryWaiters (hold : Option Sub) (s : State) : State := s.dueWaiters.foldl (State.tryWaiter hold) s

/-- The last two steps of every action on `x`; when `x` has left IN_CALL, the pending update of the other is tried (R21, R27). -/
def State.settle (x : Sub) (s : State) : State :=
  let t := s.settleAlone x
  if s.activity x == .inCall && t.activity x != .inCall then t.tryWaiters none else t

/-- MOB loses the serving cell of `x` (R24); the entries freed and the state left let the owners that wait try (R5, R21). -/
def State.lose (x : Sub) (s : State) : State := (s.loseService x).tryWaiters none

end Sys2Proof.Machine
end

