-- ==== Sys2Proof/Machine/Reselect.lean ====
section
/-! DEFINITION. Measurement results, the trigger, beacon reads, reselection and camping (chapter 6 and 07 sections 7.1 to 7.4). -/

namespace Sys2Proof.Machine

/-! ### Lists of cells for the orders (R92, R102) -/

/-- The neighbours of the next MEASURE order: from the rotation position, valid entries, at most 7 (R92). -/
def MobSub.listedNeighbours (m : MobSub) : List ListedCell :=
  let scan := (List.range Config.neighbourEntries).map fun k => (m.rotation + k) % Config.neighbourEntries
  (scan.filterMap fun i => (entryAt m.neighbours i).map fun n => ⟨some i, n.cellId, n.freq⟩).take 7

/-- The cells of the next MEASURE order, the serving cell first (R92). -/
def MobSub.measureCells (m : MobSub) : List ListedCell :=
  match m.serving with
  | none => m.listedNeighbours
  | some v => ⟨none, v.cellId, v.freq⟩ :: m.listedNeighbours

/-- The search list (R102). -/
def MobSub.searchList (m : MobSub) : List Nat :=
  distinct ((taken m.neighbours).map (·.2.freq) ++ m.lastFreq.toList)

/-- The frequency of a SEARCH unit and MOB's search state after it is taken (R102). -/
def MobSub.takeSearchFreq (m : MobSub) : Nat × MobSub :=
  let l := m.searchList
  if l.isEmpty then (m.bandScan, { m with bandScan := (m.bandScan + 1) % 2048 })
  else
    let place := m.searchPos % l.length
    ((l[place]?).getD 0, { m with searchPos := place + 1 })

/-! ### A measurement result (R90, R93, R94) -/

/-- A neighbour entry of a DONE result acts on the table entry (R90). -/
def Neighbour.measured (k : Nat) (n : Neighbour) (entry : Option Int) : Neighbour :=
  match n.state, entry with
  | .tracked, some m => { n with f := some (filtered k n.f m), miss := 0 }
  | .unmeasured, some m | .lost, some m => { n with state := .tracked, f := some (filtered k none m), miss := 0 }
  | .lost, none => n
  | .unmeasured, none => if 2 ≤ n.miss then { n with state := .lost, miss := 3 } else { n with miss := n.miss + 1 }
  | .tracked, none =>
    if 2 ≤ n.miss then { n with state := .lost, f := none, miss := 3, trigger := 0 } else { n with miss := n.miss + 1 }

/-- The cells of an order paired with the entries of a result, NO_SIGNAL where it has none (R52). -/
def pairResult : List ListedCell → List (Option Int) → List (ListedCell × Option Int)
  | [], _ => []
  | c :: cells, [] => (c, none) :: pairResult cells []
  | c :: cells, e :: entries => (c, e) :: pairResult cells entries

/-- One listed cell acts on MOB's tables; a cell no longer where the order listed it is set aside (R93 steps 1 to 3). -/
def MobSub.applyEntry (m : MobSub) (e : ListedCell × Option Int) : MobSub :=
  match e.1.index with
  | none =>
    match m.serving, e.2 with
    | some v, some level =>
      if v.cellId = e.1.cellId then { m with serving := some { v with fs := some (filtered m.params.k v.fs level) } } else m
    | _, _ => m
  | some i =>
    match entryAt m.neighbours i with
    | none => m
    | some n =>
      if n.cellId = e.1.cellId then { m with neighbours := m.neighbours.set i (some (n.measured m.params.k e.2)) } else m

/-- The rotation position after a DONE unit (R92). -/
def MobSub.advanceRotation (m : MobSub) (cells : List ListedCell) : MobSub :=
  match (cells.filterMap (·.index)).getLast? with
  | none => m
  | some i => { m with rotation := (i + 1) % Config.neighbourEntries }

/-- The candidate: the head of the list with its entry, when its value is greater than Rs (R96). -/
def MobSub.candidate (m : MobSub) : Option (Nat × Neighbour) :=
  match m.ranking.head?, m.servingRank with
  | some i, some rs =>
    match entryAt m.neighbours i with
    | none => none
    | some n => if n.rankValue.any fun v => decide (rs < v) then some (i, n) else none
  | _, _ => none

/-- The trigger counts after a result, and the index that fires (R96); the candidate head of the previous result is the one whose count is above 0 (log 27). -/
def MobSub.trigger (m : MobSub) : Option Nat × MobSub :=
  match m.candidate with
  | none => (none, { m.clearTriggers with fired := false })
  | some (i, n) =>
    let count := if 0 < n.trigger then satInc 15 n.trigger else 1
    let m := if 0 < n.trigger then m else { m.clearTriggers with fired := false }
    let m := m.setTrigger i count
    if m.params.ttt ≤ count && !m.fired then (some i, { m with fired := true }) else (none, m)

/-- How the serving entry of a result stands to the floor: none when it was set aside (R97). -/
def MobSub.servingEntry (m : MobSub) (entries : List (ListedCell × Option Int)) : Option (Option Int) :=
  match entries.find? fun e => e.1.index.isNone with
  | none => none
  | some e => if m.serving.any fun v => v.cellId = e.1.cellId then some e.2 else none

/-- The floor run after a result (R97). A serving entry set aside leaves the run as it is also where Fs is absent or below Qmin, which R97's
first bullet names too: the model's choice (log 62). -/
def Serving.floorAfter (v : Serving) (entry : Option (Option Int)) : Serving :=
  match entry with
  | none => v
  | some none => { v with floorRun := v.floorRun + 1 }
  | some (some _) =>
    if (v.fs.map rounded).any fun l => decide (v.qmin ≤ l) then { v with floorRun := 0 } else { v with floorRun := v.floorRun + 1 }

/-! ### Acting on a firing (R104, R105, R109) -/

/-- The fired mark is cleared, every count left as it stands (R104). -/
def State.notActedOn (x : Sub) (s : State) : State := s.onMobOf x fun m => { m with fired := false }

/-- The MEAS_REPORT of `x`: the serving level and the first three of the ranking list (R109). -/
def MobSub.reportBody (m : MobSub) : UpBody :=
  .measReport ((m.serving.bind (·.fs)).map rounded)
    ((m.ranking.take 3).filterMap fun i => (entryAt m.neighbours i).bind fun n => n.f.map fun f => (n.cellId, rounded f))

/-- A measurement report is offered; a refusal clears the fired mark (R109). -/
def State.offerReport (x : Sub) (s : State) : State :=
  match s.offer x ⟨some .mob, some .measReport, 0, none, (s.mobOf x).reportBody⟩ with
  | (some _, s) => s.settle x
  | (none, s) => s.notActedOn x

/-- MOB acts on a firing by the activity state (R104). -/
def State.actOnFiring (x : Sub) (i : Nat) (s : State) : State :=
  match s.activity x, entryAt (s.mobOf x).neighbours i with
  | .camped, some n =>
    if n.allowed && !s.hasRead x then s.placeRead x (.reselect i n.cellId) else s.notActedOn x
  | .inCall, some _ =>
    if (s.mobOf x).hoState != .access && !s.hasTxn x .measReport && (s.mobOf x).guard = 0 then s.offerReport x
    else s.notActedOn x
  | _, _ => s.notActedOn x

/-- Steps 8 and 9 of R93, the serving cell not having been lost: the level for PSC, the guard, the firing and the refresh read (R108, R110). -/
def State.afterResult (x : Sub) (fires : Option Nat) (s : State) : State :=
  let s := (s.giveServingLevel x).onMobOf x fun m => { m with guard := countDown m.guard }
  let s := match fires with
    | none => s
    | some i => s.actOnFiring x i
  s.refreshRead x

/-- A DONE measurement result is processed whole (R93). -/
def State.processResult (x : Sub) (cells : List ListedCell) (result : List (Option Int)) (s : State) : State :=
  let entries := pairResult cells result
  let heard := (s.mobOf x).servingEntry entries
  let ranked := ((entries.foldl MobSub.applyEntry (s.mobOf x)).advanceRotation cells).rerank
  let t := ranked.trigger
  let s := (s.onMobOf x fun _ => t.2).onServing x fun v => v.floorAfter heard
  if (s.serving x).any fun v => 4 ≤ v.floorRun then s.lose x else s.afterResult x t.1

/-- A MEASURE occurrence has ended (R93); during an access its end is as one other than DONE (R113). -/
def State.measureEnded (x : Sub) (code : EndCode) (cells : List ListedCell) (result : Option (List (Option Int))) (s : State) : State :=
  if code == .done && (s.mobOf x).hoState != .access then s.processResult x cells (result.getD []) else s

/-! ### Reads and reselection (R106, R107) -/

/-- A beacon shows a cell one may camp on: not barred, its clamped level at least its Qmin (R103, R106). -/
def usableBeacon (b : BeaconBlock) : Bool := !b.barred && decide (b.qmin ≤ clampLevel b.level)

/-- The swap of the serving cell and the neighbour at index `i` (R106). -/
def MobSub.swap (m : MobSub) (i : Nat) (v : Serving) (n : Neighbour) (b : BeaconBlock) : MobSub :=
  { m with
    neighbours := m.neighbours.set i (some v.asNeighbour)
    serving := some { cellId := n.cellId, freq := n.freq, area := b.area, offset := b.offset, phase := b.phase, c := b.c,
                      qmin := b.qmin, barred := false, fs := if n.state == .tracked then n.f else none, floorRun := 0,
                      confirmed := true } }

/-- A reselection read that has succeeded (R106). -/
def State.reselect (x : Sub) (i : Nat) (v : Serving) (n : Neighbour) (b : BeaconBlock) (s : State) : State :=
  let s := ((s.onMobOf x fun m => m.swap i v n b).servingSet x).areaPassed x
  let s := (s.clearRelax x).replacePaging x
  (s.report (.cellChanged x v.cellId n.cellId b.area)).settle x

/-- A BEACON_READ occurrence has ended (R106 to R108). A reselection read that succeeds while an access whose call has ended still runs makes
its swap like any other (log 49). -/
def State.readEnded (x : Sub) (code : EndCode) (kept : Option BeaconBlock) (s : State) : State :=
  let purpose := (s.mobOf x).readPurpose
  let s := s.onMobOf x fun m => { m with readPurpose := none }
  match purpose, code with
  | some (.reselect _ _), .withdrawn => s
  | some (.reselect i cellId), .done =>
    match s.serving x, entryAt (s.mobOf x).neighbours i, kept with
    | some v, some n, some b =>
      if s.activity x == .camped && n.cellId == cellId && usableBeacon b then s.reselect x i v n b else s.readFailed x i cellId
    | _, _, _ => s.readFailed x i cellId
  | some (.reselect i cellId), _ => s.readFailed x i cellId
  | some .refresh, _ => s
  | none, _ => s

/-! ### Camping (R103) -/

/-- MOB's tables once a cell is camped on: the entry of that cell is no more, and the record comes from the beacon (R103). -/
def MobSub.camp (m : MobSub) (freq : Nat) (b : BeaconBlock) : MobSub :=
  { m with
    neighbours := m.neighbours.map fun e => e.filter fun n => n.cellId != b.cellId
    serving := some { cellId := b.cellId, freq := freq, area := b.area, offset := b.offset, phase := b.phase, c := b.c,
                      qmin := b.qmin, barred := false, fs := some (16 * clampLevel b.level), floorRun := 0, confirmed := true } }

/-- A SEARCH occurrence has ended (R101, R103). -/
def State.searchEnded (x : Sub) (code : EndCode) (freq : Nat) (kept : Option BeaconBlock) (s : State) : State :=
  match kept with
  | none => s
  | some b =>
    if code == .done && s.activity x == .noService then
      let s := ((s.onMobOf x fun m => m.camp freq b).servingSet x).areaPassed x
      ((s.settle x).placeMeasure x).withdraw x .search
    else s

/-! ### Beacons (R100, R103, R105) -/

/-- The record takes the fields of a beacon of its own cell (R100). -/
def Serving.refreshed (v : Serving) (b : BeaconBlock) : Serving :=
  { v with area := b.area, offset := b.offset, phase := b.phase, c := b.c, qmin := b.qmin, barred := b.barred, confirmed := true }

/-- A good beacon of the serving cell refreshes the record, and each changed field acts (R100); a barred cell is lost while CAMPED (log 22). -/
def State.refreshServing (x : Sub) (v : Serving) (b : BeaconBlock) (s : State) : State :=
  let moved := v.offset != b.offset || v.phase != b.phase
  let s := s.onServing x fun v => v.refreshed b
  let s := if moved then s.setCopy x else s
  if b.barred && s.activity x == .camped then s.lose x
  else
    let s := if moved || v.c != b.c then s.recomputeSchedule x else s
    let s := if v.qmin != b.qmin then (s.onMobOf x MobSub.rerankAnew).giveServingLevel x else s
    let s := if v.area != b.area then s.areaPassed x else s
    s.settle x

/-- A good beacon delivered while its unit runs may be kept for the unit's end: the first of the read's cell (R105), or the first one usable in a search (R103). -/
def State.keepBeacon (x : Sub) (kind : ClaimKind) (first : Frame) (b : BeaconBlock) (s : State) : State :=
  let wanted := match kind, (s.mobOf x).readPurpose with
    | .search, _ => usableBeacon b
    | .beaconRead, some (.reselect _ cellId) => b.cellId == cellId
    | _, _ => false
  s.onRta fun r => { r with unit := r.unit.map fun u =>
    if wanted && u.sub == x && u.kind == kind && u.first == first && u.kept.isNone then { u with kept := some b } else u }

/-- DLC delivers a good BEACON to MOB (R100, R103, R105). -/
def State.beaconDelivered (x : Sub) (kind : ClaimKind) (first : Frame) (b : BeaconBlock) (s : State) : State :=
  let s := s.keepBeacon x kind first b
  match s.serving x with
  | none => s
  | some v => if v.cellId = b.cellId then s.refreshServing x v b else s

end Sys2Proof.Machine
end

