-- ==== Sys2Proof/Machine/Handover.lean ====
section
/-! DEFINITION. Handover (07 section 7.5). -/

namespace Sys2Proof.Machine

/-- The slot the old serving cell will occupy (R112 step 1). -/
def MobSub.slotFor (m : MobSub) (target : Nat) : Option Nat :=
  let isTarget : Option Neighbour → Bool := fun e => e.any fun n => n.cellId == target
  let isLost : Option Neighbour → Bool := fun e => e.any fun n => n.state == .lost
  match m.neighbours.findIdx? isTarget, lowestFree m.neighbours with
  | some i, _ => some i
  | none, some i => some i
  | none, none => m.neighbours.findIdx? isLost

/-- The slot record of a slot (R112 step 2). -/
def MobSub.slotRecord (m : MobSub) : Option Nat → SlotRecord
  | none => .noSlot
  | some i => .slot i (entryAt m.neighbours i)

/-- The target of a handover command, with the access code and ident it brings (R111). -/
structure HoTarget where
  cellId : Nat
  freq   : Nat
  offset : Nat
  phase  : Nat
  access : Nat
  ident  : Ident
deriving DecidableEq, Repr

/-- The target's filtered level if it was a TRACKED neighbour (R112 step 3). -/
def MobSub.trackedLevel (m : MobSub) (cellId : Nat) : Option Int :=
  match (taken m.neighbours).find? fun e => e.2.cellId == cellId with
  | none => none
  | some e => if e.2.state == .tracked then e.2.f else none

/-- The provisional record of a target (R112 step 3). -/
def Serving.provisional (v : Serving) (t : HoTarget) (fs : Option Int) : Serving :=
  { cellId := t.cellId, freq := t.freq, area := v.area, offset := t.offset, phase := t.phase, c := v.c, qmin := v.qmin,
    barred := false, fs := fs, floorRun := 0, confirmed := false }

/-- Steps 1 to 4 and the state of step 7 of the taking of a command (R112). -/
def MobSub.takeTarget (m : MobSub) (v : Serving) (t : HoTarget) : MobSub :=
  let slot := m.slotFor t.cellId
  let table := match slot with
    | none => m.neighbours
    | some i => m.neighbours.set i (some v.asNeighbour)
  { m with
    returnRec := some ⟨v, m.slotRecord slot⟩
    serving := some (v.provisional t (m.trackedLevel t.cellId))
    neighbours := table
    hoCmd := some ⟨t.access, t.ident, t.freq, t.offset, t.phase⟩
    hoState := .access
    returnCounter := 0
    returnNew := false }

/-- The table with the slot as its record says it was (R116 step 2). -/
def SlotRecord.restore (r : SlotRecord) (table : List (Option Neighbour)) : List (Option Neighbour) :=
  match r with
  | .noSlot => table
  | .slot i was => table.set i was

/-- MOB resumes TRAFFIC and tells the Voice Path that the access has ended (R115, R116). -/
def State.accessOver (x : Sub) (s : State) : State := (s.resumeClaim x .traffic).voiceHandoverEnded

/-- The access has succeeded (R115). -/
def State.accessSucceeded (x : Sub) (r : ReturnRecord) (cmd : HoCommand) (s : State) : State :=
  let new := ((s.serving x).map (·.cellId)).getD r.serving.cellId
  let s := (s.onMobOf x fun m => { m with returnRec := none, hoState := .none, hoCmd := none }).areaPassed x
  let s := (s.accessOver x).offerPlain x (some .mob) cmd.ident (.hoComplete cmd.access)
  (s.report (.handoverDone x r.serving.cellId new)).settle x

/-- The access has failed: MOB returns to the old cell (R116). Where the call has ended during the access, so that the subscription is CAMPED
already, and the restored record is barred, the record is kept (log 46). -/
def State.accessFailed (x : Sub) (r : ReturnRecord) (cmd : HoCommand) (s : State) : State :=
  let s := (s.onMobOf x fun m => { m with serving := some r.serving, neighbours := r.slot.restore m.neighbours }).servingSet x
  let check := s.claimInPlace x .traffic
  let s := s.onMobOf x fun m => { m with
    returnRec := none, hoCmd := none, hoState := if check then .returnCheck else .none,
    returnCounter := if check then Config.returnFrames else 0 }
  ((s.accessOver x).offerPlain x (some .mob) cmd.ident (.hoFailure cmd.access)).settle x

/-- A HANDOVER_ACCESS occurrence has ended (R114); WITHDRAWN is neither success nor failure. -/
def State.accessEnded (x : Sub) (code : EndCode) (goodNotice : Bool) (s : State) : State :=
  match (s.mobOf x).returnRec, (s.mobOf x).hoCmd with
  | some r, some cmd =>
    match code with
    | .withdrawn => s
    | .done => if goodNotice then s.accessSucceeded x r cmd else s.accessFailed x r cmd
    | .missed | .denied | .radioFault => s.accessFailed x r cmd
  | _, _ => s

/-- MOB takes a handover command (R112). -/
def State.takeCommand (x : Sub) (v : Serving) (t : HoTarget) (s : State) : State :=
  let s := (s.onMobOf x fun m => m.takeTarget v t).servingSet x
  let s := (s.suspendClaim x .traffic).voiceHandover
  match s.place x .handoverAccess ⟨s.clock.now + 1, 8, 4, 0, false⟩ with
  | (true, s) => s
  | (false, s) => s.accessEnded x .missed false

/-- SGE hands MOB an HO_COMMAND (R111). -/
def State.hoCommand (x : Sub) (t : HoTarget) (s : State) : State :=
  match s.serving x with
  | none => s
  | some v =>
    if s.activity x == .inCall && (s.mobOf x).hoState != .access && v.cellId != t.cellId then s.takeCommand x v t else s

/-- A traffic notice passes the return check (R117); that the counter, which no longer runs, becomes 0 is the model's choice (log 68). -/
def State.trafficNotice (x : Sub) (s : State) : State :=
  s.onMobOf x fun m => if m.hoState == .returnCheck then { m with hoState := .none, returnCounter := 0 } else m

/-- The second failure of a handover (R117). -/
def State.secondFailure (x : Sub) (s : State) : State := (s.endAllCtxs x .handoverLost).lose x

end Sys2Proof.Machine
end

