-- ==== Sys2Proof/Machine/Answers.lean ====
section
/-! DEFINITION. Ending a transaction and matching what the network sends back (01 sections 1.4, 1.6). -/

namespace Sys2Proof.Machine

/-- PSC is told the end of a LINK transaction (R74); the report of a link never granted carries no receiver frame (log 67). -/
def State.linkEnded (t : Txn) (o : TxnOutcome) (s : State) : State :=
  let missed (item : Option ErrorItem) : State := s.report (.missedPage t.sub (t.reason.getD .call) .noLink none item)
  match o with
  | .timeout => missed none
  | .refused item => missed (some item)
  | .answered | .linkIdle | .closed | .noService | .detached => s

/-- MOB is told the end of a MEAS_REPORT transaction: the report guard is set (R110). -/
def State.reportEndedTxn (x : Sub) (o : TxnOutcome) (s : State) : State :=
  match o with
  | .answered | .refused _ | .timeout => s.onMobOf x fun m => { m with guard := m.params.ttt }
  | .linkIdle | .closed | .noService | .detached => s

/-- The context index of an owner that is a call context. -/
def Owner.ctx? : Owner → Option Nat
  | .ctx i => some i
  | .txt | .mob | .psc | .host => none

/-- Steps 3 and 4 of a transaction's ending: the outcome is handed to the owner, and its own actions follow (R5). -/
def State.tellOwner (t : Txn) (o : TxnOutcome) (accept : Option (Nat × Option AliasValue)) (s : State) : State :=
  match t.kind with
  | .link => s.linkEnded t o
  | .setup | .connect | .hold | .resume | .release =>
    match t.owner.ctx? with
    | some i => s.ctxOutcome i t.kind o
    | none => s
  | .textOut => s.textOutEnded t.sub o
  | .measReport => s.reportEndedTxn t.sub o
  | .area => s.areaEnded t.sub o accept
  | .pass => s.passOutcome t o

/-- A transaction ends, in the six steps of R5, the owners that wait trying after the fourth; `accept` carries AREA_ACCEPT's fields to the
owner (R11). -/
def State.endTxnWith (i : Nat) (o : TxnOutcome) (accept : Option (Nat × Option AliasValue)) (s : State) : State :=
  match entryAt s.sge.txns i with
  | none => s
  | some t => (((s.freeTxn i).tellOwner t o accept).tryWaiters (some t.sub)).settle t.sub

/-- A transaction ends (R5). -/
def State.endTxn (i : Nat) (o : TxnOutcome) (s : State) : State := s.endTxnWith i o none

/-! ### Matching (R11 to R14) -/

/-- The first item of an error list, NOT_ALLOWED when it is empty or absent (R4, R11). -/
def firstItem (errors : Option (List ErrorItem)) : ErrorItem := ((errors.getD []).head?).getD .notAllowed

/-- The kind of transaction an own answer code answers (01 section 1.3); REFUSAL answers any. -/
def answersKind : Nat → Option TxnKind
  | 0 => some .link
  | 2 | 3 | 4 => some .setup
  | 5 => some .connect
  | 6 => some .hold
  | 7 => some .resume
  | 11 => some .textOut
  | 13 | 14 => some .area
  | _ => none

/-- A transaction is matched by an answer code (R11). -/
def Txn.matchedBy (t : Txn) (code : Nat) : Bool :=
  match t.state with
  | .queued => false
  | .sent => code == 15 || answersKind code == some t.kind
  | .linked => code == 15 || (code == 0 && t.kind == .link)

/-- LINK_GRANTED: the answer timer stops and the idle timer starts, also for a repeated one (R14). -/
def State.linkGranted (i : Nat) (s : State) : State :=
  s.onTxn i fun t => { t with state := .linked, answer := none, idle := some Config.linkIdleTime }

/-- PROCEEDING and ALERT: the answer timer is set back, and the context is told (R12). -/
def State.provisional (i : Nat) (t : Txn) (alert : Bool) (s : State) : State :=
  let s := s.onTxn i fun t => { t with answer := some (s.answerTime t.sub .setup) }
  match t.owner.ctx? with
  | some c => s.ctxProgress c alert
  | none => s

/-- The fields AREA_ACCEPT carries. -/
def acceptFields : SignalBody → Option (Nat × Option AliasValue)
  | .area code newAlias => some (code, newAlias)
  | .none | .calling _ _ | .text _ _ _ _ _ _ | .handover _ _ _ _ _ | .raw _ => none

/-- A matched answer acts (R11, R12, R14). -/
def State.answered (i : Nat) (t : Txn) (b : SignalBlock) (s : State) : State :=
  match b.code with
  | 0 => s.linkGranted i
  | 2 => s.provisional i t false
  | 3 => s.provisional i t true
  | 14 | 15 => s.endTxn i (.refused (firstItem b.errors))
  | 13 => s.endTxnWith i .answered (acceptFields b.body)
  | _ => s.endTxn i .answered

/-- An answer code arrives for `x`: matched, or counted as a stray answer (R11). -/
def State.answerCode (x : Sub) (b : SignalBlock) (s : State) : State :=
  match s.txnBy x (BitVec.ofNat 4 b.ident) with
  | none => s.countStray
  | some (i, t) => if t.matchedBy b.code then s.answered i t b else s.countStray

/-- A transaction that a RELEASE for context `i` closes (R13). -/
def Txn.closedBy (t : Txn) (i : Nat) : Bool :=
  t.owner == .ctx i &&
    match t.kind with
    | .setup | .connect | .hold | .resume | .release => true
    | .link | .textOut | .measReport | .area | .pass => false

/-- A RELEASE from the network (R13): its context's transactions are closed, and CAL acts on it as one delivery (R133). -/
def State.releaseFrom (x : Sub) (b : SignalBlock) (s : State) : State :=
  match b.callRef with
  | none => s.countStray
  | some ref =>
    let s := match s.ctxByRef x ref with
      | none => s
      | some i => s.freeTxns x fun t => t.closedBy i
    ((s.networkRelease x (BitVec.ofNat 4 b.ident) ref ((b.errors.getD []).head?)).tryWaiters (some x)).settle x

/-- A RELEASE_DONE from the network, in its two steps (R13). -/
def State.releaseDone (x : Sub) (b : SignalBlock) (s : State) : State :=
  let named := (s.txnBy x (BitVec.ofNat 4 b.ident)).filter fun e => e.2.kind == .release && e.2.state == .sent
  let t := match named with
    | none => s
    | some e => s.endTxn e.1 .answered
  match (t.txnsOf x).find? fun e => e.2.kind == .link && e.2.state == .linked with
  | some e => t.endTxn e.1 .answered
  | none => if named.isSome then t else t.countStray

/-- An HO_COMMAND from the network, in its two steps (R12). -/
def State.hoCommandFrom (x : Sub) (b : SignalBlock) (s : State) : State :=
  let s := match (s.txnsOf x).find? fun e => e.2.kind == .measReport with
    | none => s
    | some e => s.endTxn e.1 .answered
  match b.body with
  | .handover cellId freq offset phase access =>
    (s.hoCommand x ⟨cellId, freq, offset, phase, access, BitVec.ofNat 4 b.ident⟩).settle x
  | .none | .calling _ _ | .text _ _ _ _ _ _ | .area _ _ | .raw _ => s

/-- A SETUP_IN from the network (R121). -/
def State.setupFrom (x : Sub) (b : SignalBlock) (s : State) : State :=
  match b.body, b.callRef with
  | .calling type digits, some ref => (s.setupIn x (BitVec.ofNat 4 b.ident) ref type digits).settle x
  | _, _ => s

/-- A TEXT_SEG from the network, its originator normalised by the record of `x` (R149). -/
def State.textFrom (x : Sub) (b : SignalBlock) (s : State) : State :=
  match b.body with
  | .text reference total seq type digits payload =>
    (s.textSegment x (BitVec.ofNat 4 b.ident) ⟨normalise (s.record x) type digits, reference, total, seq, payload⟩).settle x
  | .none | .calling _ _ | .handover _ _ _ _ _ | .area _ _ | .raw _ => s

/-- A pass-through block is the answer of a SENT PASS transaction of its ident (R16). -/
def State.passAnswer (x : Sub) (b : SignalBlock) (s : State) : State :=
  match s.txnBy x (BitVec.ofNat 4 b.ident) with
  | none => s
  | some (i, t) => if t.kind == .pass && t.state == .sent then s.endTxn i .answered else s

/-- SGE acts on a good SIGNAL block for `x` by its code (R3, R11 to R14, R16). -/
def State.sgeTakes (x : Sub) (b : SignalBlock) (s : State) : State :=
  let s := s.restartLinkIdle x
  match b.code with
  | 1 => s.setupFrom x b
  | 8 => s.releaseFrom x b
  | 9 => s.releaseDone x b
  | 10 => s.textFrom x b
  | 12 => s.hoCommandFrom x b
  | _ => if b.code < 16 then s.answerCode x b else s.passAnswer x b

end Sys2Proof.Machine
end

