-- ==== Sys2Proof/Machine/Placements.lean ====
section
/-! DEFINITION. The order of the placements that fall at one receiver frame boundary (R36; log 4). -/

namespace Sys2Proof.Machine

/-- The kinds in the order of their ranks, subscription A first (R36). -/
def placementOrder : List (ClaimKind × Sub) :=
  [(.handoverAccess, .a), (.handoverAccess, .b), (.traffic, .a), (.traffic, .b), (.signalling, .a), (.signalling, .b),
    (.pagingListen, .a), (.pagingListen, .b), (.beaconRead, .a), (.beaconRead, .b), (.measure, .a), (.measure, .b),
    (.search, .a), (.search, .b)]

/-! ### Refused placements -/

/-- A refused placement has its occasion and its owner would make it: TRAFFIC while an established call is there (R135), PAGING_LISTEN while
CAMPED and not REJECTED (R69), MEASURE while there is a serving cell (R91), SEARCH while NO_SERVICE (R101). -/
def State.placementDue (s : State) (k : ClaimKind) (x : Sub) : Bool :=
  match k with
  | .traffic => s.cal.trafficRetry.get x == .due && s.hasCall x
  | .pagingListen => (s.pscOf x).retry == .due && s.activity x == .camped && (s.record x).registration != .rejected
  | .measure => (s.mobOf x).measRetry == some 0 && (s.serving x).isSome
  | .search => (s.mobOf x).searchRetry == some 0 && s.activity x == .noService
  | .handoverAccess | .signalling | .beaconRead => false

/-- The placements due, in the order in which those of one boundary are taken (R36). -/
def State.placementsDue (s : State) : List (ClaimKind × Sub) := placementOrder.filter fun e => s.placementDue e.1 e.2

/-- It is the turn of a refused placement to be made again (R36; log 4). -/
def State.placementTurn (s : State) (k : ClaimKind) (x : Sub) : Bool := s.placementsDue.head? == some (k, x)

/-! ### Taking placements -/

/-- A placement is taken, with what its owner does at once on RTA's answer. HANDOVER_ACCESS is placed within SIGNAL_BLOCK alone. -/
def State.placeNow (k : ClaimKind) (x : Sub) (s : State) : State :=
  match k with
  | .handoverAccess => s
  | .traffic => (s.placeTraffic x).reexamine x
  | .signalling => s.placeSignalling x
  | .pagingListen => s.tryPaging x
  | .beaconRead => s.tryRead x
  | .measure => s.tryMeasure x
  | .search => s.trySearch x

/-- One place of the order: a placement asked for is taken, and, while others still wait behind it, a refused one whose occasion has come
(R36; log 4). -/
def State.takeTurn (s : State) (e : ClaimKind × Sub) : State :=
  if s.hasAsked e.2 e.1 then (s.unask e.2 e.1).placeNow e.1 e.2
  else if s.rta.asked.any (!·.isEmpty) && s.placementDue e.1 e.2 then s.placeNow e.1 e.2
  else s

/-- The placements of the standing kinds asked for so far are taken: their claims may be eligible for the frame that begins. -/
def State.takeStanding (s : State) : State := (placementOrder.filter fun e => e.1.standing).foldl State.takeTurn s

/-- What is asked for becomes `l`; `some []` begins a step whose placements are taken in order. -/
def State.setAsked (l : Option (List (ClaimKind × Sub))) (s : State) : State := s.onRta fun r => { r with asked := l }

/-- What a step at a frame boundary does: the placements its owners ask for are taken at its end, in the order of R36. -/
def State.inRankOrder (act : State → State) (s : State) : State :=
  (placementOrder.foldl State.takeTurn (act (s.setAsked (some [])))).setAsked s.rta.asked

end Sys2Proof.Machine
end

