-- ==== Sys2Proof/Machine/Arbiter.lean ====
section
/-! DEFINITION. The Radio Time Arbiter's decision at a boundary and the Radio Port's orders (chapter 3). -/

namespace Sys2Proof.Machine

/-! ### Ends of occurrences and units (R43 to R47) -/

/-- The latest start of a claim's occurrence lies before frame `t`: a forward distance of 1 to 2047 (R47). -/
def latestBefore (first : Frame) (slack : Nat) (t : Frame) : Bool :=
  let d := frameDist (first + frameOf slack) t
  1 ≤ d && d ≤ 2047

/-- How many frames the first frame advances: `n`, and by the period again until the window is not past (R47). -/
def skipPast (first : Frame) (slack period : Nat) (t : Frame) : Nat → Nat → Nat
  | 0, n => n
  | fuel + 1, n => if latestBefore (first + frameOf n) slack t then skipPast first slack period t fuel (n + period) else n

/-- How many frames the first frame of a repeating claim advances at its re-arming (R47). -/
def Claim.advance (c : Claim) (t : Frame) : Nat := skipPast c.first c.slack c.period t 4096 c.period

/-- The window `n` frames on from that of a claim, as it stands for frame `t`: one whose first frame lies ahead of `t`, but whose first
frame's number has just passed, is not open yet (R47; log 34). -/
def Claim.laterAfter (c : Claim) (n : Nat) (t : Frame) : Bool :=
  let first := c.first + frameOf n
  first != t && inWindow first c.slack t && decide (frameDist c.first t < n)

/-- A repeating claim re-armed with its last end code; `t` is the frame that begins at the next boundary (R47). -/
def Claim.rearm (c : Claim) (code : EndCode) (t : Frame) : Claim :=
  { c with first := c.first + frameOf (c.advance t), later := c.laterAfter (c.advance t) t, state := .waiting,
           outranked := false, unavailable := false, lastEnd := some code }

/-- A standing claim after its frame: WAITING, or HELD_OUT if suspended while RUNNING (R39, R43). -/
def Claim.frameOver (c : Claim) (code : EndCode) : Claim :=
  { c with state := if c.suspend then .heldOut else .waiting, suspend := false, lastEnd := some code }

/-- What becomes of a claim whose occurrence or unit has ended: a pending placement taken, else freed when withdrawn or
one-shot, else ready for its next occurrence or frame (R35 to R37, R43, R47). A pending placement is taken as it stands: where its window has
passed while the unit ran, the claim waits for that frame number to come again, the model's choice (log 52). A standing claim suspended
while RUNNING enters HELD_OUT also where a placement is pending, the model's choice (log 58). -/
def Claim.settled (c : Claim) (code : EndCode) (t : Frame) : Option Claim :=
  match c.placement with
  | some w => some (({ c with withdrawing := false }.takeWindow w).frameOver code)
  | none =>
    if c.withdrawing then none
    else if c.perFrame then some (c.frameOver code)
    else if c.period = 0 then none
    else some (c.rearm code t)

/-- The claim at an index is settled with an end code. -/
def State.settleClaim (i : Nat) (code : EndCode) (s : State) : State :=
  s.onRta fun r => { r with claims := r.claims.modify i fun e => e.bind fun c => c.settled code (s.clock.now + 1) }

/-- The recorded end code of a unit (R43, R46). -/
def RadioUnit.endCode (u : RadioUnit) (faulted : Bool) : EndCode :=
  if u.withdrawn then .withdrawn else if faulted then .radioFault else .done

/-- The owner of an ended unit or occurrence is told its code, with the unit's result if there is one (R43). -/
def State.tellClaimOwner (x : Sub) (k : ClaimKind) (code : EndCode) (u : Option RadioUnit) (s : State) : State :=
  match k with
  | .handoverAccess => s.accessEnded x code (u.any (·.goodNotice))
  | .traffic => s.trafficEnded code
  | .signalling => s
  | .pagingListen => s.listenEnded x code (u.map (·.first))
  | .beaconRead => s.readEnded x code (u.bind (·.kept))
  | .measure => s.measureEnded x code ((u.map (·.cells)).getD []) (u.bind (·.result))
  | .search => s.searchEnded x code ((u.map (·.freq)).getD 0) (u.bind (·.kept))

/-- The unit in progress ends (R43): its claim is settled, then its owner told (log 7). -/
def State.endUnit (faulted : Bool) (s : State) : State :=
  match s.rta.unit with
  | none => s
  | some u =>
    let code := u.endCode faulted
    let s := s.onRta fun r => { r with unit := none }
    let s := match s.claimOf u.sub u.kind with
      | none => s
      | some e => s.settleClaim e.1 code
    s.tellClaimOwner u.sub u.kind code (some u)

/-! ### Orders, acknowledgements and faults (R49 to R51) -/

/-- The outstanding order faults (R50, R51): counted, reported at the fourth in a row, the unit ended, the next frame a recovery frame. -/
def State.faultOrder (errors : List OrderError) (s : State) : State :=
  match s.rpt.order with
  | none => s
  | some o =>
    let n := s.rpt.faultCount + 1
    let fourth := Config.faultLimit ≤ n
    let s := s.onRpt fun r => { r with order := none, faultCount := if fourth then 0 else n, recoveryNext := true }
    let s := if fourth then s.reportWake (.radioFault o.sub o.claimKind o.kind o.freq errors) else s
    s.endUnit true

/-- A clean ORDER_ACK (R8, R50, R51): the message at the head has left if the order carried it. -/
def State.cleanAck (o : Order) (s : State) : State :=
  let s := s.onRpt fun r => { r with order := none, faultCount := 0 }
  if o.carriesHead then (s.headLeaves o.sub).reexamine o.sub else s

/-- The next order with its tag (R49). -/
def State.sendOrder (o : Order) (s : State) : State :=
  s.onRpt fun r => { r with order := some { o with tag := r.nextTag }, nextTag := r.nextTag + 1 }

/-- Order kind of a claim kind (03 section 3.8). -/
def ClaimKind.orderKind : ClaimKind → OrderKind
  | .handoverAccess | .traffic | .signalling => .connectedFrame
  | .pagingListen | .beaconRead => .listen
  | .measure => .measure
  | .search => .search

/-- The uplink block of a granted connected frame of `x`: the head of the uplink queue, else in a TRAFFIC frame of the call's
subscription a speech frame, else none (R8, R144). -/
def State.uplinkBlock (x : Sub) (k : ClaimKind) (s : State) : OrderContent × Bool × State :=
  let voice := k == .traffic && s.vcp.call.map (·.1) == some x
  match (s.sge.queues.get x).head? with
  | some m => (.message m, true, if voice then s.onVcp Vcp.steal else s)
  | none =>
    if voice then
      let t := s.vcp.takeSpeech
      (t.1, false, s.onVcp fun _ => t.2)
    else (.none, false, s)

/-- The frequency of a beacon read, as it stands at the start of its unit (R105, R108). A reselection read whose entry no longer holds the
read's cell goes to the cell that stands there, or to channel 0 if the entry is invalid: the model's choice (log 48). -/
def MobSub.readFreq (m : MobSub) : Nat :=
  match m.readPurpose with
  | some (.reselect i _) => ((entryAt m.neighbours i).map (·.freq)).getD 0
  | some .refresh | none => (m.serving.map (·.freq)).getD 0

/-- The serving cell's frequency, offset and phase, where an order needs them. -/
def State.servingCell (s : State) (x : Sub) : CellCopy :=
  match s.serving x with
  | some v => ⟨v.freq, v.offset, v.phase⟩
  | none => ⟨0, 0, 0⟩

/-- The handover target's channel and timing, from the command in hand (R49). -/
def MobSub.targetCell (m : MobSub) : CellCopy := (m.hoCmd.map (·.cell)).getD ⟨0, 0, 0⟩

/-- The cell an order of this kind names (R49, 03 section 3.8); for a SEARCH, MOB's search state moves on (R102). -/
def State.orderCell (x : Sub) (k : ClaimKind) (s : State) : CellCopy × State :=
  match k with
  | .handoverAccess => ((s.mobOf x).targetCell, s)
  | .pagingListen | .measure => (s.servingCell x, s)
  | .traffic | .signalling => ((s.rta.copies.get x).getD ⟨0, 0, 0⟩, s)
  | .beaconRead => (⟨(s.mobOf x).readFreq, 0, 0⟩, s)
  | .search =>
    let t := (s.mobOf x).takeSearchFreq
    (⟨t.1, 0, 0⟩, s.onMobOf x fun _ => t.2)

/-- The further content of an order of this kind, and whether it carries the queue's head (03 section 3.8). -/
def State.orderContent (x : Sub) (k : ClaimKind) (s : State) : OrderContent × Bool × State :=
  match k with
  | .handoverAccess => (.access (((s.mobOf x).hoCmd.map (·.access)).getD 0), false, s)
  | .traffic | .signalling => s.uplinkBlock x k
  | .measure => (.cells (s.mobOf x).measureCells, false, s)
  | .pagingListen | .beaconRead | .search => (.none, false, s)

/-- The cells an order lists. -/
def OrderContent.listed : OrderContent → List ListedCell
  | .cells l => l
  | .none | .access _ | .speech _ _ | .message _ => []

/-- A frame of a listen of `x` is among those a block may still name (R42, R55). -/
def State.stillNamed (s : State) (x : Sub) (h : Listen) : Bool :=
  s.rta.holders.any fun e => e.any fun o => o.sub == x && o.kind == .pagingListen && o.unitFirst == h.first

/-- PSC begins an occasion when its unit starts; the earlier ones that a block may still name are kept (R71; log 29). -/
def State.beginListen (x : Sub) (k : ClaimKind) (s : State) : State :=
  if k == .pagingListen then
    s.onPscOf x fun p => { p with listens := ⟨s.clock.now, false, false⟩ :: p.listens.filter (s.stillNamed x) }
  else s

/-- A claim wins the frame: its unit starts and RPT sends the order (R42 step 5, R49). -/
def State.startUnit (i : Nat) (c : Claim) (s : State) : State :=
  let cell := s.orderCell c.sub c.kind
  let content := cell.2.orderContent c.sub c.kind
  let s := (content.2.2.onClaim i fun c => { c with state := .running }).beginListen c.sub c.kind
  let u : RadioUnit := { sub := c.sub, kind := c.kind, first := s.clock.now, length := c.length, withdrawn := false,
                         cells := content.1.listed, freq := cell.1.freq, result := none, kept := none, goodNotice := false }
  (s.onRta fun r => { r with unit := some u }).sendOrder
    { tag := 0, sub := c.sub, claimKind := c.kind, kind := c.kind.orderKind, freq := cell.1.freq, offset := cell.1.offset,
      phase := cell.1.phase, length := c.length, content := content.1, carriesHead := content.2.1 }

/-! ### The decision (R40 to R42) -/

/-- A standing claim of `x` is in place and not HELD_OUT, and demands frame `r` (R40). -/
def State.standingDemands (s : State) (x : Sub) (r : Frame) : Bool :=
  s.demanded x r && (taken s.rta.claims).any fun e => e.2.sub == x && e.2.perFrame && e.2.state != .heldOut

/-- A claim is eligible for frame `r` (R40). -/
def State.eligible (s : State) (r : Frame) (c : Claim) : Bool :=
  c.state == .waiting &&
    if c.perFrame then s.demanded c.sub r
    else !c.later && inWindow c.first c.slack r && !(c.kind == .measure && s.standingDemands c.sub r)

/-- The eligible claims, with their indexes. -/
def State.eligibles (s : State) : List (Nat × Claim) := (taken s.rta.claims).filter fun e => s.eligible s.clock.now e.2

/-- The highest rank among some claims. -/
def topRank (l : List (Nat × Claim)) : Nat := l.foldl (fun n e => min n e.2.kind.rank) 7

/-- Who wins a contest of a class under its policy (R41). -/
def contestWinner (p : Policy) (mark : Sub) : Sub :=
  match p with
  | .fixedA => .a
  | .fixedB => .b
  | .rotate => mark

/-- A contest of the class of rank `k` is settled (R41): the winner, and the marks after. -/
def Rta.contest (r : Rta) (k : Nat) : Sub × Rta :=
  let p := (r.policies[k]?).getD .fixedA
  let mark := (r.marks[k]?).getD .a
  let w := contestWinner p mark
  (w, if p == .rotate then { r with marks := r.marks.set k w.other } else r)

/-- The highest-ranked eligible claim by rank alone, a contest settled (R40, R41). -/
def Rta.best (r : Rta) (l : List (Nat × Claim)) : Option (Nat × Claim) × Rta :=
  let k := topRank l
  let top := l.filter fun e => e.2.kind.rank == k
  match top with
  | [] => (none, r)
  | [e] => (some e, r)
  | _ =>
    let t := r.contest k
    (top.find? fun e => e.2.sub == t.1, t.2)

/-- The other subscription's PAGING_LISTEN wins a frame that a TRAFFIC or SIGNALLING claim yields (R40). -/
def Rta.yieldTo (r : Rta) (l : List (Nat × Claim)) (e : Nat × Claim) : Nat × Claim :=
  if e.2.perFrame && r.tuneAway.get e.2.sub then
    (l.find? fun f => f.2.isFor e.2.sub.other .pagingListen).getD e
  else e

/-- A claim is outranked in a frame, or the receiver is unavailable to it; a standing claim's frame ends with the code, which
goes to its owner (R42, R44). -/
def State.passOver (code : EndCode) (s : State) (e : Nat × Claim) : State :=
  if e.2.perFrame then (s.onClaim e.1 fun c => { c with lastEnd := some code }).tellClaimOwner e.2.sub e.2.kind code none
  else s.onClaim e.1 fun c =>
    { c with outranked := c.outranked || code == .denied, unavailable := c.unavailable || code == .missed }

/-- The receiver is unavailable for the frame that begins (R42 step 3). -/
def State.unavailable (s : State) (recovery : Bool) : Bool :=
  s.psc.power != .awake || 0 < s.rta.holdCount || recovery

/-- Steps 3 to 5 of R42. -/
def State.grant (recovery : Bool) (s : State) : State :=
  let l := s.eligibles
  if s.unavailable recovery then l.foldl (State.passOver .missed) s
  else if s.rta.unit.isSome then l.foldl (State.passOver .denied) s
  else
    let t := s.rta.best l
    let s := s.onRta fun _ => t.2
    match t.1 with
    | none => s
    | some e =>
      let w := t.2.yieldTo l e
      ((l.filter fun f => f.1 != w.1).foldl (State.passOver .denied) s).startUnit w.1 w.2

/-- The code of an occurrence whose latest start passes (R45). -/
def Claim.expiryCode (c : Claim) : EndCode :=
  if c.unavailable then .missed else if c.outranked then .denied else .missed

/-- The occurrence of a claim whose latest start is the frame that begins, and which did not start, ends (R42 step 6, R45). -/
def State.expireWindow (s : State) (e : Nat × Claim) : State :=
  match entryAt s.rta.claims e.1 with
  | none => s
  | some c =>
    if c.isFor e.2.sub e.2.kind && !c.perFrame && c.state == .waiting && !c.later && frameDist c.first s.clock.now == c.slack then
      (s.settleClaim e.1 c.expiryCode).tellClaimOwner c.sub c.kind c.expiryCode none
    else s

/-- Step 6 of R42. That the occurrences ending at one boundary are settled and told to their owners by the index of their claims is the model's
choice (DESIGN CHOICE, log 73): R42 states no order among them. -/
def State.expireWindows (s : State) : State := (taken s.rta.claims).foldl State.expireWindow s

/-- The holder of the frame that has begun joins the record of the eight most recent frames (R42). -/
def State.recordHolder (s : State) : State :=
  s.onRta fun r => { r with
    holders := ((r.unit.map fun u => (⟨u.sub, u.kind, u.first, u.withdrawn⟩ : Holder)) :: r.holders).take Config.holderFrames }

/-- A unit in progress has its last frame in the frame before this one (R42 step 1, R43). -/
def State.unitOver (s : State) : Bool :=
  s.rta.unit.any fun u => u.length ≤ frameDist u.first s.clock.now

/-- The decision for the frame that begins (R42); a SIGNALLING or TRAFFIC placed at the end of a unit is there for step 2. -/
def State.decide (s : State) : State :=
  let recovery := s.rpt.recoveryNext
  let s := s.onRpt fun r => { r with recoveryNext := false }
  let s := (if s.unitOver then s.endUnit false else s).takeStanding
  (s.grant recovery).recordHolder.expireWindows

/-! ### Timers that count boundaries -/

/-- SGE's timers (R7, R14). -/
def Sge.count (g : Sge) : Sge :=
  let wait : List Msg → List Msg := fun q => q.map fun m => { m with wait := min Config.waitLimit (m.wait + 1) }
  { g with
    txns := g.txns.map (Option.map fun t => { t with answer := t.answer.map countDown, idle := t.idle.map countDown })
    queues := ⟨wait g.queues.a, wait g.queues.b⟩ }

/-- A refused placement that waits for the next boundary has its occasion (R135). -/
def Retry.atBoundary : Retry → Retry
  | .none => .none
  | .waiting | .due => .due

/-- The ring timers of OFFERED contexts without answer pending (R122), and the boundary at which a refused TRAFFIC is placed again (R135). -/
def Cal.count (c : Cal) : Cal :=
  { c with
    contexts := c.contexts.map fun k =>
      if k.state == .offered && !k.answerPending then { k with ring := k.ring.map countDown } else k
    trafficRetry := ⟨c.trafficRetry.a.atBoundary, c.trafficRetry.b.atBoundary⟩ }

/-- A refused PAGING_LISTEN has its occasion at the boundaries that begin a frame of the listen residue, in that frame alone (R69). -/
def PscSub.count (now : Frame) (p : PscSub) : PscSub :=
  match p.retry, p.schedule with
  | .none, _ | _, none => p
  | .waiting, some d | .due, some d => { p with retry := if now.toNat % d.cycle = d.residue then .due else .waiting }

/-- The deadline counters of COLLECTING and BLOCKED entries (R155). -/
def Txt.count (t : Txt) : Txt :=
  { t with entries := t.entries.map (Option.map fun e =>
      if e.state == .collecting || e.state == .blocked then { e with deadline := countDown e.deadline } else e) }

/-- MOB's return counter, which does not count the boundary at which the check was entered, and the frames until a placement is tried again
(R91, R101, R117). -/
def MobSub.count (m : MobSub) : MobSub :=
  { m with
    returnCounter := if m.hoState == .returnCheck && !m.returnNew then countDown m.returnCounter else m.returnCounter
    returnNew := false
    measRetry := m.measRetry.map countDown
    searchRetry := m.searchRetry.map countDown }

/-- Every timer that counts receiver frame boundaries (00_scope.md 3.2). -/
def State.countTimers (s : State) : State :=
  ((((s.onSge Sge.count).onCal Cal.count).onTxt Txt.count).onMob fun m => ⟨m.a.count, m.b.count⟩).onPsc fun p =>
    { p with per := ⟨p.per.a.count s.clock.now, p.per.b.count s.clock.now⟩ }

/-- A claim whose first frame begins is no longer one whose first frame's number has passed, nor is its pending placement (R36). -/
def Claim.reached (now : Frame) (c : Claim) : Claim :=
  { c with
    later := c.later && c.first != now
    placement := c.placement.map fun w => { w with later := w.later && w.first != now } }

/-- The windows whose first frame begins (R36). -/
def State.openWindows (s : State) : State :=
  s.onRta fun r => { r with claims := r.claims.map (Option.map (Claim.reached s.clock.now)) }

/-- Time reaches the boundary: the rest of the frame's ticks pass and the frame number advances (R1). -/
def State.nextFrame (s : State) : State :=
  (s.elapse (Config.frameTicks - s.clock.tick)).onClock fun c => ⟨c.now + 1, 0⟩

/-- What falls at the boundary that begins a frame, but for the placements taken at its end: the deadline of an order still outstanding
(R50), playout (R141) and the decision (R42). -/
def State.arbitrate (s : State) : State :=
  let s := s.faultOrder []
  (if s.clock.now.toNat % 2 = 0 then s.playoutBoundary else s).decide

/-- A receiver frame boundary (R1, R36, R42, R50, R80, R141), in the order of log 6. -/
def State.boundary (s : State) : State :=
  let s := s.nextFrame.countTimers.openWindows.inRankOrder State.arbitrate
  if s.rta.unit.isNone then s.evaluate else s

end Sys2Proof.Machine
end

