-- ==== Sys2Proof/Machine/Blocks.lean ====
section
/-! DEFINITION. The Downlink Classifier: limits of the blocks' fields, attribution, filters, routing, and the page matching of PSC (chapter 4; 05 section 5.3). -/

namespace Sys2Proof.Machine

/-! ### Limits of the fields (R2) -/

/-- A digit string of decimal digits with a length in a range. -/
def digitsOk (lo hi : Nat) (d : Digits) : Bool := lo ≤ d.length && d.length ≤ hi && d.all (· ≤ 9)

/-- A number in a range. -/
def inRange (lo hi n : Nat) : Bool := lo ≤ n && n ≤ hi

/-- A level in the range of 00_scope.md 3.3. -/
def levelInRange (l : Int) : Bool := decide (-280 ≤ l) && decide (l ≤ -60)

/-- An identity within its limits (01 section 1.2). -/
def identityOk : Identity → Bool
  | .aliasId _ => true
  | .permanent d => digitsOk 6 15 d

/-- A PAGE within its limits. -/
def pageOk (b : PageBlock) : Bool :=
  b.cellId ≤ 65535 && b.cellFrame ≤ 4095 && b.items.length ≤ 6 && b.items.all fun i => identityOk i.identity

/-- A BEACON within its limits, its level aside (R2). -/
def beaconOk (b : BeaconBlock) : Bool :=
  b.cellId ≤ 65535 && b.freq ≤ 2047 && b.area ≤ 4095 && b.cellFrame ≤ 4095 && b.offset ≤ 4095 && b.phase ≤ 7 &&
    inRange 5 10 b.c && levelInRange b.qmin

/-- The fields a code requires are there and within their limits (01 section 1.3; log 20 for the error lists). -/
def codeFieldsOk (b : SignalBlock) : Bool :=
  match b.code, b.body with
  | 1, .calling _ d => b.callRef.isSome && digitsOk 0 20 d
  | 1, _ => false
  | 2, _ | 3, _ | 4, _ | 5, _ | 6, _ | 7, _ => b.callRef.isSome
  | 10, .text reference total seq _ d payload =>
      reference ≤ 255 && inRange 1 8 total && inRange 1 total seq && digitsOk 0 20 d && inRange 1 140 payload.length
  | 10, _ => false
  | 12, .handover cellId freq offset phase access =>
      cellId ≤ 65535 && freq ≤ 2047 && offset ≤ 4095 && phase ≤ 7 && access ≤ 63
  | 12, _ => false
  | 13, .area code _ => code ≤ 4095
  | 13, _ => false
  | 14, _ => b.errors.isSome
  | _, _ => true

/-- A SIGNAL within its limits. -/
def signalOk (b : SignalBlock) : Bool :=
  b.code ≤ 63 && b.ident ≤ 15 && (b.callRef.all fun r => r ≤ 7) && (b.errors.all fun l => l.length ≤ 4) && codeFieldsOk b

/-- A VOICE block within its limits. -/
def voiceOk (b : VoiceBlock) : Bool := b.seq ≤ 255 && b.bytes.length == Config.speechBytes

/-! ### Attribution (R55, R56) -/

/-- The holder a block's frame names, none when no unit can be given the block (R55, R56), as while the part is not AWAKE (R79). -/
def State.holderOf (s : State) (frame : Frame) : Option Holder :=
  (entryAt s.rta.holders (frameDist frame s.clock.now)).filter fun h =>
    s.psc.power == .awake && (h.kind.standing || !h.withdrawn)

/-- Kinds of downlink block (01 section 1.2). -/
inductive BlockKind | page | beacon | signal | voice
deriving DecidableEq, Repr

/-- The blocks a unit kind expects (R57). -/
def expected (k : ClaimKind) (b : BlockKind) : Bool :=
  match k, b with
  | .pagingListen, .page => true
  | .beaconRead, .beacon | .search, .beacon => true
  | .signalling, .signal | .traffic, .signal | .handoverAccess, .signal => true
  | .traffic, .voice | .handoverAccess, .voice => true
  | _, _ => false

/-- The listen filter of `x` passes a kind of block (R58). -/
def State.filterPasses (s : State) (x : Sub) (b : BlockKind) : Bool :=
  match b with
  | .page | .beacon => true
  | .signal | .voice => s.dlc.filters.get x

/-- A good access notice for the unit in progress (R65, R114). -/
def State.accessNotice (h : Holder) (good : Bool) (s : State) : State :=
  if h.kind == .handoverAccess && good then
    s.onRta fun r => { r with unit := r.unit.map fun u =>
      if u.sub == h.sub && u.kind == h.kind && u.first == h.unitFirst then { u with goodNotice := true } else u }
  else s

/-- A block is attributed, noticed, compared with its unit and filtered (R55 to R58, R65); `deliver` treats one that passes. -/
def State.classify (frame : Frame) (b : BlockKind) (good : Bool) (deliver : Holder → State → State) (s : State) : State :=
  match s.holderOf frame with
  | none => s.countUnattributed
  | some h =>
    let s := s.accessNotice h good
    if expected h.kind b && s.filterPasses h.sub b then deliver h s else s.countFiltered h.sub

/-! ### Pages (R71 to R73) -/

/-- A paged item names the subscription of a record (R71). -/
def SubRecord.matchesItem (r : SubRecord) (i : PageItem) : Bool :=
  match i.identity with
  | .aliasId v => r.aliasVal == some v
  | .permanent d => r.identity == some d

/-- The other subscription's calls forbid a response to a page (R72). -/
def State.pageForbidden (s : State) (x : Sub) : Bool :=
  s.activity x.other == .inCall ||
    ctxIndexes.any fun i => s.ctxOf x.other i && ((s.ctx i).state == .originating || (s.ctx i).state == .connecting)

/-- A matching item with reason CALL or TEXT (R72). -/
def State.pageResponse (x : Sub) (frame : Frame) (i : PageItem) (s : State) : State :=
  if s.pageForbidden x then s.report (.missedPage x i.reason .otherInCall (some frame) none)
  else match s.offer x ⟨some .psc, some .link, 0, some i.reason, .pageResponse i.identity i.reason⟩ with
    | (some _, s) => (s.setFilter x true).settle x
    | (none, s) => s.report (.missedPage x i.reason .noTransaction (some frame) none)

/-- A matching item with reason UPDATE (R26, R73). The page that "changes nothing" is one that finds pending an update which a page raised; one
pending from a change of area is offered again and stays due from then on, the model's choice (log 66). -/
def State.pageUpdate (x : Sub) (s : State) : State :=
  let r := s.record x
  if r.registration == .updating || (r.updatePending && r.updateByPage) then s else (s.openUpdate x true).settle x

/-- The outcome of a match; any match clears the relaxation count (R77). -/
def State.pageMatched (x : Sub) (frame : Frame) (i : PageItem) (s : State) : State :=
  let s := s.clearRelax x
  match i.reason with
  | .call | .text => s.pageResponse x frame i
  | .update => s.pageUpdate x

/-- Change the record of the listen whose unit began at `first`. -/
def State.onListen (x : Sub) (first : Frame) (f : Listen → Listen) (s : State) : State :=
  s.onPscOf x fun p => { p with listens := p.listens.map fun h => if h.first == first then f h else h }

/-- The listen whose unit began at `first` has decided its outcome (R71). -/
def State.listenDecided (s : State) (x : Sub) (first : Frame) : Bool :=
  ((s.pscOf x).heardIn (some first)).any (·.matched)

/-- DLC delivers a good PAGE of a listen to PSC (R71). -/
def State.pageDelivered (h : Holder) (frame : Frame) (b : PageBlock) (s : State) : State :=
  if (s.serving h.sub).any fun v => v.cellId = b.cellId then
    let s := s.onListen h.sub h.unitFirst fun l => { l with goodHeard := true }
    if s.listenDecided h.sub h.unitFirst then s
    else match b.items.find? (s.record h.sub).matchesItem with
      | none => s
      | some i => (s.onListen h.sub h.unitFirst fun l => { l with matched := true }).pageMatched h.sub frame i
  else s

/-! ### Signals (R60, R63) -/

/-- The entry a pass-through block makes in the host-bound queue (R63): the code's own fields are its bytes as they came, and a block that
brings none has none (log 37). -/
def downSignal (x : Sub) (frame : Frame) (b : SignalBlock) : DownSignal :=
  let bytes := match b.body with
    | .raw bytes => bytes
    | .none | .calling _ _ | .text _ _ _ _ _ _ | .handover _ _ _ _ _ | .area _ _ => []
  ⟨x, b.code, b.ident, b.callRef, b.errors, bytes, frame⟩

/-- DLC acts on a pass-through block by the entry's column for the host state (R63). -/
def State.route (x : Sub) (frame : Frame) (b : SignalBlock) (s : State) : State :=
  match s.dlc.routes[b.code]? with
  | some (.route awake dozing) =>
    let entry (wake prompt : Bool) : State := s.offerEntry ⟨.signal (downSignal x frame b), wake, prompt⟩
    match (match s.hlc.host with
      | .awake => awake
      | .dozing => dozing) with
    | .forward => entry false true
    | .forwardWake => entry true true
    | .defer => entry false false
    | .drop => s
  | some .consume | none => s

/-- DLC gives MOB a traffic notice for a good block of a TRAFFIC frame (R65). -/
def State.noticeTraffic (h : Holder) (s : State) : State := if h.kind == .traffic then s.trafficNotice h.sub else s

/-- A SIGNAL block that passes the filter: a bad one is discarded and counted, a good one handed to SGE and routed (R60, R64). -/
def State.signalDelivered (h : Holder) (frame : Frame) (good : Bool) (b : SignalBlock) (s : State) : State :=
  if good then ((s.noticeTraffic h).sgeTakes h.sub b).route h.sub frame b else s.countFiltered h.sub

/-- A VOICE block that passes the filter (R64, R65, R139, R142); a bad one is counted in every playout state (log 41). -/
def State.voiceDelivered (h : Holder) (good : Bool) (b : VoiceBlock) (s : State) : State :=
  if good then (s.noticeTraffic h).onVcp (Vcp.goodVoice h.sub ⟨BitVec.ofNat 8 b.seq, b.bytes⟩)
  else s.onVcp Vcp.countLost

/-! ### Measurement results (R52) -/

/-- RPT pairs a result with the cells of the MEASURE unit in progress and holds it; any other is discarded (R52). -/
def State.holdResult (entries : List (Option Int)) (s : State) : State :=
  s.onRta fun r => { r with unit := r.unit.map fun u =>
    if u.kind == .measure && u.result.isNone then { u with result := some (entries.take u.cells.length) } else u }

end Sys2Proof.Machine
end

