-- ==== Sys2Proof/Machine/Operands.lean ====
section
/-! DEFINITION. The encoding of values inside frames (R161): what is read from a host frame, and what each RESULT, REPORT, DOWN_SIGNAL, DOWN_SPEECH and DOWN_TEXT frame holds. Layout choices where the rules only list the fields: log 11, 12, 16. -/

namespace Sys2Proof.Machine

/-! ### Reading (R161, R163) -/

/-- Reads a value from the front of some bytes, with the bytes left; none when it cannot be read. -/
abbrev Reader (α : Type) := List Byte → Option (α × List Byte)

/-- A value that needs no bytes. -/
def readPure {α : Type} (x : α) : Reader α := fun l => some (x, l)

/-- One value, then another. -/
def readThen {α β : Type} (r : Reader α) (f : α → Reader β) : Reader β := fun l =>
  match r l with
  | none => none
  | some (x, l) => f x l

/-- One byte. -/
def readByte : Reader Nat
  | [] => none
  | b :: l => some (b.toNat, l)

/-- A two-byte unsigned number, high byte first. -/
def readNat : Reader Nat
  | hi :: lo :: l => some (hi.toNat * 256 + lo.toNat, l)
  | _ => none

/-- A two-byte signed number, high byte first. -/
def readInt : Reader Int := readThen readNat fun n => readPure (if n < 32768 then (n : Int) else n - 65536)

/-- A value among those listed, by its place. -/
def readEnum {α : Type} (values : List α) : Reader α := readThen readByte fun n l =>
  match values[n]? with
  | none => none
  | some v => some (v, l)

/-- A flag: yes or on is 0, no or off is 1 (log 11). -/
def readFlag : Reader Bool := readEnum [true, false]

/-- An optional value behind its presence byte. -/
def readOpt {α : Type} (r : Reader α) : Reader (Option α) := readThen (readEnum [false, true]) fun here =>
  if here then readThen r fun x => readPure (some x) else readPure none

/-- `n` items one after the other. -/
def readMany {α : Type} (r : Reader α) : Nat → Reader (List α)
  | 0 => readPure []
  | n + 1 => readThen r fun x => readThen (readMany r n) fun xs => readPure (x :: xs)

/-- A list behind its count byte. -/
def readList {α : Type} (r : Reader α) : Reader (List α) := readThen readByte fun n => readMany r n

/-- A digit: a byte of 0 to 9. -/
def readDigit : Reader Nat := readThen readByte fun n l => if n ≤ 9 then some (n, l) else none

/-- A digit string. -/
def readDigits : Reader Digits := readList readDigit

/-- A text payload: a count byte and its raw bytes. -/
def readPayload : Reader (List Byte) := readThen readByte fun n l =>
  if n ≤ l.length then some (l.take n, l.drop n) else none

/-- A whole payload read: nothing may be left (R163). -/
def readAll {α : Type} (r : Reader α) (l : List Byte) : Option α :=
  match r l with
  | some (x, []) => some x
  | _ => none

/-- The values of CONFIGURE_SUBSCRIPTION, in the order of R19. -/
structure ConfigValues where
  identity   : Digits
  homeCode   : Digits
  trunk      : Option Digits
  intlPre    : Option Digits
  overrides  : List (Option Nat)
  ring       : Option Nat
  reassembly : Option Nat
  voiceDepth : Option Nat
deriving DecidableEq, Repr

/-- The values of CONFIGURE_SUBSCRIPTION. -/
def readConfig : Reader ConfigValues :=
  readThen readDigits fun identity => readThen readDigits fun home => readThen (readOpt readDigits) fun trunk =>
  readThen (readOpt readDigits) fun intl => readThen (readMany (readOpt readNat) 10) fun overrides =>
  readThen (readOpt readNat) fun ring => readThen (readOpt readNat) fun reassembly =>
  readThen (readOpt readNat) fun depth => readPure ⟨identity, home, trunk, intl, overrides, ring, reassembly, depth⟩

/-- An item of LOAD_NEIGHBOURS (R89). -/
structure NeighbourItem where
  cellId  : Nat
  freq    : Nat
  offset  : Int
  allowed : Bool
deriving DecidableEq, Repr

/-- An item of LOAD_NEIGHBOURS. -/
def readNeighbour : Reader NeighbourItem :=
  readThen readNat fun c => readThen readNat fun f => readThen readInt fun o => readThen readFlag fun a => readPure ⟨c, f, o, a⟩

/-- A match mode: EXACT, or SUFFIX with its n. -/
def readMode : Reader MatchMode := readThen (readEnum [true, false]) fun exact =>
  if exact then readPure .exact else readThen readNat fun n => readPure (.suffix n)

/-- An item of LOAD_NUMBERS (R31): digits, mode and the two actions. That it carries no flag for "valid", the first of an entry's fields in 2.7, is
the model's choice (DESIGN CHOICE, log 72): R31 lists no fields of an item, and an entry that an item fills is valid. -/
def readNumber : Reader NumberEntry :=
  readThen readDigits fun d => readThen readMode fun m => readThen (readEnum [CallAction.wake, .silent, .reject]) fun c =>
  readThen (readEnum [TextAction.wake, .quiet, .block]) fun t => readPure ⟨d, m, c, t⟩

/-- A route action. -/
def readAction : Reader RouteAction := readEnum [.forward, .forwardWake, .defer, .drop]

/-- An item of LOAD_ROUTES: a code and its two actions (R62). -/
def readRoute : Reader (Nat × RouteAction × RouteAction) :=
  readThen readNat fun c => readThen readAction fun a => readThen readAction fun d => readPure (c, a, d)

/-- The values of SET_ARBITRATION: seven policies, two tune-away settings (R53). -/
def readArbitration : Reader (List Policy × Bool × Bool) :=
  readThen (readMany (readEnum [Policy.fixedA, .fixedB, .rotate]) 7) fun p =>
  readThen readFlag fun a => readThen readFlag fun b => readPure (p, a, b)

/-- The values of SEND_TEXT (R157). -/
def readText : Reader (Digits × List (List Byte)) :=
  readThen readDigits fun d => readThen (readList readPayload) fun l => readPure (d, l)

/-- The values of an UP_SIGNAL: code, whether an answer is expected, and the rest as the message's payload (R16). -/
def readUpSignal : Reader (Nat × Bool × List Byte) :=
  readThen readNat fun c => readThen readFlag fun a l => some ((c, a, l), [])

/-! ### Writing (R161) -/

/-- One byte. -/
def putByte (n : Nat) : List Byte := [BitVec.ofNat 8 n]

/-- A two-byte unsigned number, high byte first. -/
def putNat (n : Nat) : List Byte := [BitVec.ofNat 8 (n / 256), BitVec.ofNat 8 n]

/-- A two-byte signed number, high byte first. -/
def putInt (n : Int) : List Byte := putNat (n % 65536).toNat

/-- A four-byte unsigned value, high byte first. -/
def putAlias (v : AliasValue) : List Byte := putNat (v.toNat / 65536) ++ putNat (v.toNat % 65536)

/-- A flag: yes or on is 0, no or off is 1 (log 11). -/
def putFlag (b : Bool) : List Byte := putByte (if b then 0 else 1)

/-- An optional value behind its presence byte. -/
def putOpt {α : Type} (f : α → List Byte) : Option α → List Byte
  | none => putByte 0
  | some x => putByte 1 ++ f x

/-- Items one after the other: a table, or the members of a list. -/
def putTable {α : Type} (f : α → List Byte) (l : List α) : List Byte := (l.map f).flatten

/-- A list behind its count byte. -/
def putList {α : Type} (f : α → List Byte) (l : List α) : List Byte := putByte l.length ++ putTable f l

/-- A digit string. -/
def putDigits (d : Digits) : List Byte := putList putByte d

/-- A text payload. -/
def putPayload (l : List Byte) : List Byte := putByte l.length ++ l

/-- A subscription as a value. -/
def putSub (x : Sub) : List Byte := putByte x.ctorIdx

/-- A receiver frame number. -/
def putFrame (f : Frame) : List Byte := putNat f.toNat

/-- The two subscriptions' values, A first. -/
def putBoth {α : Type} (f : α → List Byte) (p : PerSub α) : List Byte := f p.a ++ f p.b

/-- An item of a rejection, TIMEOUT after the network's items. -/
def putReject : RejectItem → List Byte
  | .item e => putByte e.ctorIdx
  | .timeout => putByte 6

/-- An owner: the contexts by index, then TXT, MOB, PSC and the host (01 section 1.4). -/
def putOwner : Owner → List Byte
  | .ctx i => putByte i
  | .txt => putByte 3
  | .mob => putByte 4
  | .psc => putByte 5
  | .host => putByte 6

/-- A network error item. -/
def putItem (e : ErrorItem) : List Byte := putByte e.ctorIdx

/-- An end cause, RESET counted first (R134). -/
def putCause (c : Cause) : List Byte := putByte (c.rank - 1)

/-! ### Reports (11 section 11.6) -/

/-- A report's code and fields, in the order of the rule that sends it (log 16; log 43 for the items that only one cause or outcome brings).
That MISSED_PAGE has its frame behind a presence byte, absent for NO_LINK, is the model's choice (log 67). -/
def Report.payload : Report → List Byte
  | .resetDone cause => putByte 0 ++ putByte cause.ctorIdx
  | .serviceState x st reg act item =>
      putByte 1 ++ putSub x ++ putByte st.ctorIdx ++ putByte reg.ctorIdx ++ putByte act.ctorIdx ++ putOpt putReject item
  | .radioFault x k o f errors =>
      putByte 2 ++ putSub x ++ putByte k.ctorIdx ++ putByte o.ctorIdx ++ putNat f ++ putList (fun e => putByte e.ctorIdx) errors
  | .callOffered x i ref d e => putByte 3 ++ putSub x ++ putNat i ++ putNat ref ++ putDigits d ++ putOpt putNat e
  | .callScreened x ref d e => putByte 4 ++ putSub x ++ putNat ref ++ putDigits d ++ putNat e
  | .callProgress _ i stage => putByte 5 ++ putNat i ++ putByte stage.ctorIdx
  | .callConnected _ i d => putByte 6 ++ putNat i ++ putByte d.ctorIdx
  | .callEnded x i ref d c item =>
      putByte 7 ++ putSub x ++ putNat i ++ putNat ref ++ putByte d.ctorIdx ++ putCause c ++ putOpt putItem item
  | .missedPage x r c frame item =>
      putByte 8 ++ putSub x ++ putByte r.ctorIdx ++ putByte c.ctorIdx ++ putOpt putFrame frame ++ putOpt putItem item
  | .pagingDegraded x m d => putByte 9 ++ putSub x ++ putNat m ++ putNat d
  | .cellChanged x old new area => putByte 10 ++ putSub x ++ putNat old ++ putNat new ++ putNat area ++ putByte 0
  | .handoverDone x old new => putByte 11 ++ putSub x ++ putNat old ++ putNat new
  | .textSent x ref => putByte 12 ++ putSub x ++ putNat ref
  | .textFailed x ref seq c =>
      putByte 13 ++ putSub x ++ putNat ref ++ putNat seq ++ putByte c.ctorIdx ++
        (match c with
         | .refused item => putItem item
         | .timeout | .noService | .detached => [])
  | .passOutcome x ident o => putByte 14 ++ putSub x ++ putNat ident.toNat ++ putByte o.ctorIdx ++ putOpt putItem o.item?
  | .badFrame r t tag => putByte 15 ++ putByte r.ctorIdx ++ [t] ++ putOpt (fun t => [t]) tag

/-- The subscription a report concerns, for its header; BAD_FRAME names none, whatever byte 1 of the discarded frame held, the model's choice
(log 69). -/
def Report.sub? : Report → Option Sub
  | .resetDone _ | .badFrame _ _ _ => none
  | .serviceState x _ _ _ _ | .radioFault x _ _ _ _ | .callOffered x _ _ _ _ | .callScreened x _ _ _ | .callProgress x _ _
  | .callConnected x _ _ | .callEnded x _ _ _ _ _ | .missedPage x _ _ _ _ | .pagingDegraded x _ _ | .cellChanged x _ _ _
  | .handoverDone x _ _ | .textSent x _ | .textFailed x _ _ _ | .passOutcome x _ _ => some x

/-! ### Frames from the part (R161, R164) -/

/-- The header byte of a subscription or none. -/
def subByte : Option Sub → Byte
  | some .a => 0
  | some .b => 1
  | none => 0xFF

/-- A frame: five header bytes and the payload. -/
def frameOfBytes (type : Nat) (sub tag : Byte) (payload : List Byte) : List Byte :=
  putByte type ++ [sub] ++ putNat payload.length ++ [tag] ++ payload

/-- The payload of a DOWN_TEXT frame (10 section 10.5); that the missing list stands bare in a PARTIAL frame and not at all in a RECEIVED one is
the model's choice (log 51). -/
def TextEntry.downText (e : TextEntry) : List Byte :=
  let kind := e.delivery.getD .received
  putSub e.sub ++ putDigits e.originator ++ putNat e.reference ++ putNat e.total ++ putByte kind.ctorIdx ++
    putList (fun h => putNat h.1 ++ putPayload h.2) e.held ++
    (match kind with
     | .received => []
     | .partialText => putList putNat e.missing) ++ putOpt putNat e.entry

/-- A RESULT frame. -/
def ResultFrame.bytes (r : ResultFrame) : List Byte :=
  frameOfBytes 0x81 (subByte r.sub) r.tag ([r.request] ++ putByte r.code.ctorIdx ++ r.data)

/-- A DOWN_SPEECH frame (R141), its fields in the order of that rule and its bytes raw, with none in SILENCE: the model's choice (log 55). -/
def DownSpeech.frame (f : DownSpeech) : List Byte :=
  frameOfBytes 0x84 (subByte (some f.sub)) 0
    (putSub f.sub ++ putNat f.ctx ++ putNat f.seq.toNat ++ putByte f.kind.ctorIdx ++ putNat f.step ++ f.bytes)

/-- The frame an entry of the host-bound queue becomes. -/
def State.entryFrame (s : State) (e : HostEntry) : List Byte :=
  match e.body with
  | .report r => frameOfBytes 0x82 (subByte r.sub?) 0 r.payload
  | .signal m => frameOfBytes 0x83 (subByte (some m.sub)) 0
      (putSub m.sub ++ putNat m.code ++ putNat m.ident ++ putOpt putNat m.callRef ++ putOpt (putList putItem) m.errors ++
        m.bytes ++ putFrame m.frame)
  | .text i =>
    match entryAt s.txt.entries i with
    | some t => frameOfBytes 0x85 (subByte (some t.sub)) 0 t.downText
    | none => []

/-- The bytes of the outbound frame begun, which the host clocks out; the fill byte while there is none (R160, R167), and nothing but
zeros while the reset input is held (R171; log 19). -/
def State.dataOut (s : State) : List Byte :=
  if s.resetHeld then [0] else match s.hlc.sending with
  | none => [0]
  | some .result => (s.hlc.results.head?.map (·.bytes)).getD [0]
  | some (.speech f) => f.frame
  | some .entry => (s.hlc.queue.head?.map s.entryFrame).getD [0]

/-! ### The records of QUERY (R170; log 16) -/

/-- The record names of QUERY, in the order of its table (R170). -/
inductive RecordName | subscription | serving | neighbours | ranking | claims | transactions | contexts | counts | routes | sleep
deriving DecidableEq, Repr

/-- The records of one subscription (R170). -/
def RecordName.perSub : RecordName → Bool
  | .subscription | .serving | .neighbours | .ranking => true
  | .claims | .transactions | .contexts | .counts | .routes | .sleep => false

/-- The paging schedule (05 section 5.1). -/
def putSchedule (retry : Retry) (d : Schedule) : List Byte :=
  putNat d.c ++ putNat d.cycle ++ putByte (if d.byAlias then 0 else 1) ++ putNat d.o ++ putNat d.d ++ putNat d.p ++
    putNat d.length ++ putNat d.residue ++ putFlag (retry != .none)

/-- SUBSCRIPTION (R18, R59, R66, R76, R86). The schedule's field "present" (05 section 5.1) is the presence byte before its other fields, with
no flag of its own, the model's choice (log 64). -/
def State.putSubscription (s : State) (x : Sub) : List Byte :=
  let r := s.record x
  let p := s.pscOf x
  let m := (s.mobOf x).params
  putFlag r.configured ++ putOpt putDigits r.identity ++ putOpt putAlias r.aliasVal ++ putOpt putDigits r.homeCode ++
    putOpt putDigits (r.trunk.map fun t => [t]) ++ putOpt putDigits r.intlPre ++ putTable (putOpt putNat) r.overrides ++
    putNat r.ringTimeout ++ putNat r.reassemblyTimeout ++ putOpt putNat r.voiceDepth ++ putByte r.registration.ctorIdx ++
    putOpt putNat r.lastArea ++ putOpt putNat r.rejectedArea ++ putFlag r.updatePending ++ putByte r.standing.ctorIdx ++
    putByte r.activity.ctorIdx ++ putOpt (putSchedule p.retry) p.schedule ++ putNat p.relaxCount ++ putNat p.thr ++
    putFlag p.relaxed ++ putNat (p.missed + p.denied) ++ putNat m.k ++ putNat m.hysteresis ++ putNat m.ttt ++ putNat m.period ++
    putNat m.searchInterval ++ putByte (if s.dlc.filters.get x then 1 else 0) ++ putNat (s.dlc.filtered.get x) ++
    putOpt putNat r.voiceDepth ++ putNat (s.txt.nextRef.get x).toNat

/-- A serving record, without what is derived from it. -/
def putServing (v : Serving) : List Byte :=
  putNat v.cellId ++ putNat v.freq ++ putNat v.area ++ putNat v.offset ++ putNat v.phase ++ putNat v.c ++ putInt v.qmin ++
    putFlag v.barred ++ putOpt putInt v.fs ++ putNat v.floorRun ++ putFlag v.confirmed

/-- A neighbour entry's fields (06 section 6.3), with rounded level and ranking value while TRACKED (R98). -/
def putNeighbour (n : Neighbour) : List Byte :=
  putNat n.cellId ++ putNat n.freq ++ putInt n.offset ++ putFlag n.allowed ++ putByte n.state.ctorIdx ++ putOpt putInt n.f ++
    putNat n.miss ++ putNat n.trigger ++ putOpt putInt (n.f.map rounded) ++ putOpt putInt n.rankValue

/-- A read purpose. -/
def putPurpose : ReadPurpose → List Byte
  | .reselect i c => putByte 0 ++ putNat i ++ putNat c
  | .refresh => putByte 1

/-- A slot record (R112), behind a byte that says whether there is a slot: the model's choice (log 57). -/
def putSlot : SlotRecord → List Byte
  | .noSlot => putByte 0
  | .slot i was => putByte 1 ++ putNat i ++ putOpt putNeighbour was

/-- SERVING (R98, R99 and the mobility state of 07 section 7.1); where the derived values stand is the model's choice (log 57). -/
def State.putServingRecord (s : State) (x : Sub) : List Byte :=
  let m := s.mobOf x
  putOpt (fun v => putServing v ++ putOpt putInt (v.fs.map rounded) ++ putOpt putInt m.servingRank) m.serving ++
    putByte m.hoState.ctorIdx ++ putOpt (fun r => putServing r.serving ++ putSlot r.slot) m.returnRec ++
    putNat m.returnCounter ++ putNat m.guard ++ putOpt putPurpose m.readPurpose ++ putNat m.searchPos ++ putNat m.bandScan ++
    putOpt putNat m.lastFreq

/-- NEIGHBOURS (R98): each entry behind its valid flag, and the rotation position; that an invalid entry is its flag alone is the model's
choice (log 53). -/
def State.putNeighbours (s : State) (x : Sub) : List Byte :=
  putTable (fun e => match e with
    | some n => putFlag true ++ putNeighbour n
    | none => putFlag false) (s.mobOf x).neighbours ++ putNat (s.mobOf x).rotation

/-- RANKING (R95). -/
def State.putRanking (s : State) (x : Sub) : List Byte :=
  let m := s.mobOf x
  putList (fun i => putNat i ++ ((entryAt m.neighbours i).map fun n =>
    putNat n.cellId ++ putInt ((n.f.map rounded).getD 0) ++ putInt (n.rankValue.getD 0) ++ putNat n.trigger).getD []) m.ranking ++
    putOpt putInt m.servingRank

/-- The values of a window. -/
def putWindow (w : Window) : List Byte := putFrame w.first ++ putNat w.slack ++ putNat w.length ++ putNat w.period

/-- A claim's fields (03 section 3.1). -/
def putClaim (c : Claim) : List Byte :=
  putSub c.sub ++ putByte c.kind.ctorIdx ++ putFrame c.first ++ putNat c.slack ++ putNat c.length ++ putNat c.period ++
    putFlag c.perFrame ++ putByte c.state.ctorIdx ++ putFlag c.outranked ++ putFlag c.unavailable ++ putOpt putWindow c.placement ++
    putFlag c.withdrawing ++ putOpt (fun e => putByte e.ctorIdx) c.lastEnd

/-- CLAIMS (R35, R53): the taken entries in index order; the frame in progress counts among the unit's remaining frames (log 44). -/
def State.putClaims (s : State) : List Byte :=
  putList (fun e : Nat × Claim => putClaim e.2) (taken s.rta.claims) ++ putTable (fun p => putByte p.ctorIdx) s.rta.policies ++
    putBoth putFlag s.rta.tuneAway ++ putTable putSub s.rta.marks ++ putNat s.rta.holdCount ++ putNat s.rpt.faultCount ++
    putOpt (fun u => putSub u.sub ++ putByte u.kind.ctorIdx ++ putFrame u.first ++
      putNat (u.length - frameDist u.first s.clock.now)) s.rta.unit

/-- A transaction entry's fields (01 section 1.4); its wait timer stands with its message. -/
def State.putTxn (s : State) (t : Txn) : List Byte :=
  let m := (s.sge.queues.get t.sub).find? (·.isOpenerOf t.ident)
  putSub t.sub ++ putByte t.kind.ctorIdx ++ putNat t.ident.toNat ++ putOwner t.owner ++ putByte t.state.ctorIdx ++
    putOpt putNat t.answer ++ putOpt (fun m => putNat m.wait) m ++ putOpt putNat t.idle

/-- TRANSACTIONS (R170): the overflow holds of a queue are the owners of its held messages, in order of entry (log 45). -/
def State.putTransactions (s : State) : List Byte :=
  putTable (putOpt s.putTxn) s.sge.txns ++
    (putNat s.sge.queues.a.length ++ putList (putOpt putOwner) (s.sge.holds.a.map (·.owner))) ++
    (putNat s.sge.queues.b.length ++ putList (putOpt putOwner) (s.sge.holds.b.map (·.owner))) ++
    putBoth (fun i : Ident => putNat i.toNat) s.sge.nextIdent

/-- A context's fields (08 section 8.1); which of them stand behind a presence byte is the model's choice (log 56). -/
def putContext (e : Nat × CallContext) : List Byte :=
  let c := e.2
  putNat e.1 ++ putSub c.sub ++ putByte c.direction.ctorIdx ++ putNat c.callRef ++ putOpt (fun i : Ident => putNat i.toNat) c.networkIdent ++
    putDigits c.digits ++ putOpt (fun a : CallAction => putByte a.ctorIdx) c.screenAction ++ putOpt putNat c.screenEntry ++
    putByte c.state.ctorIdx ++ putByte c.progress.ctorIdx ++ putFlag c.answerPending ++ putFlag c.connectWaiting ++
    putOpt putCause c.endCause ++ putOpt putNat c.ring

/-- The pending request (08 section 8.1): its tag, then the contexts it concerns, as a list with the context being held or resumed first and
the answered one after it, the model's choice (log 65). -/
def putPending (p : PendingReq) : List Byte :=
  putNat p.tag.toNat ++ putList putNat (match p.kind with
    | .hold | .resume => [p.ctx]
    | .answer j => [p.ctx, j])

/-- CONTEXTS (R119, R137), the Voice Path's values behind the contexts (log 56). -/
def State.putContexts (s : State) : List Byte :=
  let v := s.vcp
  putTable putContext (ctxIndexes.zip s.cal.contexts) ++ putList putNat s.cal.holdStack ++ putOpt putPending s.cal.pendingReq ++
    putByte v.playout.ctorIdx ++ putOpt (fun c => putSub c.1 ++ putNat c.2) v.call ++ putNat v.queue.length ++
    putNat v.uplink.length ++ putOpt (fun q : Seq => putNat q.toNat) v.position ++ putNat v.subRun ++ putFlag v.handover

/-- A reassembly entry as COUNTS gives it (R148); the sequences held as a list of numbers, and a stopped deadline at
the value it stopped at, the model's choice (log 61). -/
def putTextEntry (e : Nat × TextEntry) : List Byte :=
  putNat e.1 ++ putByte (e.2.state.ctorIdx + 1) ++ putSub e.2.sub ++ putDigits e.2.originator ++ putNat e.2.reference ++
    putNat e.2.total ++ putList putNat (e.2.held.map (·.1)) ++ putNat e.2.deadline

/-- The buffers held by reassembly entries (R147). -/
def Txt.heldBuffers (t : Txt) : Nat := ((taken t.entries).map (·.2.buffers)).sum

/-- The buffers held by one outgoing text (R147). -/
def outgoingBuffers (o : Option Outgoing) : Nat := (o.map (·.segments.length)).getD 0

/-- The buffers held by outgoing texts (R147). -/
def Txt.outgoingHeld (t : Txt) : Nat := outgoingBuffers t.outgoing.a + outgoingBuffers t.outgoing.b

/-- COUNTS (R170). -/
def State.putCounts (s : State) : List Byte :=
  putNat s.sge.stray ++ putNat s.dlc.unattributed ++ putBoth putNat s.dlc.filtered ++ putNat s.vcp.overflow ++ putNat s.vcp.late ++
    putNat s.vcp.lost ++ putNat s.vcp.upDrop ++ putNat s.txt.congestion ++ putNat s.txt.blocked ++ putNat s.txt.free ++
    putNat s.txt.heldBuffers ++ putNat s.txt.outgoingHeld ++ putList putTextEntry (taken s.txt.entries) ++
    putNat s.hlc.lostReports ++ putByte s.hlc.host.ctorIdx ++ putNat s.hlc.queue.length ++ putNat s.hlc.results.length ++
    putByte s.psc.power.ctorIdx

/-- A route table entry as two action bytes, CONSUME after the four actions. -/
def putRoute : RouteEntry → List Byte
  | .consume => putByte 4 ++ putByte 4
  | .route a d => putByte a.ctorIdx ++ putByte d.ctorIdx

/-- SLEEP (R170): S, then the three relaxation settings of each subscription. -/
def State.putSleep (s : State) : List Byte :=
  putNat s.psc.settleS ++ putBoth (fun p => putNat p.thr ++ putNat p.factor ++ putNat p.margin) s.psc.per

/-- A record's snapshot (R170); the per-subscription records are of `x`. -/
def State.putRecord (s : State) (name : RecordName) (x : Sub) : List Byte :=
  match name with
  | .subscription => s.putSubscription x
  | .serving => s.putServingRecord x
  | .neighbours => s.putNeighbours x
  | .ranking => s.putRanking x
  | .claims => s.putClaims
  | .transactions => s.putTransactions
  | .contexts => s.putContexts
  | .counts => s.putCounts
  | .routes => putTable putRoute s.dlc.routes
  | .sleep => s.putSleep

end Sys2Proof.Machine
end

