-- ==== Sys2Proof/Machine/Link.lean ====
section
/-! DEFINITION. The Host Link Controller's frames in and out (11 sections 11.1 to 11.5), what ends every step, and the reset (R171). -/

namespace Sys2Proof.Machine

/-! ### The end of every step -/

/-- The next outbound frame, chosen when none is begun and a transfer carries frames (R167; log 18). -/
def State.chooseOutbound (s : State) : State :=
  if s.hlc.link != .carrying || s.hlc.sending.isSome then s
  else if !s.hlc.results.isEmpty then s.onHlc fun h => { h with sending := some .result }
  else match s.hlc.slot with
    | some f => s.onHlc fun h => { h with sending := some (.speech f), slotBegun := true }
    | none => if s.hlc.queue.isEmpty then s else s.onHlc fun h => { h with sending := some .entry }

/-- A subscription has entered CAMPED between two states. -/
def enteredCamped (before after : State) (x : Sub) : Bool := before.activity x != .camped && after.activity x == .camped

/-- What ends every step: the sleep evaluation of entering CAMPED (R21, R80; log 10), the choice of the next outbound frame
(R167) and the outputs (R169). -/
def State.finish (before after : State) : State :=
  let s := if enteredCamped before after .a || enteredCamped before after .b then after.evaluate else after
  s.chooseOutbound.drivePins

/-! ### Host state (R165) -/

/-- The host state becomes AWAKE: the lost-wake mark is cleared and TXT offers its held texts (R153, R165, R168; log 5). -/
def State.hostAwake (s : State) : State :=
  match s.hlc.host with
  | .awake => s
  | .dozing => (s.onHlc fun h => { h with host := .awake, lostWake := false }).offerTexts

/-- The host state becomes DOZING (R165). -/
def State.hostDozing (s : State) : State := s.onHlc fun h => { h with host := .dozing }

/-! ### Frames from the host (R160 to R162) -/

/-- The host types by their values (R161). -/
def hostType (b : Byte) : Option HostType :=
  if b = 1 then some .request else if b = 2 then some .upSignal else if b = 3 then some .upSpeech else none

/-- The declared payload length, if its two bytes arrived (R161). -/
def declaredLength (bytes : List Byte) : Option Nat :=
  match bytes with
  | _ :: _ :: hi :: lo :: _ => some (hi.toNat * 256 + lo.toNat)
  | _ => none

/-- A host frame checked as it is received (R162; log 17 for the order of the checks). -/
def checkFrame (bytes : List Byte) : BadReason ⊕ HostFrame :=
  match bytes with
  | [] => .inl .truncated
  | type :: _ =>
    match hostType type with
    | none => .inl .unknownType
    | some t =>
      if (declaredLength bytes).any fun n => decide (Config.payloadLimit < n) then .inl .lengthOver
      else match bytes, declaredLength bytes with
        | _ :: sub :: _ :: _ :: tag :: payload, some n =>
          if payload.length < n then .inl .truncated else .inr ⟨t, sub, tag, payload.take n⟩
        | _, _ => .inl .truncated

/-- A malformed frame is discarded: BAD_FRAME is queued and the host is AWAKE (R162, R165; log 17). That BAD_FRAME joins the host-bound queue
before the texts that a host becoming AWAKE is offered is the model's choice (log 70). -/
def State.badFrame (reason : BadReason) (bytes : List Byte) (s : State) : State :=
  (s.report (.badFrame reason (bytes.head?.getD 0) bytes[4]?)).hostAwake

/-- A received frame is placed in the inbound hold, or discarded (R162). -/
def State.takeFrame (bytes : List Byte) (s : State) : State :=
  match checkFrame bytes with
  | .inl reason => s.badFrame reason bytes
  | .inr f =>
    if s.hlc.inbound.length < Config.inboundDepth then s.onHlc fun h => { h with inbound := h.inbound ++ [f] }
    else s.badFrame .overrun bytes

/-- The start of a host frame acts on the power state (R84). -/
def State.frameWakes (s : State) : State :=
  match s.psc.power with
  | .light => s.becomeAwake
  | .deep => s.enterWaking
  | .awake | .waking => s

/-! ### Frames to the host (R154, R167, R168) -/

/-- The frame of the entry at the head has been sent: it leaves the queue, a text returns to FREE, and TXT offers another (R153, R154). -/
def State.entrySent (s : State) : State :=
  let t := s.onHlc fun h => { h with queue := h.queue.tail }
  (match s.hlc.queue.head?.map HostEntry.body with
    | some (EntryBody.text i) => t.freeText i
    | some (EntryBody.report _) | some (EntryBody.signal _) | none => t).offerTexts

/-- The outbound frame begun has been sent (R167). -/
def State.frameSent (s : State) : State :=
  let t := match s.hlc.sending with
    | none => s
    | some .result => s.onHlc fun h => { h with results := h.results.tail }
    | some (.speech _) => s.onHlc fun h => if h.slotBegun then { h with slot := none, slotBegun := false } else h
    | some .entry => s.entrySent
  t.onHlc fun h => { h with sending := none }

/-! ### The reset (R171) -/

/-- A transfer in progress carries only fill for its rest, and a frame being received is lost (R171). That this holds also where fill and no
frame was being sent, so that RESET_DONE waits for the next transfer, is the model's choice (DESIGN CHOICE, log 74). -/
def Hlc.cutBy (old fresh : Hlc) : Hlc :=
  { fresh with
    link := match old.link with
      | .none => .none
      | .carrying | .fillOnly => .fillOnly
    rx := match old.rx with
      | .idle => .idle
      | .receiving | .lost => .lost }

/-- Every block takes its reset values; the queue of commands waiting is the outside's and stays. -/
def State.takeReset (cause : ResetCause) (s : State) : State :=
  ({ State.reset with pending := s.pending, hlc := s.hlc.cutBy (Reset.hlc cause) } : State).drivePins

/-! ### Acting on held frames (R163 to R166) -/

/-- The taken and reserved places of the result queue (R166; log 26). -/
def State.resultPlaces (s : State) : Nat := s.hlc.results.length + (if s.cal.pendingReq.isSome then 1 else 0)

/-- HLC acts on held frames only while the part is AWAKE and the reset input is not held (11.3, R171). -/
def State.mayAct (s : State) : Bool := !s.resetHeld && s.psc.power == .awake

/-- The frame at the head of the inbound hold has been acted on: it leaves the hold. -/
def State.popInbound (s : State) : State := s.onHlc fun h => { h with inbound := h.inbound.tail }

/-- The subscription a header byte names: none for 0xFF, and absent for a byte that is not valid (R162). -/
def headerSub (b : Byte) : Option (Option Sub) :=
  if b = 0 then some (some .a) else if b = 1 then some (some .b) else if b = 0xFF then some none else none

/-- The subscription the RESULT of a frame names: the frame's own, and none where its byte names no valid one, since byte 1 of a frame has
no other values (R161; log 15). -/
def HostFrame.resultSub (f : HostFrame) : Option Sub := (headerSub f.sub).getD none

/-- The RESULT of a frame (R164; log 15). -/
def State.reply (f : HostFrame) (request : Byte) (code : ResultCode) (data : List Byte) (s : State) : State :=
  s.pushResult ⟨f.tag, f.resultSub, request, code, data⟩

/-- The codes of the requests (R163). -/
def knownRequest (c : Byte) : Bool := 1 ≤ c.toNat && c.toNat ≤ 21

/-- HLC acts on the REQUEST at the head of the hold with this code (R163, R166): the host is AWAKE, the frame leaves the hold,
`act` carries it out, and PSC evaluates (R80). A request that is empty or of an unknown code is refused whichever row takes it
(log 14); a head of another kind, or nowhere to put a RESULT, leaves everything as it is. -/
def State.request (code : Nat) (act : HostFrame → List Byte → State → State) (s : State) : State :=
  match s.hlc.inbound with
  | [] => s
  | f :: _ =>
    if !s.mayAct || f.type != .request || Config.resultDepth ≤ s.resultPlaces then s
    else match f.payload with
      | [] => ((s.popInbound.hostAwake).reply f 0xFF .badParam []).evaluate
      | c :: body =>
        if c = BitVec.ofNat 8 code then (act f body s.popInbound).evaluate
        else if knownRequest c then s
        else ((s.popInbound.hostAwake).reply f c .badParam []).evaluate

/-- A request that makes the host AWAKE before it is carried out and is answered at once. -/
def State.serve (code : Nat) (act : HostFrame → List Byte → State → ResultCode × List Byte × State) (s : State) : State :=
  s.request code fun f body s =>
    let t := act f body s.hostAwake
    t.2.2.reply f (BitVec.ofNat 8 code) t.1 t.2.1

/-- A request refused, with nothing changed. -/
def refuse (code : ResultCode) (s : State) : ResultCode × List Byte × State := (code, [], s)

/-- A request of one subscription: its values read whole and the subscription named, else BAD_PARAM (R162, R163). -/
def withSub {α : Type} (r : Reader α) (act : Sub → α → State → ResultCode × List Byte × State)
    (f : HostFrame) (body : List Byte) (s : State) : ResultCode × List Byte × State :=
  match headerSub f.sub, readAll r body with
  | some (some x), some v => act x v s
  | _, _ => refuse .badParam s

/-- A request that names no subscription: its values read whole and the header naming none, else BAD_PARAM (R163; log 13). -/
def withoutSub {α : Type} (r : Reader α) (act : α → State → ResultCode × List Byte × State)
    (f : HostFrame) (body : List Byte) (s : State) : ResultCode × List Byte × State :=
  match headerSub f.sub, readAll r body with
  | some none, some v => act v s
  | _, _ => refuse .badParam s

end Sys2Proof.Machine
end

