-- ==== Sys2Proof/Machine/ClockRows.lean ====
section
/-! DEFINITION. The rows of the part's own clock and timers. A row whose occasion is not at hand changes nothing (log 1). -/

namespace Sys2Proof.Machine

/-- What every row answers: the state after what it did, with what ends every step. -/
def State.answer (before after : State) : Host.Outcome State Fault Refusal := .next (before.finish after)

/-- RESET_INPUT_ASSERT (R171): the lines are driven deasserted and the enable asserted while the input is held. -/
def execResetInputAssert (s : State) : Host.Outcome State Fault Refusal :=
  s.answer { s with resetHeld := true }

/-- RESET_INPUT_RELEASE (R171): the reset is taken when the input is released. -/
def execResetInputRelease (s : State) : Host.Outcome State Fault Refusal :=
  if s.resetHeld then .next (s.takeReset .pin) else s.answer s

/-- FRAME_BOUNDARY (R1, R42). -/
def execFrameBoundary (s : State) : Host.Outcome State Fault Refusal := s.answer s.boundary

/-- The planned return from LIGHT is at this boundary, at the next, or already past (R82; log 2). -/
def returnDue (now back : Frame) : Bool := frameDist now back ≤ 1 || 2048 ≤ frameDist now back

/-- LIGHT_RETURN (R82): time reaches the boundary if it is the next one. -/
def State.lightReturn (s : State) : State :=
  match s.psc.power, s.psc.lightReturn with
  | .light, some back =>
    if returnDue s.clock.now back then
      (if back = s.clock.now + 1 then s.onClock fun c => { c with tick := Config.frameTicks } else s).becomeAwake
    else s
  | _, _ => s

/-- LIGHT_RETURN (R82). -/
def execLightReturn (s : State) : Host.Outcome State Fault Refusal := s.answer s.lightReturn

/-- A tick timer that ends within the frame in progress: its ticks pass (R79; log 2). -/
def State.passTicks (n : Nat) (s : State) : State := (s.elapse n).onClock fun c => { c with tick := c.tick + n }

/-- The wake timer expires in DEEP (R83). -/
def State.wakeExpiry (s : State) : State :=
  match s.psc.power, s.psc.wakeTimer with
  | .deep, some n => if s.clock.tick + n ≤ Config.frameTicks then (s.passTicks n).enterWaking else s
  | _, _ => s

/-- WAKE_TIMER_EXPIRY (R83). -/
def execWakeTimerExpiry (s : State) : Host.Outcome State Fault Refusal := s.answer s.wakeExpiry

/-- The settle count ends in WAKING (R83). -/
def State.settleEnd (s : State) : State :=
  match s.psc.power, s.psc.settle with
  | .waking, some n => if s.clock.tick + n ≤ Config.frameTicks then (s.passTicks n).becomeAwake else s
  | _, _ => s

/-- SETTLE_COUNT_END (R83). -/
def execSettleCountEnd (s : State) : Host.Outcome State Fault Refusal := s.answer s.settleEnd

/-- The return counter of `x` has reached 0 in RETURN_CHECK (R117). -/
def State.returnExpiry (x : Sub) (s : State) : State :=
  if (s.mobOf x).hoState == .returnCheck && (s.mobOf x).returnCounter = 0 then s.secondFailure x else s

/-- RETURN_COUNTER_EXPIRY (R117). -/
def execReturnCounterExpiry (x : Sub) (s : State) : Host.Outcome State Fault Refusal := s.answer (s.inRankOrder (State.returnExpiry x))

/-- An answer timer has reached 0 (R7, R15). -/
def State.answerExpiry (x : Sub) (ident : Ident) (s : State) : State :=
  match s.txnBy x ident with
  | none => s
  | some e => if e.2.state == .sent && e.2.answer == some 0 then s.endTxn e.1 .timeout else s

/-- ANSWER_TIMER_EXPIRY (R7). -/
def execAnswerTimerExpiry (x : Sub) (ident : Ident) (s : State) : Host.Outcome State Fault Refusal :=
  s.answer (s.inRankOrder (State.answerExpiry x ident))

/-- A queued message has waited 1024 frames (R7): it is removed, and its transaction, if any, ends TIMEOUT. -/
def State.waitExpiry (x : Sub) (pos : Nat) (s : State) : State :=
  match (s.sge.queues.get x)[pos]? with
  | none => s
  | some m =>
    if m.wait < Config.waitLimit then s
    else if m.opens then
      match s.txnBy x m.ident with
      | some e => s.endTxn e.1 .timeout
      | none => (s.dropQueued x pos).settle x
    else (s.dropQueued x pos).settle x

/-- WAIT_TIMER_EXPIRY (R7). -/
def execWaitTimerExpiry (x : Sub) (pos : Nat) (s : State) : Host.Outcome State Fault Refusal := s.answer (s.inRankOrder (State.waitExpiry x pos))

/-- A link idle timer has reached 0 (R14). -/
def State.idleExpiry (x : Sub) (ident : Ident) (s : State) : State :=
  match s.txnBy x ident with
  | none => s
  | some e => if e.2.state == .linked && e.2.idle == some 0 then s.endTxn e.1 .linkIdle else s

/-- LINK_IDLE (R14). -/
def execLinkIdle (x : Sub) (ident : Ident) (s : State) : Host.Outcome State Fault Refusal := s.answer (s.inRankOrder (State.idleExpiry x ident))

/-- The message is a DETACH_NOTICE. -/
def Msg.isNotice (m : Msg) : Bool :=
  match m.body with
  | .detachNotice _ => true
  | _ => false

/-- DETACH_NOTICE has waited 128 frames (R17): it is discarded, and the claim placed for it withdrawn. -/
def State.noticeExpiry (x : Sub) (s : State) : State :=
  match (s.sge.queues.get x).head? with
  | none => s
  | some m =>
    if s.activity x == .detached && m.isNotice && Config.noticeLimit ≤ m.wait then (s.dropQueued x 0).reexamine x else s

/-- DETACH_NOTICE_EXPIRY (R17). -/
def execDetachNoticeExpiry (x : Sub) (s : State) : Host.Outcome State Fault Refusal := s.answer (s.inRankOrder (State.noticeExpiry x))

/-- The ring timer of an OFFERED context without answer pending has reached 0 (R122). One already at 0 when an ANSWER was taken first
stays at 0, and a RING_TIMEOUT that comes when the context is plain OFFERED again releases it, the model's choice (log 60). -/
def State.ringExpiry (i : Nat) (s : State) : State :=
  if (s.ctx i).state == .offered && !(s.ctx i).answerPending && (s.ctx i).ring == some 0 then
    (s.releaseCtx i .noAnswer).settle (s.ctx i).sub
  else s

/-- RING_TIMEOUT (R122). -/
def execRingTimeout (i : Nat) (s : State) : Host.Outcome State Fault Refusal := s.answer (s.inRankOrder (State.ringExpiry i))

/-- A deadline counter has reached 0 (R155). -/
def State.deadlineExpiry (i : Nat) (s : State) : State :=
  match entryAt s.txt.entries i with
  | none => s
  | some e => if e.deadline = 0 then s.textDeadline i else s

/-- REASSEMBLY_DEADLINE (R155). -/
def execReassemblyDeadline (i : Nat) (s : State) : Host.Outcome State Fault Refusal := s.answer (s.deadlineExpiry i)

end Sys2Proof.Machine
end

