-- ==== Sys2Proof/Machine/Requests.lean ====
section
/-! DEFINITION. What the management requests do, each given its values (R163): the result code, the result data and the state after. -/

namespace Sys2Proof.Machine

/-- What a request answers. -/
abbrev Answer := ResultCode × List Byte × State

/-- A request accepted, with no data. -/
def accept (s : State) : Answer := (.ok, [], s)

/-! ### Subscriber Store -/

/-- An optional number in a range. -/
def optInRange (lo hi : Nat) (o : Option Nat) : Bool := o.all (inRange lo hi)

/-- Every value of CONFIGURE_SUBSCRIPTION is in its range (R19). -/
def ConfigValues.ok (v : ConfigValues) : Bool :=
  digitsOk 6 15 v.identity && digitsOk 1 3 v.homeCode && v.trunk.all (digitsOk 1 1) && v.intlPre.all (digitsOk 1 4) &&
    v.overrides.all (optInRange 16 4095) && optInRange 1 120 v.ring && optInRange 1 255 v.reassembly && optInRange 2 6 v.voiceDepth

/-- The record CONFIGURE_SUBSCRIPTION leaves (R19, R29). -/
def SubRecord.configure (r : SubRecord) (v : ConfigValues) : SubRecord :=
  { configured := true, identity := some v.identity, aliasVal := if r.identity = some v.identity then r.aliasVal else none,
    homeCode := some v.homeCode, trunk := v.trunk.bind (·.head?), intlPre := v.intlPre, overrides := v.overrides,
    ringTimeout := v.ring.getD 30, reassemblyTimeout := v.reassembly.getD 60, voiceDepth := v.voiceDepth,
    registration := .unregistered, lastArea := none, rejectedArea := none, updatePending := false, updateByPage := false,
    standing := .none, rejectItem := none, activity := r.activity }

/-- CONFIGURE_SUBSCRIPTION (R19). -/
def State.doConfigure (x : Sub) (v : ConfigValues) (s : State) : Answer :=
  if !v.ok then refuse .badParam s
  else if s.activity x != .detached then refuse .state s
  else accept ((s.onRecord x fun r => r.configure v).endWait .update x)

/-- A number entry within its limits (R31). -/
def NumberEntry.ok (e : NumberEntry) : Bool :=
  digitsOk 1 20 e.digits &&
    match e.mode with
    | .exact => true
    | .suffix n => inRange 6 12 n && n ≤ e.digits.length

/-- LOAD_NUMBERS (R31). -/
def State.doNumbers (l : List NumberEntry) (s : State) : Answer :=
  if Config.numberEntries < l.length || !l.all NumberEntry.ok then refuse .badParam s
  else accept (s.onSbs fun b => { b with numbers := padTable Config.numberEntries l })

/-- ATTACH (R22). -/
def State.doAttach (x : Sub) (s : State) : Answer :=
  if s.activity x != .detached || !(s.record x).configured then refuse .state s
  else
    let s := ((s.emptyUplink x).withdraw x .signalling).writeActivity x .noService
    accept ((s.onMobOf x fun m => { m with searchPos := 0, bandScan := 0 }).placeSearch x)

/-- DETACH's step 1: the record, without a report (R25). -/
def State.detachRecord (x : Sub) (s : State) : State :=
  ((s.writeActivity x .detached).dropUpdate x).onRecord x fun r =>
    { r with registration := .unregistered, lastArea := none, rejectedArea := none, standing := .none, rejectItem := none }

/-- DETACH's step 8: DETACH_NOTICE is queued alone, and SIGNALLING placed for it (R17, R25). -/
def State.sendNotice (x : Sub) (s : State) : State :=
  (s.offerPlain x none 0 (.detachNotice ((s.record x).identity.getD []))).reexamine x

/-- DETACH (R25). -/
def State.doDetach (x : Sub) (s : State) : Answer :=
  if s.activity x == .detached then refuse .state s
  else
    let camped := (s.activity x).isCampedState
    let inAccess := (s.mobOf x).hoState == .access
    let s := (s.detachRecord x).endAllCtxs x .detached
    let s := ((s.teardownSge x .detached).detachTexts x).failText x .detached
    let s := (s.withdrawAll x).onMobOf x MobSub.afterDetach
    let s := (s.onPscOf x PscSub.tornDown).onVcp fun v => { v with handover := v.handover && !inAccess }
    let s := s.setFilter x false
    accept ((if camped then s.sendNotice x else s).tryWaiters none)

/-! ### Mobility Unit -/

/-- The cells of a list that are named twice (R89). -/
def hasDuplicate (l : List Nat) : Bool := (distinct l).length != l.length

/-- An offset brought into −30..+30 lu (R89). -/
def clampOffset (o : Int) : Int := if o < -30 then -30 else if 30 < o then 30 else o

/-- The entry an item of LOAD_NEIGHBOURS makes (R89). -/
def NeighbourItem.entry (i : NeighbourItem) : Neighbour :=
  ⟨i.cellId, i.freq, clampOffset i.offset, i.allowed, .unmeasured, none, 0, 0⟩

/-- The indexes of the items that hold the serving cell's id (R89). -/
def skippedIndexes (serving : Option Serving) (l : List NeighbourItem) : List Nat :=
  (List.range l.length).filter fun i =>
    match serving, l[i]? with
    | some v, some n => n.cellId == v.cellId
    | _, _ => false

/-- The table LOAD_NEIGHBOURS writes: the serving cell's item skipped, its index left invalid (R89). -/
def neighbourTable (serving : Option Serving) (l : List NeighbourItem) : List (Option Neighbour) :=
  (padTable Config.neighbourEntries l).map fun e =>
    (e.filter fun n => !(serving.any fun v => v.cellId == n.cellId)).map NeighbourItem.entry

/-- LOAD_NEIGHBOURS (R89). -/
def State.doNeighbours (x : Sub) (l : List NeighbourItem) (s : State) : Answer :=
  if Config.neighbourEntries < l.length || !(l.all fun i => i.freq ≤ 2047) || hasDuplicate (l.map (·.cellId)) then refuse .badParam s
  else if (s.mobOf x).hoState == .access then refuse .state s
  else
    let s' := s.onMobOf x fun m => { m with
      neighbours := neighbourTable m.serving l, ranking := [], fired := false, rotation := 0 }
    (.ok, putList putNat (skippedIndexes (s.serving x) l), s'.withdraw x .beaconRead)

/-- Mobility parameters within their ranges (R86). -/
def MobParams.ok (p : MobParams) : Bool :=
  p.k ≤ 6 && p.hysteresis ≤ 30 && inRange 1 15 p.ttt && inRange 16 511 p.period && inRange 64 4095 p.searchInterval

/-- SEARCH is placed again with its current first frame and the new interval (R101); one that is being withdrawn counts as no longer in the
table, the model's choice (log 54). -/
def State.replaceSearch (x : Sub) (s : State) : State :=
  match s.claimOf x .search with
  | none => s
  | some e => if e.2.withdrawing then s else (s.place x .search ⟨e.2.first, 15, 4, (s.mobOf x).params.searchInterval, false⟩).2

/-- SET_MOBILITY (R86, R91, R101). -/
def State.doMobility (x : Sub) (p : MobParams) (s : State) : Answer :=
  if !p.ok then refuse .badParam s
  else
    let old := (s.mobOf x).params
    let s := s.onMobOf x fun m => { m with params := p }
    let s := if old.period = p.period then s else s.replaceMeasure x
    accept (if old.searchInterval = p.searchInterval then s else s.replaceSearch x)

/-! ### Classifier, arbiter and sleep settings -/

/-- LOAD_ROUTES (R62). -/
def State.doRoutes (l : List (Nat × RouteAction × RouteAction)) (s : State) : Answer :=
  if l.isEmpty || 48 < l.length || !(l.all fun e => e.1 ≤ 63) || hasDuplicate (l.map (·.1)) then refuse .badParam s
  else if l.any fun e => e.1 < 16 then refuse .state s
  else accept (s.onDlc fun d => { d with routes := l.foldl (fun t e => t.set e.1 (.route e.2.1 e.2.2)) d.routes })

/-- SET_ARBITRATION (R53). -/
def State.doArbitration (v : List Policy × Bool × Bool) (s : State) : Answer :=
  accept (s.onRta fun r => { r with policies := v.1, tuneAway := ⟨v.2.1, v.2.2⟩ })

/-- A relax factor (R78). -/
def factorOk (f : Nat) : Bool := f == 1 || f == 2 || f == 4 || f == 8

/-- The values of SET_SLEEP, in the order of R78. -/
structure SleepValues where
  settle  : Nat
  thrA    : Nat
  thrB    : Nat
  factorA : Nat
  factorB : Nat
  marginA : Nat
  marginB : Nat
deriving DecidableEq, Repr

/-- The seven values read. -/
def readSleep : Reader SleepValues :=
  readThen readNat fun s => readThen readNat fun ra => readThen readNat fun rb => readThen readNat fun fa =>
  readThen readNat fun fb => readThen readNat fun ma => readThen readNat fun mb => readPure ⟨s, ra, rb, fa, fb, ma, mb⟩

/-- Every value in its range (R78). -/
def SleepValues.ok (v : SleepValues) : Bool :=
  inRange 16 1023 v.settle && v.thrA ≤ 255 && v.thrB ≤ 255 && factorOk v.factorA && factorOk v.factorB && v.marginA ≤ 60 &&
    v.marginB ≤ 60

/-- New relaxation settings of a subscription; a count above the new threshold is lowered to it (R78). -/
def State.setRelax (x : Sub) (thr factor margin : Nat) (s : State) : State :=
  s.withRelax x fun p => { p with thr := thr, factor := factor, margin := margin, relaxCount := min p.relaxCount thr }

/-- SET_SLEEP (R78). -/
def State.doSleep (v : SleepValues) (s : State) : Answer :=
  if !v.ok then refuse .badParam s
  else accept (((s.onPsc fun p => { p with settleS := v.settle }).setRelax .a v.thrA v.factorA v.marginA).setRelax .b v.thrB v.factorB v.marginB)

/-- RADIO_HOLD (R48). -/
def State.doRadioHold (s : State) : Answer :=
  if Config.holdLimit ≤ s.rta.holdCount then refuse .limit s
  else (.ok, putNat (s.rta.holdCount + 1), s.onRta fun r => { r with holdCount := r.holdCount + 1 })

/-- RADIO_RELEASE (R48). -/
def State.doRadioRelease (s : State) : Answer :=
  if s.rta.holdCount = 0 then refuse .state s
  else (.ok, putNat (s.rta.holdCount - 1), s.onRta fun r => { r with holdCount := r.holdCount - 1 })

/-! ### Call Unit -/

/-- The call reference of an outgoing call: the lowest in 0..7 that no non-IDLE context of `x` holds (R128). -/
def State.freeRef (s : State) (x : Sub) : Nat :=
  ((List.range 8).find? fun r => (s.ctxByRef x r).isNone).getD 0

/-- States in which a call of `x` forbids another DIAL (R128). -/
def CallState.settling : CallState → Bool
  | .originating | .connecting | .holding | .resuming => true
  | .idle | .offered | .active | .held | .releasing => false

/-- Some context is in transition: ORIGINATING, CONNECTING, HOLDING or RESUMING (R123, R131). -/
def State.anySettling (s : State) : Bool := ctxIndexes.any fun i => (s.ctx i).state.settling

/-- The ACTIVE context (R130). -/
def State.activeCtx (s : State) : Option Nat := ctxIndexes.find? fun i => (s.ctx i).state == .active

/-- DIAL takes a context and offers SETUP_OUT (R128). -/
def State.dialOn (x : Sub) (i : Nat) (d : Digits) (s : State) : Answer :=
  let ref := s.freeRef x
  let t := s.onCtx i fun _ => { Reset.context with sub := x, direction := .outgoing, callRef := ref, digits := d }
  match t.ctxOffer i .setup (.setupOut ref d) with
  | (some _, t) => (.ok, putNat i ++ putNat ref, (t.moveCtx i .originating).settle x)
  | (none, _) => refuse .busy s

/-- DIAL (R128). -/
def State.doDial (x : Sub) (d : Digits) (s : State) : Answer :=
  if !digitsOk 1 20 d then refuse .badParam s
  else match s.activity x with
    | .detached => refuse .state s
    | .noService => refuse .noService s
    | .camped | .attended | .inCall =>
      if (s.activity x.other).isBusy then refuse .busyOther s
      else if ctxIndexes.any fun i => s.ctxOf x i && ((s.ctx i).state == .active || (s.ctx i).state.settling) then refuse .state s
      else match s.freeCtx with
        | none => refuse .limit s
        | some i => s.dialOn x i d

/-- The pending request of a frame: the tag and the subscription its RESULT will carry (R161, R164). -/
def HostFrame.pendingFor (f : HostFrame) (kind : PendingKind) (i : Nat) : PendingReq := ⟨kind, i, f.tag, f.resultSub⟩

/-- A request is recorded as pending (R124, R130, R131). -/
def State.recordPending (p : PendingReq) (s : State) : State := s.onCal fun c => { c with pendingReq := some p }

/-- What a request of the Call Unit comes to: a RESULT at once, or one that comes later (R163). -/
inductive CallAnswer
  | now (code : ResultCode) (s : State)
  | later (s : State)

/-- ANSWER of context `j` while context `k` is ACTIVE: by automatic hold (R124). -/
def State.answerByHold (f : HostFrame) (j k : Nat) (s : State) : CallAnswer :=
  if 2 ≤ s.cal.holdStack.length then .now .limit s
  else match s.ctxOffer k .hold (.hold (s.ctx k).callRef) with
    | (none, _) => .now .busy s
    | (some _, t) =>
      let t := (t.moveCtx k .holding).onCtx j fun c => { c with answerPending := true }
      .later ((t.recordPending (f.pendingFor (.answer j) k)).settle (s.ctx k).sub)

/-- ANSWER of context `j` while no context is ACTIVE (R123). -/
def State.answerNow (j : Nat) (s : State) : CallAnswer :=
  match s.ctxOffer j .connect (.connect (s.ctx j).callRef) with
  | (none, _) => .now .busy s
  | (some _, t) => .now .ok (((t.onCtx j fun c => { c with ring := none }).moveCtx j .connecting).settle (s.ctx j).sub)

/-- ANSWER (R123, R124). -/
def State.doAnswer (f : HostFrame) (j : Nat) (s : State) : CallAnswer :=
  if 2 < j then .now .badParam s
  else if (s.ctx j).state != .offered || (s.ctx j).answerPending then .now .state s
  else if s.activity (s.ctx j).sub.other == .attended then .now .busyOther s
  else if s.anySettling then .now .state s
  else match s.activeCtx with
    | some k => s.answerByHold f j k
    | none => s.answerNow j

/-- REJECT (R122). -/
def State.doReject (j : Nat) (s : State) : Answer :=
  if 2 < j then refuse .badParam s
  else if (s.ctx j).state != .offered then refuse .state s
  else accept ((s.releaseCtx j .rejected).settle (s.ctx j).sub)

/-- HANG_UP (R132). -/
def State.doHangUp (j : Nat) (s : State) : Answer :=
  if 2 < j then refuse .badParam s
  else if (s.ctx j).state == .idle || (s.ctx j).state == .releasing then refuse .state s
  else accept ((s.releaseCtx j .hostRelease).settle (s.ctx j).sub)

/-- HOLD (R130). -/
def State.doHold (f : HostFrame) (s : State) : CallAnswer :=
  match s.activeCtx with
  | none => .now .state s
  | some k =>
    if 2 ≤ s.cal.holdStack.length then .now .limit s
    else match s.ctxOffer k .hold (.hold (s.ctx k).callRef) with
      | (none, _) => .now .busy s
      | (some _, t) => .later (((t.moveCtx k .holding).recordPending (f.pendingFor .hold k)).settle (s.ctx k).sub)

/-- RESUME (R131). -/
def State.doResume (f : HostFrame) (s : State) : CallAnswer :=
  match s.cal.holdStack.getLast? with
  | none => .now .state s
  | some k =>
    if s.activeCtx.isSome || s.anySettling then .now .state s
    else match s.ctxOffer k .resume (.resume (s.ctx k).callRef) with
      | (none, _) => .now .busy s
      | (some _, t) => .later (((t.moveCtx k .resuming).recordPending (f.pendingFor .resume k)).settle (s.ctx k).sub)

/-- The RESULT of a call request, now or later. -/
def CallAnswer.finish (f : HostFrame) (code : Nat) : CallAnswer → State
  | .now rc s => s.reply f (BitVec.ofNat 8 code) rc []
  | .later s => s

/-- A call request that names no subscription, its values read whole, else BAD_PARAM (R163; log 13). -/
def State.serveCall {α : Type} (code : Nat) (r : Reader α) (act : HostFrame → α → State → CallAnswer) (s : State) : State :=
  s.request code fun f body s =>
    let s := s.hostAwake
    match headerSub f.sub, readAll r body with
    | some none, some v => (act f v s).finish f code
    | _, _ => s.reply f (BitVec.ofNat 8 code) .badParam []

/-! ### Text Unit -/

/-- Destination and segments within their limits (R157). -/
def textOk (d : Digits) (l : List (List Byte)) : Bool :=
  digitsOk 1 20 d && inRange 1 8 l.length && l.all fun p => inRange 1 140 p.length

/-- SEND_TEXT takes its buffers and offers the first segment (R157). -/
def State.startText (x : Sub) (d : Digits) (l : List (List Byte)) (s : State) : Answer :=
  let ref := (s.txt.nextRef.get x).toNat
  let s := s.onTxt fun t => { t with nextRef := t.nextRef.upd x (· + 1), free := t.free - l.length }
  let s := s.setOutgoing x (some ⟨ref, d, l.length, l, 1, false⟩)
  match s.offerSegment x with
  | (true, s) => (.ok, putNat ref, s.settle x)
  | (false, s) => refuse .busy (s.dropOutgoing x)

/-- SEND_TEXT (R157). -/
def State.doSendText (x : Sub) (v : Digits × List (List Byte)) (s : State) : Answer :=
  if !textOk v.1 v.2 then refuse .badParam s
  else match s.activity x with
    | .detached => refuse .state s
    | .noService => refuse .noService s
    | .inCall => refuse .state s
    | .camped | .attended =>
      if s.activity x.other == .inCall then refuse .busyOther s
      else if (s.outgoingOf x).isSome || s.txt.free < v.2.length then refuse .busy s
      else s.startText x v.1 v.2

/-! ### Host Link Controller -/

/-- A context forbids dozing (R136, R165). -/
def CallState.keepsHost (c : CallState) : Bool := c.settling || c == .active || c == .held

/-- HOST_DOZE (R165): only the accepted one does not make the host AWAKE. -/
def State.doDoze (f : HostFrame) (body : List Byte) (s : State) : State :=
  if headerSub f.sub != some none || !body.isEmpty then s.hostAwake.reply f 17 .badParam []
  else if ctxIndexes.any fun i => (s.ctx i).state.keepsHost then s.hostAwake.reply f 17 .busy []
  else s.hostDozing.reply f 17 .ok []

/-- The record names by their place in the table of R170. -/
def readRecord : Reader RecordName :=
  readEnum [.subscription, .serving, .neighbours, .ranking, .claims, .transactions, .contexts, .counts, .routes, .sleep]

/-- A record is answered with the frame number before it; COUNTS sets the lost-report count to 0 (R168, R170). -/
def State.answerQuery (name : RecordName) (x : Sub) (s : State) : Answer :=
  (.ok, putFrame s.clock.now ++ s.putRecord name x,
   if name = .counts then s.onHlc fun h => { h with lostReports := 0 } else s)

/-- QUERY (R170). -/
def State.doQuery (f : HostFrame) (body : List Byte) (s : State) : Answer :=
  match headerSub f.sub, readAll readRecord body with
  | some (some x), some name => if name.perSub then s.answerQuery name x else refuse .badParam s
  | some none, some name => if name.perSub then refuse .badParam s else s.answerQuery name .a
  | _, _ => refuse .badParam s

/-! ### UP_SIGNAL and UP_SPEECH -/

/-- A pass-through message joins the queue of `x`, with a PASS transaction when an answer is expected (R16); without one it carries ident 0
(log 38). -/
def State.sendPass (x : Sub) (code : Nat) (expect : Bool) (payload : List Byte) (s : State) : Answer :=
  let kind := if expect then some TxnKind.pass else none
  match s.offer x ⟨some .host, kind, 0, none, .pass code payload⟩ with
  | (some ident, s) => (.ok, if expect then putNat ident.toNat else [], s.settle x)
  | (none, s) => refuse .busy s

/-- UP_SIGNAL (R16; a header byte that names no valid subscription: R162). BAD_PARAM, before the other conditions, for a payload that cannot be
read is the model's choice (DESIGN CHOICE, log 75): R16 names only a subscription of none and a code outside 16..63, and R163 speaks of requests. -/
def State.doUpSignal (f : HostFrame) (s : State) : Answer :=
  match headerSub f.sub, readAll readUpSignal f.payload with
  | some (some x), some (code, expect, payload) =>
    if !inRange 16 63 code then refuse .badParam s
    else match s.activity x with
      | .detached => refuse .state s
      | .noService => refuse .noService s
      | .camped | .attended | .inCall =>
        if expect && s.activity x.other == .inCall then refuse .busyOther s else s.sendPass x code expect payload
  | _, _ => refuse .badParam s

/-- HLC acts on the UP_SIGNAL at the head of the hold (R163, R166). -/
def State.actUpSignal (s : State) : State :=
  match s.hlc.inbound with
  | [] => s
  | f :: _ =>
    if !s.mayAct || f.type != .upSignal || Config.resultDepth ≤ s.resultPlaces then s
    else
      let t := s.popInbound.hostAwake.doUpSignal f
      (t.2.2.reply f 0 t.1 t.2.1).evaluate

/-- HLC acts on the UP_SPEECH at the head of the hold (R143, R163, R166). -/
def State.actUpSpeech (s : State) : State :=
  match s.hlc.inbound with
  | [] => s
  | f :: _ =>
    if !s.mayAct || f.type != .upSpeech then s
    else (s.popInbound.hostAwake.onVcp (Vcp.upSpeech ((headerSub f.sub).getD none) f.payload)).evaluate

end Sys2Proof.Machine
end

