-- ==== Sys2Proof/Machine/HostRows.lean ====
section
/-! DEFINITION. The rows of the Host Link: transfers, frames and requests. While the reset input is held the link is ignored (R171; log 19). -/

namespace Sys2Proof.Machine

/-! ### Transfers and frames -/

/-- A transfer begins with a host frame (R84, R160). -/
def State.frameStart (s : State) : State :=
  if s.hlc.link != .none then s
  else if s.resetHeld then s.onHlc fun h => { h with link := .fillOnly, rx := .lost }
  else (s.onHlc fun h => { h with link := .carrying, rx := .receiving }).frameWakes

/-- HOST_FRAME_START (R84). -/
def execHostFrameStart (s : State) : Host.Outcome State Fault Refusal := s.answer s.frameStart

/-- A read-only transfer begins: neither the host state nor the power state changes (R160). -/
def State.readOnly (s : State) : State :=
  if s.hlc.link != .none then s
  else s.onHlc fun h => { h with link := if s.resetHeld then .fillOnly else .carrying }

/-- READ_ONLY_TRANSFER (R160). -/
def execReadOnlyTransfer (s : State) : Host.Outcome State Fault Refusal := s.answer s.readOnly

/-- The bytes of a host frame have come in, or its transfer has ended (R162); one under way at a reset is lost. -/
def State.frameReceived (bytes : List Byte) (s : State) : State :=
  match bytes, s.hlc.rx with
  | [], _ => s
  | _ :: _, .idle => s
  | _ :: _, .lost => s.onHlc fun h => { h with rx := .idle }
  | b :: l, .receiving =>
    let s := s.onHlc fun h => { h with rx := .idle }
    if s.resetHeld then s else s.takeFrame (b :: l)

/-- HOST_FRAME_RECEIVED (R162). -/
def execHostFrameReceived (bytes : List Byte) (s : State) : Host.Outcome State Fault Refusal := s.answer (s.frameReceived bytes)

/-- The last byte of the frame begun has been clocked out, in a transfer that carries frames (R160, R167). -/
def State.outboundSent (s : State) : State :=
  if s.hlc.link == .carrying && !s.resetHeld then s.frameSent else s

/-- OUTBOUND_FRAME_SENT (R167). -/
def execOutboundFrameSent (s : State) : Host.Outcome State Fault Refusal := s.answer s.outboundSent

/-- A transfer ends: a frame cut in its middle stays first in line, one not begun is chosen anew (R160; log 18); with none under way, nothing (log 1). -/
def State.transferOver (midFrame : Bool) (s : State) : State :=
  if s.hlc.link == .none then s
  else s.onHlc fun h => { h with
    link := .none
    rx := if h.rx == .lost then .idle else h.rx
    sending := if midFrame then h.sending else none
    slotBegun := midFrame && h.slotBegun }

/-- TRANSFER_END (R160). -/
def execTransferEnd (midFrame : Bool) (s : State) : Host.Outcome State Fault Refusal := s.answer (s.transferOver midFrame)

/-- UP_SIGNAL (R16). -/
def execUpSignal (s : State) : Host.Outcome State Fault Refusal := s.answer s.actUpSignal

/-- UP_SPEECH (R143). -/
def execUpSpeech (s : State) : Host.Outcome State Fault Refusal := s.answer s.actUpSpeech

/-! ### Requests -/

/-- CONFIGURE_SUBSCRIPTION (R19). -/
def execConfigureSubscription (s : State) : Host.Outcome State Fault Refusal :=
  s.answer (s.serve 1 (withSub readConfig State.doConfigure))

/-- LOAD_NEIGHBOURS (R89). -/
def execLoadNeighbours (s : State) : Host.Outcome State Fault Refusal :=
  s.answer (s.serve 2 (withSub (readList readNeighbour) State.doNeighbours))

/-- LOAD_NUMBERS (R31). -/
def execLoadNumbers (s : State) : Host.Outcome State Fault Refusal :=
  s.answer (s.serve 3 (withoutSub (readList readNumber) State.doNumbers))

/-- LOAD_ROUTES (R62). -/
def execLoadRoutes (s : State) : Host.Outcome State Fault Refusal :=
  s.answer (s.serve 4 (withoutSub (readList readRoute) State.doRoutes))

/-- The five parameters of SET_MOBILITY, in the order of 06 section 6.1. -/
def readMobility : Reader MobParams :=
  readThen readNat fun k => readThen readNat fun h => readThen readNat fun t => readThen readNat fun p =>
  readThen readNat fun i => readPure ⟨k, h, t, p, i⟩

/-- SET_MOBILITY (R86). -/
def execSetMobility (s : State) : Host.Outcome State Fault Refusal :=
  s.answer (s.serve 5 (withSub readMobility State.doMobility))

/-- SET_ARBITRATION (R53). -/
def execSetArbitration (s : State) : Host.Outcome State Fault Refusal :=
  s.answer (s.serve 6 (withoutSub readArbitration State.doArbitration))

/-- SET_SLEEP (R78). -/
def execSetSleep (s : State) : Host.Outcome State Fault Refusal :=
  s.answer (s.serve 7 (withoutSub readSleep State.doSleep))

/-- ATTACH (R22). -/
def execAttach (s : State) : Host.Outcome State Fault Refusal :=
  s.answer (s.serve 8 (withSub (readPure ()) fun x _ => State.doAttach x))

/-- DETACH (R25). -/
def execDetach (s : State) : Host.Outcome State Fault Refusal :=
  s.answer (s.serve 9 (withSub (readPure ()) fun x _ => State.doDetach x))

/-- DIAL (R128). -/
def execDial (s : State) : Host.Outcome State Fault Refusal :=
  s.answer (s.serve 10 (withSub readDigits State.doDial))

/-- ANSWER (R123). -/
def execAnswer (s : State) : Host.Outcome State Fault Refusal := s.answer (s.serveCall 11 readNat State.doAnswer)

/-- REJECT (R122). -/
def execReject (s : State) : Host.Outcome State Fault Refusal :=
  s.answer (s.serve 12 (withoutSub readNat State.doReject))

/-- HANG_UP (R132). -/
def execHangUp (s : State) : Host.Outcome State Fault Refusal :=
  s.answer (s.serve 13 (withoutSub readNat State.doHangUp))

/-- HOLD (R130). -/
def execHold (s : State) : Host.Outcome State Fault Refusal :=
  s.answer (s.serveCall 14 (readPure ()) fun f _ => State.doHold f)

/-- RESUME (R131). -/
def execResume (s : State) : Host.Outcome State Fault Refusal :=
  s.answer (s.serveCall 15 (readPure ()) fun f _ => State.doResume f)

/-- SEND_TEXT (R157). -/
def execSendText (s : State) : Host.Outcome State Fault Refusal :=
  s.answer (s.serve 16 (withSub readText State.doSendText))

/-- HOST_DOZE (R165). -/
def execHostDoze (s : State) : Host.Outcome State Fault Refusal := s.answer (s.request 17 State.doDoze)

/-- RADIO_HOLD (R48). -/
def execRadioHold (s : State) : Host.Outcome State Fault Refusal :=
  s.answer (s.serve 18 (withoutSub (readPure ()) fun _ => State.doRadioHold))

/-- RADIO_RELEASE (R48). -/
def execRadioRelease (s : State) : Host.Outcome State Fault Refusal :=
  s.answer (s.serve 19 (withoutSub (readPure ()) fun _ => State.doRadioRelease))

/-- QUERY (R170). -/
def execQuery (s : State) : Host.Outcome State Fault Refusal := s.answer (s.serve 20 State.doQuery)

/-- HLC takes the RESET at the head of the hold, whatever its header's subscription byte holds (R163, R171). -/
def State.resetTaken (s : State) : Bool :=
  match s.hlc.inbound with
  | [] => false
  | f :: _ => s.mayAct && f.type == .request && s.resultPlaces < Config.resultDepth && f.payload == [21]

/-- RESET with a payload longer than its code is refused (R163). -/
def State.refuseReset (s : State) : State := s.serve 21 fun _ _ s => refuse .badParam s

/-- RESET (R171). -/
def execReset (s : State) : Host.Outcome State Fault Refusal :=
  if s.resetTaken then .next (s.takeReset .request) else s.answer s.refuseReset

end Sys2Proof.Machine
end

