-- ==== Sys2Proof/Machine/RadioRows.lean ====
section
/-! DEFINITION. The rows of the Radio Port. -/

namespace Sys2Proof.Machine

/-- An ORDER_ACK (R49 to R51): one that matches no outstanding order is discarded. -/
def State.orderAck (tag : Ident) (errors : List OrderError) (s : State) : State :=
  match s.rpt.order with
  | none => s
  | some o => if o.tag = tag then (if errors.isEmpty then s.cleanAck o else s.faultOrder errors) else s

/-- ORDER_ACK (R50). -/
def execOrderAck (tag : Ident) (errors : List OrderError) (s : State) : Host.Outcome State Fault Refusal :=
  s.answer (s.orderAck tag errors)

/-- The return counter does not count the boundary at which the deadline passes, when the fault there has begun the check (R117). -/
def MobSub.entersCheck (before after : MobSub) : MobSub :=
  if before.hoState != .returnCheck && after.hoState == .returnCheck then { after with returnNew := true } else after

/-- The deadline of the outstanding order passes (R50): the order faults, with an empty error list. -/
def State.deadlinePasses (s : State) : State :=
  (s.inRankOrder (State.faultOrder [])).onMob fun m => ⟨s.mob.a.entersCheck m.a, s.mob.b.entersCheck m.b⟩

/-- ORDER_DEADLINE (R50). -/
def execOrderDeadline (s : State) : Host.Outcome State Fault Refusal := s.answer s.deadlinePasses

/-- MEASUREMENT_RESULT (R52). -/
def execMeasurementResult (entries : List (Option Int)) (s : State) : Host.Outcome State Fault Refusal :=
  s.answer (s.holdResult entries)

/-- PAGE_BLOCK (R55 to R58, R64, R71): a bad PAGE reaches PSC and its items are not read. -/
def execPageBlock (frame : Frame) (good : Bool) (b : PageBlock) (s : State) : Host.Outcome State Fault Refusal :=
  let good := good && pageOk b
  s.answer (s.classify frame .page good fun h s => if good then s.pageDelivered h frame b else s)

/-- BEACON_BLOCK (R55 to R58, R64, R100): a bad BEACON reaches MOB and its fields are not read. -/
def execBeaconBlock (frame : Frame) (good : Bool) (b : BeaconBlock) (s : State) : Host.Outcome State Fault Refusal :=
  let good := good && beaconOk b
  s.answer (s.classify frame .beacon good fun h s => if good then s.beaconDelivered h.sub h.kind h.unitFirst b else s)

/-- SIGNAL_BLOCK (R55 to R58, R60, R64). -/
def execSignalBlock (frame : Frame) (good : Bool) (b : SignalBlock) (s : State) : Host.Outcome State Fault Refusal :=
  let good := good && signalOk b
  s.answer (s.classify frame .signal good fun h s => s.signalDelivered h frame good b)

/-- VOICE_BLOCK (R55 to R58, R64, R139). -/
def execVoiceBlock (frame : Frame) (good : Bool) (b : VoiceBlock) (s : State) : Host.Outcome State Fault Refusal :=
  let good := good && voiceOk b
  s.answer (s.classify frame .voice good fun h s => s.voiceDelivered h good b)

end Sys2Proof.Machine
end

