-- ==== Sys2Proof/Machine/RetryRows.lean ====
section
/-! DEFINITION. The rows in which the part's blocks take up waiting work (log 4). -/

namespace Sys2Proof.Machine

/-- TEXT_OFFER_RETRY (R153): TXT offers its COMPLETE texts again. The steps that bring an event of R153 have offered them already (log 5). -/
def execTextOfferRetry (s : State) : Host.Outcome State Fault Refusal := s.answer s.offerTexts

/-- The message that entered its hold first moves to the tail of the queue, its wait timer from 0 (R9). -/
def State.enqueueHeld (x : Sub) (s : State) : State :=
  match s.sge.holds.get x with
  | [] => s
  | m :: rest =>
    if s.queueFull x then s
    else ((s.onSge fun g => { g with holds := g.holds.set x rest }).enqueue x m).reexamine x

/-- HELD_MESSAGE_ENQUEUE (R9). -/
def execHeldMessageEnqueue (x : Sub) (s : State) : Host.Outcome State Fault Refusal := s.answer (s.enqueueHeld x)

/-- The waiter whose turn it is to try (R5), which no owner has while the part is not AWAKE (R79). -/
def State.isTurn (s : State) (w : WaitKind) (x : Sub) : Bool :=
  s.psc.power == .awake && s.dueWaiters.head?.any fun e => e.what == w && e.sub == x

/-- The waiter tries whose turn it is (R5, R27, R158). -/
def State.waiterRetry (w : WaitKind) (x : Sub) (s : State) : State :=
  if s.isTurn w x then ((s.clearDue w x).tryOnce w x).settle x else s

/-- SBS tries a pending update again after a message has left the queue of `x` (R27). -/
def State.updateRetry (x : Sub) (s : State) : State := s.waiterRetry .update x

/-- PENDING_UPDATE_RETRY (R27). -/
def execPendingUpdateRetry (x : Sub) (s : State) : Host.Outcome State Fault Refusal := s.answer (s.updateRetry x)

/-- TXT offers a due segment again after a message has left the queue of `x` (R158). -/
def State.segmentRetry (x : Sub) (s : State) : State := s.waiterRetry .segment x

/-- SEGMENT_DUE_RETRY (R158). -/
def execSegmentDueRetry (x : Sub) (s : State) : Host.Outcome State Fault Refusal := s.answer (s.segmentRetry x)

/-- PSC places a refused PAGING_LISTEN again, once in each frame of the listen residue (R69). -/
def State.pagingRetry (x : Sub) (s : State) : State := if s.placementTurn .pagingListen x then s.tryPaging x else s

/-- PAGING_PLACEMENT_RETRY (R69). -/
def execPagingPlacementRetry (x : Sub) (s : State) : Host.Outcome State Fault Refusal := s.answer (s.pagingRetry x)

/-- MOB places a refused MEASURE again one period later, while there is a serving cell (R91). -/
def State.measureRetry (x : Sub) (s : State) : State :=
  if s.placementTurn .measure x then s.tryMeasure x else s

/-- MEASURE_PLACEMENT_RETRY (R91). -/
def execMeasurePlacementRetry (x : Sub) (s : State) : Host.Outcome State Fault Refusal := s.answer (s.measureRetry x)

/-- MOB places a refused SEARCH again one interval later, while NO_SERVICE (R101). -/
def State.searchRetry (x : Sub) (s : State) : State :=
  if s.placementTurn .search x then s.trySearch x else s

/-- SEARCH_PLACEMENT_RETRY (R101). -/
def execSearchPlacementRetry (x : Sub) (s : State) : Host.Outcome State Fault Refusal := s.answer (s.searchRetry x)

/-- CAL places a refused TRAFFIC again while an established call is there (R135). -/
def State.trafficRetry (x : Sub) (s : State) : State :=
  if s.placementTurn .traffic x then (s.placeTraffic x).reexamine x else s

/-- TRAFFIC_PLACEMENT_RETRY (R135). -/
def execTrafficPlacementRetry (x : Sub) (s : State) : Host.Outcome State Fault Refusal := s.answer (s.trafficRetry x)

/-- A context with connect waiting becomes ACTIVE when this row comes and the other subscription is not ATTENDED then (R127). Where it left
ATTENDED and entered it again before the row came, the context goes on waiting: the model's choice (log 63). -/
def State.waitingResolved (i : Nat) (s : State) : State :=
  let c := s.ctx i
  if c.connectWaiting && s.activity c.sub.other != .attended then (s.becomeActive i).settle c.sub else s

/-- CONNECT_WAITING_RESOLVED (R127). -/
def execConnectWaitingResolved (i : Nat) (s : State) : Host.Outcome State Fault Refusal := s.answer (s.waitingResolved i)

end Sys2Proof.Machine
end

