-- ==== Sys2Proof/Machine/Dispatch.lean ====
section
/-! DEFINITION. One arm per command. -/

namespace Sys2Proof.Machine

-- The effect of a command on everything but the queue of commands waiting.
def exec (i : Instr) (s : State) : Host.Outcome State Fault Refusal :=
  match i with
  | .resetInputAssert => Sys2Proof.Machine.execResetInputAssert s
  | .resetInputRelease => Sys2Proof.Machine.execResetInputRelease s
  | .frameBoundary => Sys2Proof.Machine.execFrameBoundary s
  | .lightReturn => Sys2Proof.Machine.execLightReturn s
  | .wakeTimerExpiry => Sys2Proof.Machine.execWakeTimerExpiry s
  | .settleCountEnd => Sys2Proof.Machine.execSettleCountEnd s
  | .orderAck tag errors => Sys2Proof.Machine.execOrderAck tag errors s
  | .orderDeadline => Sys2Proof.Machine.execOrderDeadline s
  | .measurementResult entries => Sys2Proof.Machine.execMeasurementResult entries s
  | .returnCounterExpiry sub => Sys2Proof.Machine.execReturnCounterExpiry sub s
  | .answerTimerExpiry sub ident => Sys2Proof.Machine.execAnswerTimerExpiry sub ident s
  | .waitTimerExpiry sub pos => Sys2Proof.Machine.execWaitTimerExpiry sub pos s
  | .linkIdle sub ident => Sys2Proof.Machine.execLinkIdle sub ident s
  | .detachNoticeExpiry sub => Sys2Proof.Machine.execDetachNoticeExpiry sub s
  | .ringTimeout ctx => Sys2Proof.Machine.execRingTimeout ctx s
  | .reassemblyDeadline idx => Sys2Proof.Machine.execReassemblyDeadline idx s
  | .pageBlock frame good block => Sys2Proof.Machine.execPageBlock frame good block s
  | .beaconBlock frame good block => Sys2Proof.Machine.execBeaconBlock frame good block s
  | .signalBlock frame good block => Sys2Proof.Machine.execSignalBlock frame good block s
  | .voiceBlock frame good block => Sys2Proof.Machine.execVoiceBlock frame good block s
  | .hostFrameStart => Sys2Proof.Machine.execHostFrameStart s
  | .readOnlyTransfer => Sys2Proof.Machine.execReadOnlyTransfer s
  | .hostFrameReceived bytes => Sys2Proof.Machine.execHostFrameReceived bytes s
  | .outboundFrameSent => Sys2Proof.Machine.execOutboundFrameSent s
  | .textOfferRetry => Sys2Proof.Machine.execTextOfferRetry s
  | .heldMessageEnqueue sub => Sys2Proof.Machine.execHeldMessageEnqueue sub s
  | .pendingUpdateRetry sub => Sys2Proof.Machine.execPendingUpdateRetry sub s
  | .segmentDueRetry sub => Sys2Proof.Machine.execSegmentDueRetry sub s
  | .pagingPlacementRetry sub => Sys2Proof.Machine.execPagingPlacementRetry sub s
  | .measurePlacementRetry sub => Sys2Proof.Machine.execMeasurePlacementRetry sub s
  | .searchPlacementRetry sub => Sys2Proof.Machine.execSearchPlacementRetry sub s
  | .trafficPlacementRetry sub => Sys2Proof.Machine.execTrafficPlacementRetry sub s
  | .connectWaitingResolved ctx => Sys2Proof.Machine.execConnectWaitingResolved ctx s
  | .upSignal => Sys2Proof.Machine.execUpSignal s
  | .upSpeech => Sys2Proof.Machine.execUpSpeech s
  | .configureSubscription => Sys2Proof.Machine.execConfigureSubscription s
  | .loadNeighbours => Sys2Proof.Machine.execLoadNeighbours s
  | .loadNumbers => Sys2Proof.Machine.execLoadNumbers s
  | .loadRoutes => Sys2Proof.Machine.execLoadRoutes s
  | .setMobility => Sys2Proof.Machine.execSetMobility s
  | .setArbitration => Sys2Proof.Machine.execSetArbitration s
  | .setSleep => Sys2Proof.Machine.execSetSleep s
  | .attach => Sys2Proof.Machine.execAttach s
  | .detach => Sys2Proof.Machine.execDetach s
  | .dial => Sys2Proof.Machine.execDial s
  | .answer => Sys2Proof.Machine.execAnswer s
  | .reject => Sys2Proof.Machine.execReject s
  | .hangUp => Sys2Proof.Machine.execHangUp s
  | .hold => Sys2Proof.Machine.execHold s
  | .resume => Sys2Proof.Machine.execResume s
  | .sendText => Sys2Proof.Machine.execSendText s
  | .hostDoze => Sys2Proof.Machine.execHostDoze s
  | .radioHold => Sys2Proof.Machine.execRadioHold s
  | .radioRelease => Sys2Proof.Machine.execRadioRelease s
  | .query => Sys2Proof.Machine.execQuery s
  | .reset => Sys2Proof.Machine.execReset s
  | .transferEnd midFrame => Sys2Proof.Machine.execTransferEnd midFrame s

end Sys2Proof.Machine
end

