-- ==== Sys2Proof/Safety.lean ====
section
/-! DEFINITION. What a good state is, in the terms the statements use: the capacities and bounds the rules give. -/

namespace Sys2Proof.Machine

/-- The tables have their sizes (R5, R31, R35, R41, R42, R61, R89, R119, R148). -/
def State.tablesOk (s : State) : Prop :=
  s.sge.txns.length = 8 ∧ s.rta.claims.length = 12 ∧ s.dlc.routes.length = 64 ∧ s.sbs.numbers.length = 32 ∧
    s.mob.a.neighbours.length = 16 ∧ s.mob.b.neighbours.length = 16 ∧ s.cal.contexts.length = 3 ∧ s.txt.entries.length = 8 ∧
    s.rta.policies.length = 7 ∧ s.rta.marks.length = 7

/-- The radio hold count never leaves 0..15 (R48). -/
def State.holdCountOk (s : State) : Prop := s.rta.holdCount ≤ 15

/-- The consecutive fault count, which a report sets back to 0, is at most 3 between steps (R51). -/
def State.faultCountOk (s : State) : Prop := s.rpt.faultCount ≤ 3

/-- The counts the host reads stay at or below 255 (R11, R56, R57, R137, R149, R152, R168). -/
def State.countsOk (s : State) : Prop :=
  s.sge.stray ≤ 255 ∧ s.dlc.unattributed ≤ 255 ∧ s.dlc.filtered.a ≤ 255 ∧ s.dlc.filtered.b ≤ 255 ∧ s.vcp.overflow ≤ 255 ∧
    s.vcp.late ≤ 255 ∧ s.vcp.lost ≤ 255 ∧ s.vcp.upDrop ≤ 255 ∧ s.txt.congestion ≤ 255 ∧ s.txt.blocked ≤ 255 ∧
    s.hlc.lostReports ≤ 255

/-- The host-bound queue holds up to 32 entries, the inbound hold up to 4 frames (R162, R168). -/
def State.hostQueuesOk (s : State) : Prop := s.hlc.queue.length ≤ 32 ∧ s.hlc.inbound.length ≤ 4

/-- Each uplink signalling queue holds up to 6 messages (R9). -/
def State.uplinkOk (s : State) : Prop := s.sge.queues.a.length ≤ 6 ∧ s.sge.queues.b.length ≤ 6

/-- The outputs are what the state drives them to be (R169, R171). -/
def State.pinsOk (s : State) : Prop := s.pins = s.pinsNow

/-- Every segment buffer is at every moment in one of three places (R147). -/
def State.poolOk (s : State) : Prop := s.txt.heldBuffers + s.txt.outgoingHeld + s.txt.free = 64

/-- The fixed entries 0..15 of the route table hold CONSUME (R61). -/
def State.consumeOk (s : State) : Prop := s.dlc.routes.take 16 = List.replicate 16 .consume

/-- The taken and reserved places of the result queue are at most 8 (R166). -/
def State.resultsOk (s : State) : Prop := s.resultPlaces ≤ 8

/-- The open transactions of one subscription have idents of their own (R6). -/
def State.identsOk (s : State) : Prop := (s.usedIdents .a).Nodup ∧ (s.usedIdents .b).Nodup

/-- The claim table never holds two claims of the same kind for the same subscription (R35), and TRAFFIC and SIGNALLING are the standing
kinds (03 section 3.3). -/
def State.claimsOk (s : State) : Prop :=
  ((taken s.rta.claims).Pairwise fun e f => ¬ (e.2.sub = f.2.sub ∧ e.2.kind = f.2.kind)) ∧
    ∀ e ∈ taken s.rta.claims, e.2.perFrame = e.2.kind.standing

/-- RTA takes a placement of this kind for `x`: its claim is in the table, and RUNNING if it is being withdrawn (R37), or an entry is free (R36). -/
def State.takesClaim (s : State) (x : Sub) (k : ClaimKind) : Prop :=
  (s.hasClaim x k = false ∧ lowestFree s.rta.claims ≠ none) ∨
    ∃ i c, s.claimOf x k = some (i, c) ∧ (c.withdrawing = false ∨ c.state = .running)

/-- `g` is what a claim `c` in the table becomes when its owner places it again with its own first frame (R36, R91, R101): while RUNNING the
values are kept as pending and the withdrawing mark is cleared; otherwise they are taken, the window stays and both marks return to no. -/
def Claim.placedAgain (c g : Claim) (slack length period : Nat) : Prop :=
  (c.state = .running → ∃ w, g = { c with placement := some w, withdrawing := false } ∧ w.first = c.first ∧ w.slack = slack ∧
    w.length = length ∧ w.period = period) ∧
  (c.state ≠ .running →
    g = { c with slack := slack, length := length, period := period, outranked := false, unavailable := false, placement := none })

/-- Between steps no placement is asked for and not yet taken: those of a step are taken within it (R36; log 4). -/
def State.noneAsked (s : State) : Prop := s.rta.asked = none

/-- A filtered level, where there is one, lies within −4480..−960 sixteenths of a level unit (R88). -/
def levelOk (f : Option Int) : Prop := ∀ v, f = some v → -4480 ≤ v ∧ v ≤ -960

/-- Every filtered level MOB holds for a subscription is in range (R88): the serving cell's, the neighbours', and those in the return record. -/
def MobSub.levelsOk (m : MobSub) : Prop :=
  (∀ v, m.serving = some v → levelOk v.fs) ∧ (∀ n, some n ∈ m.neighbours → levelOk n.f) ∧
    ∀ r, m.returnRec = some r → levelOk r.serving.fs ∧ ∀ i n, r.slot = .slot i (some n) → levelOk n.f

/-- Every filtered level held by the part is in range (R88). -/
def State.levelsOk (s : State) : Prop := s.mob.a.levelsOk ∧ s.mob.b.levelsOk

/-! ### Activity and calls -/

/-- The recorded activity state is the one the facts give (R20), and a subscription without service has no serving cell, context,
transaction or outgoing text (R17, R24, R25). -/
def State.activityOk (s : State) : Prop :=
  ∀ x, s.activity x = s.derivedActivity x ∧
    ((s.activity x).isCampedState = false → s.serving x = none ∧ s.hasCtx x = false ∧ s.txnsOf x = [] ∧ s.outgoingOf x = none)

/-- While one subscription is IN_CALL, the other is neither ATTENDED nor IN_CALL (R127). -/
def State.noBusyPair (s : State) : Prop := ∀ x, s.activity x = .inCall → (s.activity x.other).isBusy = false

/-- A context that is ACTIVE or in transition. -/
def CallState.inProgress (c : CallState) : Bool := c.settling || c == .active

/-- A context whose HOLD or RESUME is under way. -/
def CallState.moving (c : CallState) : Bool := c == .holding || c == .resuming

/-- All contexts that are not IDLE belong to one subscription, at most one is ACTIVE or in transition, and the hold stack holds exactly the
HELD contexts, each once, with a place left for one that a HOLD or RESUME may bring (R130); connect waiting stands in ORIGINATING and
CONNECTING alone (R127); a transaction's context belongs to its subscription (R119). -/
def State.contextsOk (s : State) : Prop :=
  s.cal.contexts.length = 3 ∧
    (∀ i j, (s.ctx i).state ≠ .idle → (s.ctx j).state ≠ .idle → (s.ctx i).sub = (s.ctx j).sub) ∧
    (∀ i j, (s.ctx i).state.inProgress = true → (s.ctx j).state.inProgress = true → i = j) ∧
    s.cal.holdStack.Nodup ∧ (∀ i, i ∈ s.cal.holdStack ↔ (s.ctx i).state = .held) ∧
    s.cal.holdStack.length + (if (ctxIndexes.any fun i => (s.ctx i).state.moving) = true then 1 else 0) ≤ 2 ∧
    (∀ i, (s.ctx i).connectWaiting = true → (s.ctx i).state = .originating ∨ (s.ctx i).state = .connecting) ∧
    ∀ i t c, entryAt s.sge.txns i = some t → t.owner = .ctx c → (s.ctx c).state ≠ .idle → (s.ctx c).sub = t.sub

/-- While the host is DOZING no context is ORIGINATING, CONNECTING, ACTIVE, HELD, HOLDING or RESUMING (R136). -/
def State.dozeOk (s : State) : Prop := s.hlc.host = .dozing → ∀ i, (s.ctx i).state.keepsHost = false

/-- The Voice Path serves the ACTIVE context, and is STOPPED where there is none (R138). -/
def State.voiceServed (s : State) : Prop :=
  (∀ i, (s.ctx i).state = .active → s.vcp.call = some ((s.ctx i).sub, i)) ∧
    (s.vcp.playout = .stopped ↔ ∀ i, (s.ctx i).state ≠ .active)

/-- A return record is held in ACCESS alone, and with a serving cell (R112, R118). -/
def State.returnsOk (s : State) : Prop :=
  ∀ x r, (s.mobOf x).returnRec = some r → (s.mobOf x).hoState = .access ∧ (s.serving x).isSome = true

/-- What the rules of the calls hold together. -/
def State.callsOk (s : State) : Prop :=
  s.activityOk ∧ s.noBusyPair ∧ s.contextsOk ∧ s.dozeOk ∧ s.voiceServed ∧ s.returnsOk

/-! ### Playout, texts, cells -/

/-- The playout queue holds at most 8 frames, all ahead of the position, without duplicates, in increasing order (R139); without a position
it is empty. The uplink speech queue holds at most 4 (R143). -/
def Vcp.queuesOk (v : Vcp) : Prop :=
  v.queue.length ≤ 8 ∧ v.uplink.length ≤ 4 ∧ (v.playout = .stopped → v.position = none) ∧ (v.position = none → v.queue = []) ∧
    ∀ p, v.position = some p → (∀ f ∈ v.queue, seqAhead p f.seq = true) ∧
      v.queue.Pairwise fun f g => seqDist p f.seq < seqDist p g.seq

/-- Every buffer is in one of three places (R147), an outgoing text holds the segments from its next sequence on (R157, R158), and no two
entries hold the same key (R148). -/
def State.textsOk (s : State) : Prop :=
  s.poolOk ∧ (∀ x o, s.outgoingOf x = some o → o.segments.length + o.nextSeq = o.total + 1 ∧ 1 ≤ o.nextSeq ∧ o.segments ≠ []) ∧
    (taken s.txt.entries).Pairwise fun e f =>
      ¬ (e.2.sub = f.2.sub ∧ e.2.reference = f.2.reference ∧ e.2.originator = f.2.originator)

/-- The cell ids of a table. -/
def tableIds (table : List (Option Neighbour)) : List Nat := (taken table).map (·.2.cellId)

/-- No two entries of a table hold the same cell id, and none the serving cell's (R89). -/
def idsOk (serving : Option Serving) (table : List (Option Neighbour)) : Prop :=
  (tableIds table).Nodup ∧ ∀ v, serving = some v → v.cellId ∉ tableIds table

/-- The cell ids stay apart, also in what a failed access would restore (R89, R116), and the stored ranking list is the one of the table
(R95). -/
def MobSub.tablesOk (m : MobSub) : Prop :=
  idsOk m.serving m.neighbours ∧ (∀ r, m.returnRec = some r → idsOk (some r.serving) (r.slot.restore m.neighbours)) ∧
    m.ranking = match m.serving with
      | none => []
      | some v => rankingOf m.neighbours v.qmin

/-- No CAMPED subscription has a reselection read while an access that began in a call still runs. Where one has, R106 and R116 leave open
what the swap makes of the slot that a failed access would restore (log 49). -/
def State.readsApart (s : State) : Prop :=
  ∀ x i c, (s.mobOf x).hoState = .access → s.activity x = .camped → (s.mobOf x).readPurpose ≠ some (.reselect i c)

/-! ### Frames: what the statements say is left alone -/

/-- What the Host Link Controller holds, but for the choice of the frame to send. -/
def sameLink (h k : Hlc) : Prop :=
  k.host = h.host ∧ k.inbound = h.inbound ∧ k.rx = h.rx ∧ k.link = h.link ∧ k.results = h.results ∧ k.slot = h.slot ∧
    k.queue = h.queue ∧ k.lostReports = h.lostReports ∧ k.lostWake = h.lostWake

/-- `t` holds what `s` holds, but for what the end of a step that evaluates sleep may change: the power state with its timers (R80 to R83),
the outbound frame begun (R167) and the outputs (R169). -/
def State.agreesButSleep (s t : State) : Prop :=
  t.pending = s.pending ∧ t.resetHeld = s.resetHeld ∧ t.clock = s.clock ∧ t.rpt = s.rpt ∧ t.rta = s.rta ∧ t.dlc = s.dlc ∧
    t.sge = s.sge ∧ t.sbs = s.sbs ∧ t.psc.per = s.psc.per ∧ t.psc.settleS = s.psc.settleS ∧ t.mob = s.mob ∧ t.cal = s.cal ∧
    t.vcp = s.vcp ∧ t.txt = s.txt ∧ sameLink s.hlc t.hlc

/-- `t` holds what `s` holds, but for the outbound frame begun (R167) and the outputs (R169). -/
def State.agrees (s t : State) : Prop := s.agreesButSleep t ∧ t.psc = s.psc

/-- The REQUEST `f`, of code `code` with these values, is at the head of the inbound hold, and HLC may act on it (R163, R166). -/
def State.asks (s : State) (f : HostFrame) (rest : List HostFrame) (code : Byte) (body : List Byte) : Prop :=
  s.hlc.inbound = f :: rest ∧ f.type = .request ∧ f.payload = code :: body ∧ s.mayAct = true ∧ s.resultPlaces < 8

/-- `s` once HLC has taken a frame from the head of the inbound hold, `rest` being left in it, before what the frame asks for: the host is
AWAKE (R165); where it was DOZING, the lost-wake mark is cleared with it (R168), and TXT offers the texts it holds (R153; in the same step
and before anything else of the request, which is the model's choice, log 5). -/
def State.heard (s : State) (rest : List HostFrame) : State :=
  let t := { s with hlc := { s.hlc with inbound := rest } }
  match s.hlc.host with
  | .awake => t
  | .dozing => ({ t with hlc := { t.hlc with host := .awake, lostWake := false } } : State).offerTexts

/-- `s` once a frame at the head of the inbound hold has been acted on with no other effect, `r` being its RESULT (log 5, see `heard`). -/
def State.acted (s : State) (rest : List HostFrame) (r : ResultFrame) : State :=
  { s.heard rest with hlc := { (s.heard rest).hlc with results := s.hlc.results ++ [r] } }

/-- The RESULT of the request `f`; it names the request's subscription, and none where the request's byte names no valid one (log 15). -/
def HostFrame.result (f : HostFrame) (request : Byte) (code : ResultCode) (data : List Byte) : ResultFrame :=
  ⟨f.tag, f.resultSub, request, code, data⟩

/-- A request is refused with a code: its RESULT is queued and nothing else of the part changes. -/
def Refuses (c : Instr) (request : Byte) (code : ResultCode) (s : State) (f : HostFrame) (rest : List HostFrame) : Prop :=
  ∃ t, exec c s = .next t ∧ (s.acted rest (f.result request code [])).agreesButSleep t

/-! ### Blocks and offers -/

/-- SGE is given `b`, a good SIGNAL block of an own code or of a pass-through code, in a connected frame that `h` held (R55 to R60). -/
def State.hears (s : State) (frame : Frame) (h : Holder) (b : SignalBlock) : Prop :=
  s.holderOf frame = some h ∧ (h.kind = .signalling ∨ h.kind = .traffic ∨ h.kind = .handoverAccess) ∧
    s.dlc.filters.get h.sub = true ∧ signalOk b = true ∧ s.consumeOk

/-- `b` answers the SENT transaction `p` at index `i`, which context `c` of its subscription owns (R11, R119). -/
def State.answersCtx (s : State) (x : Sub) (b : SignalBlock) (i : Nat) (p : Txn) (c : Nat) : Prop :=
  s.txnBy x (BitVec.ofNat 4 b.ident) = some (i, p) ∧ p.state = .sent ∧ p.owner = .ctx c ∧ c < 3 ∧ (s.ctx c).sub = x

/-- No COMPLETE text that TXT holds could be delivered (R153). -/
def State.textsOffered (s : State) : Prop :=
  ∀ i ∈ s.txt.completion, ∀ e, entryAt s.txt.entries i = some e → s.mayDeliver e = false

/-- SGE would take a message of this owner that opens a transaction: a place for it, and a free entry (R5, R9). -/
def State.takes (s : State) (x : Sub) (o : Owner) : Bool := s.hasPlace x (some o) && !s.tableFull

end Sys2Proof.Machine
end

