-- ==== Sys2Proof/Certificates/Slice0/Obligations.lean ====
section
/-! DEFINITION. The statements for the provers. -/

open Sys2Proof Sys2Proof.Machine

/-- Step carries out the command at the front of the queue (95_what_each_step_holds.md). -/
def Obligations.StepRunsFrontCommand : Prop :=
  ∀ (s : State) (c : Instr) (rest : List Instr), s.pending = c :: rest → step s = exec c { s with pending := rest }

/-- With no command waiting a sleep tick passes (R1, 00_scope.md 3.2). The step on an empty queue is the model's choice (DESIGN CHOICE, log 2); the tick itself is R1's. -/
def Obligations.IdleStepIsSleepTick : Prop :=
  ∀ s : State, s.pending = [] → ∃ t, step s = .next t ∧ t.clock.now = s.clock.now ∧
    t.clock.tick = (if s.clock.tick < 256 then s.clock.tick + 1 else s.clock.tick) ∧
    (s.clock.tick < 256 → t.psc.wakeTimer = s.psc.wakeTimer.map (· - 1) ∧ t.psc.settle = s.psc.settle.map (· - 1)) ∧
    t.psc.power = s.psc.power ∧ t.psc.per = s.psc.per ∧ t.rpt = s.rpt ∧ t.rta = s.rta ∧ t.dlc = s.dlc ∧ t.sge = s.sge ∧
    t.sbs = s.sbs ∧ t.mob = s.mob ∧ t.cal = s.cal ∧ t.vcp = s.vcp ∧ t.txt = s.txt ∧ t.hlc = s.hlc ∧ t.pins = s.pins

/-- A receiver frame boundary advances the frame number, counts every timer of the boundary before what falls there is decided, and keeps the settings (R1, R7, R9, R14, R42, R53, R54, R61, R78, R79, R86, R91, R101, R117, R122, R135, R155). The order in which a boundary does its work is the model's choice where R42 leaves it open (DESIGN CHOICE, log 6), and so is where in it the placements asked for are taken (DESIGN CHOICE, log 4). -/
def Obligations.FrameBoundaryAdvancesFrame : Prop :=
  (∀ s : State, ∃ t, exec .frameBoundary s = .next t ∧ t.clock.now = s.clock.now + 1 ∧ t.clock.tick = 0 ∧
    t.pending = s.pending ∧ t.resetHeld = s.resetHeld ∧ t.rta.policies = s.rta.policies ∧ t.rta.tuneAway = s.rta.tuneAway ∧
    t.rta.holdCount = s.rta.holdCount ∧ t.dlc.routes = s.dlc.routes ∧ t.sbs.numbers = s.sbs.numbers ∧ t.psc.settleS = s.psc.settleS ∧
    t.hlc.host = s.hlc.host ∧ t.hlc.inbound = s.hlc.inbound ∧
    ∀ x, (t.pscOf x).thr = (s.pscOf x).thr ∧ (t.pscOf x).factor = (s.pscOf x).factor ∧ (t.pscOf x).margin = (s.pscOf x).margin ∧
      (t.mobOf x).params = (s.mobOf x).params) ∧
  (∀ s : State, ∃ t g k : State, exec .frameBoundary s = .next t ∧ g.clock = ⟨s.clock.now + 1, 0⟩ ∧
    k = g.inRankOrder State.arbitrate ∧ t = s.finish (if k.rta.unit = none then k.evaluate else k) ∧
    (∀ i, entryAt g.sge.txns i = (entryAt s.sge.txns i).map fun p =>
      { p with answer := p.answer.map (· - 1), idle := p.idle.map (· - 1) }) ∧
    (∀ x, g.sge.queues.get x = (s.sge.queues.get x).map fun m => { m with wait := min 1024 (m.wait + 1) }) ∧
    g.sge = { s.sge with txns := g.sge.txns, queues := g.sge.queues } ∧
    (∀ i, g.ctx i = if (s.ctx i).state = .offered ∧ (s.ctx i).answerPending = false then
      { s.ctx i with ring := (s.ctx i).ring.map (· - 1) } else s.ctx i) ∧
    (∀ x, g.cal.trafficRetry.get x = if s.cal.trafficRetry.get x = .none then .none else .due) ∧
    g.cal = { s.cal with contexts := g.cal.contexts, trafficRetry := g.cal.trafficRetry } ∧
    (∀ i, entryAt g.txt.entries i = (entryAt s.txt.entries i).map fun e =>
      if e.state = .collecting ∨ e.state = .blocked then { e with deadline := e.deadline - 1 } else e) ∧
    g.txt = { s.txt with entries := g.txt.entries } ∧
    (∀ x, g.mobOf x = { s.mobOf x with
      returnCounter := if (s.mobOf x).hoState = .returnCheck ∧ (s.mobOf x).returnNew = false then (s.mobOf x).returnCounter - 1
        else (s.mobOf x).returnCounter
      returnNew := false, measRetry := (s.mobOf x).measRetry.map (· - 1), searchRetry := (s.mobOf x).searchRetry.map (· - 1) }) ∧
    g.psc.wakeTimer = s.psc.wakeTimer.map (· - (256 - s.clock.tick)) ∧ g.psc.settle = s.psc.settle.map (· - (256 - s.clock.tick)) ∧
    g.psc.power = s.psc.power ∧ g.rpt = s.rpt ∧ g.rta.unit = s.rta.unit ∧ g.dlc = s.dlc ∧ g.sbs = s.sbs ∧ g.vcp = s.vcp ∧ g.hlc = s.hlc ∧
    (s.rpt.order = none → s.rta.unit = none → taken s.rta.claims = [] →
      t.sge = g.sge ∧ t.cal = g.cal ∧ t.txt = g.txt ∧ t.mob = g.mob ∧ t.sbs = s.sbs)) ∧
  (∀ (s : State) (x : Sub), (s.mobOf x).hoState ≠ .returnCheck →
    ∃ t, exec .orderDeadline s = .next t ∧ ((t.mobOf x).hoState = .returnCheck → (t.mobOf x).returnNew = true))

/-- While the receiver is unavailable no unit starts at a boundary (R42, R48, R50, R51). -/
def Obligations.NoUnitStartsWhileUnavailable : Prop :=
  ∀ s : State, ∃ t, exec .frameBoundary s = .next t ∧ t.rpt.recoveryNext = false ∧
    ((s.rpt.order ≠ none ∨ (s.psc.power ≠ .awake ∧ s.rta.unit = none) ∨
        ((0 < s.rta.holdCount ∨ s.rpt.recoveryNext = true) ∧
          (s.rta.unit = none ∨ ∃ u, s.rta.unit = some u ∧ u.length ≤ frameDist u.first (s.clock.now + 1)))) →
      t.rta.unit = none ∧ t.rpt.order = none ∧ t.rpt.nextTag = s.rpt.nextTag) ∧
    (s.rpt.order ≠ none → t.rpt.faultCount = (if 4 ≤ s.rpt.faultCount + 1 then 0 else s.rpt.faultCount + 1)) ∧
    (s.rpt.order = none → t.rpt.faultCount = s.rpt.faultCount)

/-- A free receiver goes to the highest-ranked eligible claim or its contest's winner, but for tune-away; one not free passes every eligible claim over (R40, R41, R42, R44, R49, R102, R105, R108, R142). That playout stands before the decision of a boundary is the model's choice (DESIGN CHOICE, log 6). -/
def Obligations.GrantAndContest : Prop :=
  (∀ (s : State) (recovery : Bool), s.claimsOk → s.unavailable recovery = false → s.rta.unit = none → s.eligibles ≠ [] →
    ∃ e ∈ s.eligibles, ∃ w ∈ s.eligibles, ∃ u,
      (∀ f ∈ s.eligibles, e.2.kind.rank ≤ f.2.kind.rank) ∧
      (∀ f ∈ s.eligibles, f.2.kind = e.2.kind → f.1 ≠ e.1 →
        e.2.sub = (s.rta.contest e.2.kind.rank).1 ∧ (s.grant recovery).rta.marks = (s.rta.contest e.2.kind.rank).2.marks) ∧
      ((∀ f ∈ s.eligibles, f.2.kind = e.2.kind → f.1 = e.1) → (s.grant recovery).rta.marks = s.rta.marks) ∧
      (∀ f ∈ s.eligibles, (e.2.kind = .traffic ∨ e.2.kind = .signalling) → s.rta.tuneAway.get e.2.sub = true →
        f.2.isFor e.2.sub.other .pagingListen = true → w = f) ∧
      (((e.2.kind ≠ .traffic ∧ e.2.kind ≠ .signalling) ∨ s.rta.tuneAway.get e.2.sub = false ∨
        ∀ f ∈ s.eligibles, f.2.isFor e.2.sub.other .pagingListen = false) → w = e) ∧
      (∃ g : State, s.grant recovery = g.startUnit w.1 w.2 ∧ g.mob = s.mob ∧ g.sge = s.sge ∧ g.rpt = s.rpt ∧ g.clock = s.clock ∧
        g.rta.copies = s.rta.copies) ∧
      (s.grant recovery).rta.unit = some u ∧ u.sub = w.2.sub ∧ u.kind = w.2.kind ∧ u.length = w.2.length ∧ u.first = s.clock.now ∧
      ((s.grant recovery).rpt.order.map fun o => (o.tag, o.sub, o.claimKind)) = some (s.rpt.nextTag, u.sub, u.kind) ∧
      (∃ c, entryAt (s.grant recovery).rta.claims w.1 = some c ∧ c.state = .running) ∧
      (s.vcp.lost ≤ 255 → (s.grant recovery).vcp.lost =
        min 255 (s.vcp.lost + (s.eligibles.filter fun f => f.1 != w.1 && f.2.kind == .traffic).length)) ∧
      ∀ f ∈ s.eligibles, f.1 ≠ w.1 → ∃ c, entryAt (s.grant recovery).rta.claims f.1 = some c ∧ c.state = .waiting ∧
        (f.2.kind.standing = true → c.lastEnd = some .denied) ∧ (f.2.kind.standing = false → c.outranked = true)) ∧
  (∀ (r : Rta) (k : Nat) (p : Policy) (m : Sub), r.policies[k]? = some p → r.marks[k]? = some m →
    (p = .fixedA → r.contest k = (.a, r)) ∧ (p = .fixedB → r.contest k = (.b, r)) ∧
    (p = .rotate → (r.contest k).1 = m ∧ (r.contest k).2 = { r with marks := r.marks.set k m.other })) ∧
  (∀ (s : State) (i : Nat) (c : Claim) (m : MobSub), m = s.mobOf c.sub → ∃ o, (s.startUnit i c).rpt.order = some o ∧
    o.tag = s.rpt.nextTag ∧ (s.startUnit i c).rpt.nextTag = s.rpt.nextTag + 1 ∧ o.sub = c.sub ∧ o.claimKind = c.kind ∧ o.length = c.length ∧
    (c.kind = .pagingListen → ∀ v, m.serving = some v →
      o.kind = .listen ∧ o.freq = v.freq ∧ o.offset = v.offset ∧ o.phase = v.phase ∧ o.content = .none) ∧
    (c.kind = .beaconRead → o.kind = .listen ∧ o.offset = 0 ∧ o.phase = 0 ∧ o.content = .none ∧
      (∀ j id n, m.readPurpose = some (.reselect j id) → entryAt m.neighbours j = some n → n.cellId = id → o.freq = n.freq) ∧
      (∀ v, m.readPurpose = some .refresh → m.serving = some v → o.freq = v.freq)) ∧
    (c.kind = .measure → ∀ v, m.serving = some v →
      o.kind = .measure ∧ o.freq = v.freq ∧ o.offset = v.offset ∧ o.phase = v.phase ∧ o.content = .cells m.measureCells) ∧
    (c.kind = .search → o.kind = .search ∧ o.freq = m.takeSearchFreq.1 ∧ o.offset = 0 ∧ o.phase = 0 ∧ o.content = .none ∧
      (s.startUnit i c).mobOf c.sub = m.takeSearchFreq.2) ∧
    ((c.kind = .traffic ∨ c.kind = .signalling) → ∀ v, s.rta.copies.get c.sub = some v →
      o.kind = .connectedFrame ∧ o.freq = v.freq ∧ o.offset = v.offset ∧ o.phase = v.phase) ∧
    (c.kind ≠ .search → (s.startUnit i c).mob = s.mob)) ∧
  (∀ (s : State) (recovery : Bool) (code : EndCode), s.claimsOk →
    ((s.unavailable recovery = true ∧ code = .missed) ∨
      (s.unavailable recovery = false ∧ s.rta.unit ≠ none ∧ code = .denied)) →
    ∃ k, k = s.grant recovery ∧ k = { s with rta := { s.rta with claims := k.rta.claims }, vcp := k.vcp } ∧
      (∀ e ∈ s.eligibles, entryAt k.rta.claims e.1 = some
        (if e.2.kind.standing = true then { e.2 with lastEnd := some code }
        else if code = .denied then { e.2 with outranked := true } else { e.2 with unavailable := true })) ∧
      (∀ i, (∀ e ∈ s.eligibles, e.1 ≠ i) → entryAt k.rta.claims i = entryAt s.rta.claims i) ∧
      (s.vcp.lost ≤ 255 → k.vcp = { s.vcp with
        lost := min 255 (s.vcp.lost + (s.eligibles.filter fun e => e.2.kind == .traffic).length) })) ∧
  (∀ (s : State) (recovery : Bool),
    (s.unavailable recovery = true ↔ s.psc.power ≠ .awake ∨ 0 < s.rta.holdCount ∨ recovery = true) ∧
    ∀ e, e ∈ s.eligibles ↔ entryAt s.rta.claims e.1 = some e.2 ∧ s.eligible s.clock.now e.2 = true) ∧
  (∀ s q : State, s.rpt.order = none → s.rta.asked = some [] →
    (∀ u, s.rta.unit = some u → frameDist u.first s.clock.now < u.length) →
    q = (if s.clock.now.toNat % 2 = 0 then s.playoutBoundary else s) →
    s.arbitrate = (State.grant s.rpt.recoveryNext { q with rpt := { q.rpt with recoveryNext := false } }).recordHolder.expireWindows) ∧
  (∀ (s : State) (i : Nat) (c : Claim), s.rpt.order = none → s.rta.unit = none →
    (s.psc.power ≠ .awake ∨ 0 < s.rta.holdCount ∨ s.rpt.recoveryNext = true) → taken s.rta.claims = [(i, c)] →
    c.perFrame = c.kind.standing → c.kind.standing = true → s.eligible (s.clock.now + 1) c = true →
    ∃ t g, exec .frameBoundary s = .next t ∧ entryAt t.rta.claims i = some g ∧ g.state = .waiting ∧ g.lastEnd = some .missed ∧
      t.vcp.lost = (if c.kind = .traffic then (if s.vcp.lost < 255 then s.vcp.lost + 1 else 255) else s.vcp.lost))

/-- The gap frames of a standing claim, and the claims eligible for a frame (R36, R38, R39, R40). That a window whose first frame's number has just passed is not open before that number comes again is the model's reading (DEDUCED, log 34). -/
def Obligations.GapFramesOfConnectedPattern : Prop :=
  (∀ (c : CellCopy) (r : Frame),
    (c.phase = 0 → (c.demands r = false ↔ (r - frameOf c.offset).toNat % 16 = 14 ∨ (r - frameOf c.offset).toNat % 16 = 15)) ∧
    (0 < c.phase → (c.demands r = false ↔ (r - frameOf c.offset).toNat % 16 = 15))) ∧
  (∀ (s : State) (r : Frame) (c : Claim),
    (c.perFrame = true → (s.eligible r c = true ↔
      c.state = .waiting ∧ ∃ copy, s.rta.copies.get c.sub = some copy ∧ copy.demands r = true)) ∧
    (c.perFrame = false → (s.eligible r c = true ↔ c.state = .waiting ∧ c.later = false ∧ frameDist c.first r ≤ c.slack ∧
      (c.kind = .measure → ∀ copy, s.rta.copies.get c.sub = some copy → copy.demands r = true →
        ∀ i g, entryAt s.rta.claims i = some g → g.sub = c.sub → g.perFrame = true → g.state = .heldOut))))

/-- A clean acknowledgement ends the order, and takes the head of the uplink queue if the order carried it (R7, R8, R49, R50, R51). -/
def Obligations.AckOutcomes : Prop :=
  (∀ (s : State) (o : Order) (m : Msg) (rest : List Msg) (i : Nat) (x : Txn), s.rpt.order = some o → o.carriesHead = true →
    s.sge.queues.get o.sub = m :: rest → m.opens = true → s.txnBy o.sub m.ident = some (i, x) →
    ∃ t, exec (.orderAck o.tag []) s = .next t ∧ t.rpt.order = none ∧ t.rpt.faultCount = 0 ∧ t.sge.queues.get o.sub = rest ∧
      t.sge.queues.get o.sub.other = s.sge.queues.get o.sub.other ∧
      entryAt t.sge.txns i = some { x with state := .sent, answer := some (s.answerTime o.sub x.kind) } ∧
      (∀ j, j ≠ i → entryAt t.sge.txns j = entryAt s.sge.txns j) ∧
      t.cal = s.cal ∧ t.sbs = s.sbs ∧ t.mob = s.mob ∧ t.vcp = s.vcp ∧ t.txt = s.txt ∧ t.dlc = s.dlc ∧ sameLink s.hlc t.hlc) ∧
  (∀ (s : State) (o : Order), s.rpt.order = some o → o.carriesHead = false →
    ∃ t, exec (.orderAck o.tag []) s = .next t ∧
      ({ s with rpt := { s.rpt with order := none, faultCount := 0 } } : State).agrees t) ∧
  (∀ (s : State) (tag : Ident) (errors : List OrderError), (∀ o, s.rpt.order = some o → o.tag ≠ tag) →
    ∃ t, exec (.orderAck tag errors) s = .next t ∧ s.agrees t) ∧
  (∀ (s : State) (o : Order) (m : Msg) (rest : List Msg), s.rpt.order = some o → o.carriesHead = true →
    s.sge.queues.get o.sub = m :: rest → m.opens = false →
    ∃ t, exec (.orderAck o.tag []) s = .next t ∧ t.rpt.order = none ∧ t.rpt.faultCount = 0 ∧ t.sge.queues.get o.sub = rest ∧
      t.sge.queues.get o.sub.other = s.sge.queues.get o.sub.other ∧ t.sge.txns = s.sge.txns ∧
      t.cal = s.cal ∧ t.sbs = s.sbs ∧ t.mob = s.mob ∧ t.vcp = s.vcp ∧ t.txt = s.txt ∧ t.dlc = s.dlc ∧ sameLink s.hlc t.hlc)

/-- A faulted order ends its unit and counts, the fourth in a row is reported, and a TRAFFIC frame so ended is a frame lost (R43, R44, R50, R51, R142). -/
def Obligations.OrderFaultEndsUnit : Prop :=
  ∀ (s : State) (o : Order) (c : Instr) (errors : List OrderError), s.rpt.order = some o →
    ((c = .orderAck o.tag errors ∧ errors ≠ []) ∨ (c = .orderDeadline ∧ errors = [])) →
    ∃ t, exec c s = .next t ∧ t.rpt.order = none ∧ t.rpt.recoveryNext = true ∧ t.rpt.nextTag = s.rpt.nextTag ∧ t.rta.unit = none ∧
      t.rpt.faultCount = (if 4 ≤ s.rpt.faultCount + 1 then 0 else s.rpt.faultCount + 1) ∧
      (4 ≤ s.rpt.faultCount + 1 → s.hlc.queue.length < 32 →
        ⟨.report (.radioFault o.sub o.claimKind o.kind o.freq errors), true, false⟩ ∈ t.hlc.queue) ∧
      ∀ u, s.rta.unit = some u → u.kind = .traffic → t.vcp = (if u.withdrawn = true then s.vcp
        else { s.vcp with lost := if s.vcp.lost < 255 then s.vcp.lost + 1 else 255 })

/-- RADIO_HOLD and RADIO_RELEASE count within 0..15 (R48). The subscription byte of a RESULT is the request's own, and none where the request's byte names no valid one (DESIGN CHOICE, log 15). -/
def Obligations.RadioHoldAndReleaseCount : Prop :=
  (∀ (s : State) (f : HostFrame) (rest : List HostFrame) (body : List Byte), s.asks f rest 18 body →
    (f.sub = 0xFF → body = [] → s.rta.holdCount < 15 → ∃ t, exec .radioHold s = .next t ∧
      ({ s.acted rest (f.result 18 .ok (putNat (s.rta.holdCount + 1))) with
          rta := { s.rta with holdCount := s.rta.holdCount + 1 } } : State).agreesButSleep t) ∧
    (f.sub = 0xFF → body = [] → 15 ≤ s.rta.holdCount → Refuses .radioHold 18 .limit s f rest) ∧
    (f.sub ≠ 0xFF ∨ body ≠ [] → Refuses .radioHold 18 .badParam s f rest)) ∧
  (∀ (s : State) (f : HostFrame) (rest : List HostFrame) (body : List Byte), s.asks f rest 19 body →
    (f.sub = 0xFF → body = [] → 0 < s.rta.holdCount → ∃ t, exec .radioRelease s = .next t ∧
      ({ s.acted rest (f.result 19 .ok (putNat (s.rta.holdCount - 1))) with
          rta := { s.rta with holdCount := s.rta.holdCount - 1 } } : State).agreesButSleep t) ∧
    (f.sub = 0xFF → body = [] → s.rta.holdCount = 0 → Refuses .radioRelease 19 .state s f rest) ∧
    (f.sub ≠ 0xFF ∨ body ≠ [] → Refuses .radioRelease 19 .badParam s f rest))

/-- SET_ARBITRATION, SET_SLEEP and SET_MOBILITY replace their settings whole or not at all, and place MEASURE or SEARCH again where a period changes (R53, R76, R77, R78, R86, R91, R101, R36). A claim that is being withdrawn counts as no longer in the table and is left as it is, the model's choice (DESIGN CHOICE, log 54). The subscription byte of a RESULT is the request's own, and none where the request's byte names no valid one (DESIGN CHOICE, log 15). -/
def Obligations.SettingsAreReplacedWhole : Prop :=
  (∀ (s : State) (f : HostFrame) (rest : List HostFrame) (body : List Byte), s.asks f rest 6 body →
    (∀ v, f.sub = 0xFF → readAll readArbitration body = some v → ∃ t, exec .setArbitration s = .next t ∧
      ({ s.acted rest (f.result 6 .ok []) with
          rta := { s.rta with policies := v.1, tuneAway := ⟨v.2.1, v.2.2⟩ } } : State).agreesButSleep t) ∧
    (f.sub ≠ 0xFF ∨ readAll readArbitration body = none → Refuses .setArbitration 6 .badParam s f rest)) ∧
  (∀ (s : State) (f : HostFrame) (rest : List HostFrame) (body : List Byte), s.asks f rest 7 body →
    (∀ v, f.sub = 0xFF → readAll readSleep body = some v → v.ok = true → ∃ t, exec .setSleep s = .next t ∧
      t.hlc.results = s.hlc.results ++ [f.result 7 .ok []] ∧ t.psc.settleS = v.settle ∧
      t.psc.per.a = { s.psc.per.a with thr := v.thrA, factor := v.factorA, margin := v.marginA, relaxCount := min s.psc.per.a.relaxCount v.thrA } ∧
      t.psc.per.b = { s.psc.per.b with thr := v.thrB, factor := v.factorB, margin := v.marginB, relaxCount := min s.psc.per.b.relaxCount v.thrB } ∧
      t.sge = s.sge ∧ t.sbs = s.sbs ∧ t.mob = s.mob ∧ t.cal = s.cal ∧ t.vcp = s.vcp ∧ t.dlc = s.dlc ∧ t.rpt = s.rpt ∧ t.hlc.queue = (s.heard rest).hlc.queue ∧
      (∀ x i c, s.claimOf x .measure = some (i, c) →
        (c.withdrawing = false → ((s.pscOf x).relaxed ≠ (t.pscOf x).relaxed ∨
            ((t.pscOf x).relaxed = true ∧ (s.pscOf x).factor ≠ (t.pscOf x).factor)) →
          ∃ g, entryAt t.rta.claims i = some g ∧ c.placedAgain g 15 1
            (if 0 < (t.pscOf x).thr ∧ (t.pscOf x).relaxCount = (t.pscOf x).thr then (s.mobOf x).params.period * (t.pscOf x).factor
            else (s.mobOf x).params.period)) ∧
        ((c.withdrawing = true ∨ ((s.pscOf x).relaxed = (t.pscOf x).relaxed ∧
            ((t.pscOf x).relaxed = false ∨ (s.pscOf x).factor = (t.pscOf x).factor))) → entryAt t.rta.claims i = some c)) ∧
      (∀ j, (∀ x c, s.claimOf x .measure ≠ some (j, c)) → entryAt t.rta.claims j = entryAt s.rta.claims j) ∧
      t.rta = { s.rta with claims := t.rta.claims }) ∧
    ((f.sub ≠ 0xFF ∨ readAll readSleep body = none ∨ ∃ v, readAll readSleep body = some v ∧ v.ok = false) →
      Refuses .setSleep 7 .badParam s f rest)) ∧
  (∀ (s : State) (f : HostFrame) (rest : List HostFrame) (body : List Byte), s.asks f rest 5 body →
    (∀ x p, headerSub f.sub = some (some x) → readAll readMobility body = some p → p.ok = true → ∃ t, exec .setMobility s = .next t ∧
      t.hlc.results = s.hlc.results ++ [f.result 5 .ok []] ∧ t.mobOf x = { s.mobOf x with params := p } ∧ t.mobOf x.other = s.mobOf x.other ∧
      t.sge = s.sge ∧ t.sbs = s.sbs ∧ t.cal = s.cal ∧ t.vcp = s.vcp ∧ t.dlc = s.dlc ∧ t.rpt = s.rpt ∧ t.psc.per = s.psc.per ∧
      t.hlc.queue = (s.heard rest).hlc.queue ∧
      (∀ i c, s.claimOf x .measure = some (i, c) →
        (c.withdrawing = false → p.period ≠ (s.mobOf x).params.period → ∃ g, entryAt t.rta.claims i = some g ∧ c.placedAgain g 15 1
          (if 0 < (s.pscOf x).thr ∧ (s.pscOf x).relaxCount = (s.pscOf x).thr then p.period * (s.pscOf x).factor else p.period)) ∧
        ((c.withdrawing = true ∨ p.period = (s.mobOf x).params.period) → entryAt t.rta.claims i = some c)) ∧
      (∀ i c, s.claimOf x .search = some (i, c) →
        (c.withdrawing = false → p.searchInterval ≠ (s.mobOf x).params.searchInterval →
          ∃ g, entryAt t.rta.claims i = some g ∧ c.placedAgain g 15 4 p.searchInterval) ∧
        ((c.withdrawing = true ∨ p.searchInterval = (s.mobOf x).params.searchInterval) → entryAt t.rta.claims i = some c)) ∧
      (∀ j, (∀ k c, (k = .measure ∨ k = .search) → s.claimOf x k ≠ some (j, c)) → entryAt t.rta.claims j = entryAt s.rta.claims j) ∧
      t.rta = { s.rta with claims := t.rta.claims }) ∧
    ((headerSub f.sub = some none ∨ headerSub f.sub = none ∨ readAll readMobility body = none ∨
      ∃ p, readAll readMobility body = some p ∧ p.ok = false) → Refuses .setMobility 5 .badParam s f rest))

/-- A block that no unit can be given, that its unit does not expect, that its filter stops or that is bad is discarded, and counted where the rules count it (R55, R56, R57, R58, R79, R64). -/
def Obligations.StoppedBlocksAreCounted : Prop :=
  (∀ (s : State) (c : Instr) (frame : Frame) (good : Bool),
    (s.psc.power ≠ .awake ∨ entryAt s.rta.holders (frameDist frame s.clock.now) = none ∨
      ∃ h, entryAt s.rta.holders (frameDist frame s.clock.now) = some h ∧ h.withdrawn = true ∧ h.kind.standing = false) →
    ((∃ b, c = .pageBlock frame good b) ∨ (∃ b, c = .beaconBlock frame good b) ∨ (∃ b, c = .signalBlock frame good b) ∨
      ∃ b, c = .voiceBlock frame good b) →
    ∃ t, exec c s = .next t ∧
      ({ s with dlc := { s.dlc with unattributed := if s.dlc.unattributed < 255 then s.dlc.unattributed + 1 else 255 } } : State).agrees t) ∧
  (∀ (s : State) (c : Instr) (frame : Frame) (good : Bool) (h : Holder) (k : BlockKind), s.holderOf frame = some h →
    h.kind ≠ .handoverAccess → (expected h.kind k && s.filterPasses h.sub k) = false →
    ((∃ b, k = .page ∧ c = .pageBlock frame good b) ∨ (∃ b, k = .beacon ∧ c = .beaconBlock frame good b) ∨
      (∃ b, k = .signal ∧ c = .signalBlock frame good b) ∨ ∃ b, k = .voice ∧ c = .voiceBlock frame good b) →
    ∃ t, exec c s = .next t ∧
      ({ s with dlc := { s.dlc with filtered := s.dlc.filtered.upd h.sub (fun n => if n < 255 then n + 1 else 255) } } : State).agrees t) ∧
  (∀ (s : State) (frame : Frame) (good : Bool) (h : Holder), s.holderOf frame = some h →
    (∀ b, (h.kind = .signalling ∨ h.kind = .traffic ∨ h.kind = .handoverAccess) → s.dlc.filters.get h.sub = true →
      (good = false ∨ signalOk b = false) → ∃ t, exec (.signalBlock frame good b) s = .next t ∧
        ({ s with dlc := { s.dlc with filtered := s.dlc.filtered.upd h.sub (fun n => if n < 255 then n + 1 else 255) } } : State).agrees t) ∧
    (∀ b, h.kind = .pagingListen → (good = false ∨ pageOk b = false) → ∃ t, exec (.pageBlock frame good b) s = .next t ∧ s.agrees t) ∧
    (∀ b, (h.kind = .beaconRead ∨ h.kind = .search) → (good = false ∨ beaconOk b = false) →
      ∃ t, exec (.beaconBlock frame good b) s = .next t ∧ s.agrees t))

/-- A matched LINK_GRANTED starts the link, a REFUSAL ends what it answers, an unmatched answer is counted as stray, and the frame gives its notice (R3, R11, R14, R60, R65, R114, R117, R16, R74, R110). That the return counter becomes 0 when the check has passed (log 68), and that MISSED_PAGE with NO_LINK carries no frame (log 67), are the model's choice (DESIGN CHOICE). -/
def Obligations.AnswersAreMatched : Prop :=
  (∀ (s : State) (frame : Frame) (b : SignalBlock) (h : Holder), s.hears frame h b →
    b.code ∈ [0, 2, 3, 4, 5, 6, 7, 11, 13, 14, 15] →
    (((∀ i p, s.txnBy h.sub (BitVec.ofNat 4 b.ident) = some (i, p) → p.matchedBy b.code = false) ∨
        ∃ i p, b.code = 0 ∧ s.txnBy h.sub (BitVec.ofNat 4 b.ident) = some (i, p) ∧ p.kind = .link ∧ (p.state = .sent ∨ p.state = .linked)) →
      ∃ t, exec (.signalBlock frame true b) s = .next t ∧
        ({ s with sge := t.sge, mob := t.mob, rta := { s.rta with unit := t.rta.unit } } : State).agrees t ∧
        t.mobOf h.sub.other = s.mobOf h.sub.other ∧
        t.mobOf h.sub = (if h.kind = .traffic ∧ (s.mobOf h.sub).hoState = .returnCheck then
          { s.mobOf h.sub with hoState := .none, returnCounter := 0 } else s.mobOf h.sub) ∧
        t.rta.unit = (if h.kind = .handoverAccess then s.rta.unit.map fun u =>
          if u.sub = h.sub ∧ u.kind = h.kind ∧ u.first = h.unitFirst then { u with goodNotice := true } else u else s.rta.unit) ∧
        ((∀ i p, s.txnBy h.sub (BitVec.ofNat 4 b.ident) = some (i, p) → p.matchedBy b.code = false) →
          t.sge = { (s.restartLinkIdle h.sub).sge with stray := if s.sge.stray < 255 then s.sge.stray + 1 else 255 }) ∧
        ∀ i p, b.code = 0 → s.txnBy h.sub (BitVec.ofNat 4 b.ident) = some (i, p) → p.kind = .link → (p.state = .sent ∨ p.state = .linked) →
          entryAt t.sge.txns i = some { p with state := .linked, answer := none, idle := some 1024 } ∧
          t.sge = { s.sge with txns := t.sge.txns } ∧
          ∀ j, j ≠ i → entryAt t.sge.txns j = entryAt (s.restartLinkIdle h.sub).sge.txns j)) ∧
  (∀ (s : State) (frame : Frame) (b : SignalBlock) (h : Holder) (i : Nat) (p : Txn), s.hears frame h b → b.code = 15 →
    s.txnBy h.sub (BitVec.ofNat 4 b.ident) = some (i, p) → (p.state = .sent ∨ p.state = .linked) →
    (p.kind = .link ∨ p.kind = .pass ∨ p.kind = .measReport) → s.activityOk → s.sge.waiters = [] →
    ∃ t, exec (.signalBlock frame true b) s = .next t ∧ entryAt t.sge.txns i = none ∧ t.sge.stray = s.sge.stray ∧
      (p.kind = .link → s.hlc.queue.length < 32 →
        ⟨.report (.missedPage h.sub (p.reason.getD .call) .noLink none (some (firstItem b.errors))), false, false⟩ ∈ t.hlc.queue) ∧
      (p.kind = .pass → s.hlc.queue.length < 32 →
        ⟨.report (.passOutcome h.sub (BitVec.ofNat 4 b.ident) (.refused (firstItem b.errors))), false, false⟩ ∈ t.hlc.queue) ∧
      (p.kind = .measReport → (s.serving h.sub).any (·.barred) = false → (t.mobOf h.sub).guard = (s.mobOf h.sub).params.ttt))

/-- A pass-through message goes where the route table sends it, and ends the PASS transaction it answers (R60, R63, R16). -/
def Obligations.PassThroughIsRouted : Prop :=
  ∀ (s : State) (frame : Frame) (b : SignalBlock) (h : Holder) (awake dozing act : RouteAction), s.hears frame h b → 16 ≤ b.code →
    s.dlc.routes[b.code]? = some (.route awake dozing) → act = (if s.hlc.host = .awake then awake else dozing) → s.hlc.queue.length < 32 →
    ((∀ i x, s.txnBy h.sub (BitVec.ofNat 4 b.ident) = some (i, x) → x.kind ≠ .pass ∨ x.state ≠ .sent) ∨
      ((s.serving h.sub).any (·.barred) = false ∧ s.sge.waiters = [] ∧ s.activityOk ∧ (s.record h.sub).standing = (s.record h.sub).standingNow ∧
        lowestFree s.rta.claims ≠ none)) →
    ∃ t, exec (.signalBlock frame true b) s = .next t ∧
      (act = .forward → t.hlc.queue = s.hlc.queue ++ [⟨.signal (downSignal h.sub frame b), false, true⟩]) ∧
      (act = .forwardWake → t.hlc.queue = s.hlc.queue ++ [⟨.signal (downSignal h.sub frame b), true, true⟩]) ∧
      (act = .defer → t.hlc.queue = s.hlc.queue ++ [⟨.signal (downSignal h.sub frame b), false, false⟩]) ∧
      (act = .drop → t.hlc.queue = s.hlc.queue) ∧ t.cal = s.cal ∧ t.txt = s.txt ∧
      ((∀ i x, s.txnBy h.sub (BitVec.ofNat 4 b.ident) = some (i, x) → x.kind ≠ .pass ∨ x.state ≠ .sent) →
        t.sge = (s.restartLinkIdle h.sub).sge ∧ t.dlc = s.dlc ∧ t.sbs = s.sbs ∧ (h.kind ≠ .handoverAccess → t.rta = s.rta)) ∧
      ∀ i x, s.txnBy h.sub (BitVec.ofNat 4 b.ident) = some (i, x) → x.kind = .pass → x.state = .sent → entryAt t.sge.txns i = none ∧
        (∀ j, j ≠ i → entryAt t.sge.txns j = entryAt (s.restartLinkIdle h.sub).sge.txns j) ∧ t.sge.stray = s.sge.stray

/-- LOAD_ROUTES, LOAD_NUMBERS and LOAD_NEIGHBOURS replace what they name or nothing (R62, R31, R89, R163). BAD_PARAM for a LOAD_ROUTES or a LOAD_NUMBERS whose header names a subscription is read from R163 (DEDUCED, log 13), which R62 and R31 do not repeat. That an item of LOAD_NUMBERS carries digits, mode and the two actions, and no flag of its own for "valid", is the model's choice (DESIGN CHOICE, log 72). The subscription byte of a RESULT is the request's own, and none where the request's byte names no valid one (DESIGN CHOICE, log 15). -/
def Obligations.LoadsReplaceTables : Prop :=
  (∀ (s : State) (f : HostFrame) (rest : List HostFrame) (body : List Byte), s.asks f rest 4 body →
    (∀ l, f.sub = 0xFF → readAll (readList readRoute) body = some l → l ≠ [] → l.length ≤ 48 → (∀ e ∈ l, e.1 ≤ 63) → (l.map (·.1)).Nodup →
      ((∀ e ∈ l, 16 ≤ e.1) → s.dlc.routes.length = 64 → ∃ t, exec .loadRoutes s = .next t ∧
        (∀ e ∈ l, t.dlc.routes[e.1]? = some (.route e.2.1 e.2.2)) ∧
        (∀ k, k ∉ l.map (·.1) → t.dlc.routes[k]? = s.dlc.routes[k]?) ∧
        ({ s.acted rest (f.result 4 .ok []) with dlc := { s.dlc with routes := t.dlc.routes } } : State).agreesButSleep t) ∧
      ((∃ e ∈ l, e.1 < 16) → Refuses .loadRoutes 4 .state s f rest)) ∧
    ((f.sub ≠ 0xFF ∨ readAll (readList readRoute) body = none ∨
      ∃ l, readAll (readList readRoute) body = some l ∧ (l = [] ∨ 48 < l.length ∨ (∃ e ∈ l, 63 < e.1) ∨ ¬ (l.map (·.1)).Nodup)) →
      Refuses .loadRoutes 4 .badParam s f rest)) ∧
  (∀ (s : State) (f : HostFrame) (rest : List HostFrame) (body : List Byte), s.asks f rest 3 body →
    (∀ l, f.sub = 0xFF → readAll (readList readNumber) body = some l → l.length ≤ 32 → (∀ e ∈ l, e.ok = true) →
      ∃ t, exec .loadNumbers s = .next t ∧ t.sbs.numbers.length = 32 ∧ (∀ i, entryAt t.sbs.numbers i = l[i]?) ∧
        ({ s.acted rest (f.result 3 .ok []) with sbs := { s.sbs with numbers := t.sbs.numbers } } : State).agreesButSleep t) ∧
    ((f.sub ≠ 0xFF ∨ readAll (readList readNumber) body = none ∨
      ∃ l, readAll (readList readNumber) body = some l ∧ (32 < l.length ∨ ∃ e ∈ l, e.ok = false)) →
      Refuses .loadNumbers 3 .badParam s f rest)) ∧
  (∀ (s : State) (f : HostFrame) (rest : List HostFrame) (body : List Byte), s.asks f rest 2 body →
    (∀ x l, headerSub f.sub = some (some x) → readAll (readList readNeighbour) body = some l →
      (l.length ≤ 16 → (∀ n ∈ l, n.freq ≤ 2047) → (l.map (·.cellId)).Nodup →
        ((s.mobOf x).hoState = .access → Refuses .loadNeighbours 2 .state s f rest) ∧
        ((s.mobOf x).hoState ≠ .access → ∃ t skipped, exec .loadNeighbours s = .next t ∧
          t.hlc.results = s.hlc.results ++ [f.result 2 .ok (putList putNat skipped)] ∧
          (∀ i, i ∈ skipped ↔ ∃ n v, l[i]? = some n ∧ s.serving x = some v ∧ v.cellId = n.cellId) ∧
          (∀ i, entryAt (t.mobOf x).neighbours i = (l[i]?).bind fun n => if i ∈ skipped then none else
            some ⟨n.cellId, n.freq, max (-30) (min 30 n.offset), n.allowed, .unmeasured, none, 0, 0⟩) ∧
          (t.mobOf x).neighbours.length = 16 ∧ (t.mobOf x).ranking = [] ∧ (t.mobOf x).fired = false ∧ (t.mobOf x).rotation = 0 ∧
          t.serving x = s.serving x ∧ t.mobOf x.other = s.mobOf x.other ∧ (s.claimsOk → t.claimInPlace x .beaconRead = false) ∧
          t.sge = s.sge ∧ t.sbs = s.sbs ∧ t.cal = s.cal ∧ t.dlc = s.dlc ∧ t.hlc.queue = (s.heard rest).hlc.queue)) ∧
      ((16 < l.length ∨ (∃ n ∈ l, 2047 < n.freq) ∨ ¬ (l.map (·.cellId)).Nodup) → Refuses .loadNeighbours 2 .badParam s f rest)) ∧
    ((headerSub f.sub = some none ∨ headerSub f.sub = none ∨ readAll (readList readNeighbour) body = none) →
      Refuses .loadNeighbours 2 .badParam s f rest))

/-- A transaction whose timer has run out ends, and its owner acts on TIMEOUT (R7, R15, R16, R28, R74, R110, R126, R129, R130, R159, R131, R132). That the item of the last rejection is kept, TIMEOUT among them, is the model's reading (DEDUCED, log 23). That a context gone IDLE holds subscription A, direction INCOMING and call reference 0 is the model's choice (DESIGN CHOICE, log 50). The subscription byte of a RESULT is the request's own, and none where the request's byte names no valid one (DESIGN CHOICE, log 15). That MISSED_PAGE with NO_LINK carries no receiver frame is the model's choice (DESIGN CHOICE, log 67). -/
def Obligations.ExpiredTransactionsEnd : Prop :=
  ∀ (s : State) (x : Sub) (ident : Ident) (i : Nat) (p : Txn) (c : Instr), s.callsOk → s.txnBy x ident = some (i, p) →
    ((c = .answerTimerExpiry x ident ∧ p.state = .sent ∧ p.answer = some 0) ∨
      ∃ n m, c = .waitTimerExpiry x n ∧ (s.sge.queues.get x)[n]? = some m ∧ m.opens = true ∧ m.ident = ident ∧ 1024 ≤ m.wait) →
    ∃ t, exec c s = .next t ∧
      (p.kind ≠ .setup → p.kind ≠ .connect → s.sge.waiters = [] → entryAt t.sge.txns i = none) ∧
      (p.kind = .link → s.hlc.queue.length < 32 →
        ⟨.report (.missedPage x (p.reason.getD .call) .noLink none none), false, false⟩ ∈ t.hlc.queue) ∧
      (p.kind = .pass → s.hlc.queue.length < 32 → ⟨.report (.passOutcome x ident .timeout), false, false⟩ ∈ t.hlc.queue) ∧
      (∀ o, p.kind = .textOut → s.outgoingOf x = some o → t.outgoingOf x = none ∧
        (s.sge.waiters = [] → t.txt.free = s.txt.free + o.segments.length) ∧
        (s.hlc.queue.length < 32 → ⟨.report (.textFailed x o.reference o.nextSeq .timeout), false, false⟩ ∈ t.hlc.queue)) ∧
      (p.kind = .measReport → (s.serving x).any (·.barred) = false → (t.mobOf x).guard = (s.mobOf x).params.ttt) ∧
      (∀ v, p.kind = .area → s.serving x = some v → s.sge.waiters = [] → (t.record x).registration = .rejected ∧
        (t.record x).rejectedArea = some v.area ∧ (t.record x).lastArea = none ∧ (t.record x).rejectItem = some .timeout) ∧
      ∀ k, p.owner = .ctx k → k < 3 → (s.ctx k).sub = x →
        (∀ cause, ((p.kind = .setup ∧ (s.ctx k).state = .originating ∧ cause = .noAnswer) ∨
            (p.kind = .connect ∧ (s.ctx k).state = .connecting ∧ cause = .rejected)) → s.hasPlace x (some (.ctx k)) = true →
          t.hasTxn x .release = true ∧
          t.ctx k = { s.ctx k with state := .releasing, endCause := some cause, ring := none, answerPending := false, connectWaiting := false }) ∧
        (p.kind = .hold → (s.ctx k).state = .holding → t.ctx k = { s.ctx k with state := .active } ∧ t.vcp.call = some (x, k) ∧
          t.vcp.playout = .filling ∧ ∀ q, s.cal.pendingReq = some q → q.ctx = k →
            t.cal.pendingReq = none ∧ ⟨q.tag, q.sub, q.kind.code, .failed, []⟩ ∈ t.hlc.results) ∧
        (p.kind = .resume → (s.ctx k).state = .resuming → t.ctx k = { s.ctx k with state := .held } ∧
          t.cal.holdStack = s.cal.holdStack ++ [k] ∧ ∀ q, s.cal.pendingReq = some q → q.ctx = k →
            t.cal.pendingReq = none ∧ ⟨q.tag, q.sub, q.kind.code, .failed, []⟩ ∈ t.hlc.results) ∧
        (∀ cause, p.kind = .release → (s.ctx k).state = .releasing → (s.ctx k).endCause = some cause → t.ctx k = Reset.context ∧
          ((s.ctx k).screenedOut = false → s.hlc.queue.length < 32 →
            ⟨.report (.callEnded x k (s.ctx k).callRef (s.ctx k).direction cause none), false, false⟩ ∈ t.hlc.queue))

/-- A waiting message is discarded after 1024 frames, a DETACH_NOTICE after 128, an idle LINK ends, and an expiry row whose timer is not at its end changes nothing (R7, R10, R14, R17, R21, R69, R122, R155, R117). That a row whose occasion is not at hand changes nothing, the DETACH_NOTICE that has waited fewer than 128 frames among them, is the model's choice (DESIGN CHOICE, log 1), not R7's, R14's or R17's. -/
def Obligations.TimersAndWaitingMessages : Prop :=
  (∀ (s : State) (x : Sub) (ident : Ident) (n : Nat),
    ((∀ i p, s.txnBy x ident = some (i, p) → p.answer ≠ some 0) → ∃ t, exec (.answerTimerExpiry x ident) s = .next t ∧ s.agrees t) ∧
    ((∀ i p, s.txnBy x ident = some (i, p) → p.idle ≠ some 0) → ∃ t, exec (.linkIdle x ident) s = .next t ∧ s.agrees t) ∧
    ((∀ m, (s.sge.queues.get x)[n]? = some m → m.wait < 1024) → ∃ t, exec (.waitTimerExpiry x n) s = .next t ∧ s.agrees t) ∧
    ((s.ctx n).ring ≠ some 0 → ∃ t, exec (.ringTimeout n) s = .next t ∧ s.agrees t) ∧
    ((∀ e, entryAt s.txt.entries n = some e → 0 < e.deadline) → ∃ t, exec (.reassemblyDeadline n) s = .next t ∧ s.agrees t) ∧
    (0 < (s.mobOf x).returnCounter → ∃ t, exec (.returnCounterExpiry x) s = .next t ∧ s.agrees t)) ∧
  (∀ (s : State) (x : Sub) (n : Nat) (m : Msg), (s.sge.queues.get x)[n]? = some m → m.opens = false → 1024 ≤ m.wait →
    s.activityOk →
    ∃ t, exec (.waitTimerExpiry x n) s = .next t ∧ t.sge.queues.get x = (s.sge.queues.get x).eraseIdx n ∧
      t.sge.queues.get x.other = s.sge.queues.get x.other ∧ t.sge.txns = s.sge.txns ∧ t.cal.contexts = s.cal.contexts ∧
      t.cal.holdStack = s.cal.holdStack ∧ t.cal.pendingReq = s.cal.pendingReq ∧ t.txt = s.txt ∧
      (s.claimsOk → (s.sge.queues.get x).eraseIdx n = [] → s.txnsOf x = [] → t.claimInPlace x .signalling = false)) ∧
  (∀ (s : State) (x : Sub) (m : Msg) (rest : List Msg), s.sge.queues.get x = m :: rest → m.isNotice = true → s.activity x = .detached →
    (128 ≤ m.wait → ∃ t, exec (.detachNoticeExpiry x) s = .next t ∧ t.sge.queues.get x = rest ∧ t.sge.txns = s.sge.txns ∧
      (rest = [] → s.txnsOf x = [] → s.claimsOk → t.claimInPlace x .signalling = false)) ∧
    (m.wait < 128 → ∃ t, exec (.detachNoticeExpiry x) s = .next t ∧ s.agrees t)) ∧
  (∀ (s : State) (x : Sub) (ident : Ident) (i : Nat) (p : Txn), s.callsOk → s.txnBy x ident = some (i, p) → p.kind = .link →
    p.state = .linked → p.idle = some 0 → s.sge.waiters = [] → ∃ t, exec (.linkIdle x ident) s = .next t ∧ entryAt t.sge.txns i = none ∧
      ((s.serving x).any (·.barred) = false →
        (∀ j, j ≠ i → entryAt t.sge.txns j = entryAt s.sge.txns j) ∧ t.cal.contexts = s.cal.contexts ∧ t.cal.holdStack = s.cal.holdStack ∧
          t.cal.pendingReq = s.cal.pendingReq ∧ t.txt = s.txt ∧ t.vcp = s.vcp ∧
          (t.activity x = .camped → t.dlc.filters.get x = false ∧
            ∀ d, (s.record x).registration ≠ .rejected → (s.pscOf x).schedule = some d → s.hasClaim x .pagingListen = false →
              s.rta.claims.length = 12 → (taken s.rta.claims).length ≤ 8 →
              ∃ j c, t.claimOf x .pagingListen = some (j, c) ∧ c.state = .waiting ∧ c.first = pagingFirst s.clock.now d ∧ c.slack = 0 ∧
                c.length = d.length ∧ c.period = d.cycle)))

/-- A held message takes a freed place, an ident is the counter's next free value, and SIGNALLING is placed and withdrawn as R10 says (R5, R6, R9, R10). That the row changes nothing when nothing is held or no place is free is the model's choice (DESIGN CHOICE, log 1), and so is the table entry a transaction takes, the lowest free one (DESIGN CHOICE, log 8). -/
def Obligations.UplinkPlacesAndIdents : Prop :=
  (∀ (s : State) (x : Sub),
    (∀ m rest, s.sge.holds.get x = m :: rest → (s.sge.queues.get x).length < 6 →
      ∃ t, exec (.heldMessageEnqueue x) s = .next t ∧ t.sge.queues.get x = s.sge.queues.get x ++ [{ m with wait := 0 }] ∧
        t.sge.holds.get x = rest ∧ t.sge.txns = s.sge.txns ∧ t.sge.queues.get x.other = s.sge.queues.get x.other ∧ t.cal = s.cal ∧
        t.sbs = s.sbs ∧ t.txt = s.txt ∧ t.vcp = s.vcp ∧ sameLink s.hlc t.hlc) ∧
    ((s.sge.holds.get x = [] ∨ 6 ≤ (s.sge.queues.get x).length) → ∃ t, exec (.heldMessageEnqueue x) s = .next t ∧ s.agrees t)) ∧
  (∀ (s : State) (x : Sub), s.sge.txns.length = 8 → s.nextFreeIdent x ∉ s.usedIdents x ∧
    (s.sge.nextIdent.get x ∉ s.usedIdents x → s.nextFreeIdent x = s.sge.nextIdent.get x)) ∧
  (∀ (s : State) (x : Sub) (k : Nat), k ≤ 15 → (∀ j, j < k → s.sge.nextIdent.get x + BitVec.ofNat 4 j ∈ s.usedIdents x) →
    s.sge.nextIdent.get x + BitVec.ofNat 4 k ∉ s.usedIdents x → s.nextFreeIdent x = s.sge.nextIdent.get x + BitVec.ofNat 4 k) ∧
  (∀ (s : State) (x : Sub) (o : Offer), s.takesOffer x o = true →
    (∀ k, o.opens = some k → ∃ t i, s.offer x o = (some (s.nextFreeIdent x), t) ∧ lowestFree s.sge.txns = some i ∧
      t.sge.txns = s.sge.txns.set i (some ⟨x, k, s.nextFreeIdent x, o.owner.getD .host, .queued, none, none, o.reason⟩) ∧
      t.sge.nextIdent.get x = s.nextFreeIdent x + 1 ∧ t.sge.nextIdent.get x.other = s.sge.nextIdent.get x.other) ∧
    (o.opens = none → ∃ t, s.offer x o = (some o.echo, t) ∧ t.sge.txns = s.sge.txns ∧ t.sge.nextIdent = s.sge.nextIdent)) ∧
  (∀ (s : State) (x : Sub), s.claimsOk → s.noneAsked → ∃ t, t = s.reexamine x ∧ t = { s with rta := t.rta, psc := t.psc } ∧
    ((s.claimInPlace x .traffic = true ∨ (s.sge.queues.get x = [] ∧ s.txnsOf x = [])) → t.claimInPlace x .signalling = false) ∧
    (s.claimInPlace x .traffic = false → (s.sge.queues.get x ≠ [] ∨ s.txnsOf x ≠ []) → s.takesClaim x .signalling →
      t.claimInPlace x .signalling = true) ∧
    ∀ y k, (y ≠ x ∨ k ≠ .signalling) → t.claimOf y k = s.claimOf y k)

/-- UP_SIGNAL is answered once and, when accepted, its message joins the queue, and SIGNALLING is placed for it where no TRAFFIC is in place (R5, R6, R10, R16, R162, R163). BAD_PARAM for a payload that cannot be read is the model's choice (DESIGN CHOICE, log 75). The ident of a message without a transaction (log 38) and the table entry a transaction takes, the lowest free one (log 8), are the model's choice (DESIGN CHOICE). The subscription byte of a RESULT is the request's own, and none where the request's byte names no valid one (DESIGN CHOICE, log 15). -/
def Obligations.UpSignalIsAnswered : Prop :=
  (∀ (s : State) (f : HostFrame) (rest : List HostFrame) (x : Sub) (code : Nat) (expect : Bool) (payload : List Byte),
    s.hlc.inbound = f :: rest → f.type = .upSignal → s.mayAct = true → s.resultPlaces < 8 → headerSub f.sub = some (some x) →
    readAll readUpSignal f.payload = some (code, expect, payload) →
    (16 ≤ code → code ≤ 63 → expect = false → (s.activity x).isCampedState = true → (s.sge.queues.get x).length < 6 → s.activityOk →
      ∃ t, exec .upSignal s = .next t ∧ t.hlc.results = s.hlc.results ++ [f.result 0 .ok []] ∧ t.hlc.inbound = rest ∧ t.hlc.host = .awake ∧
        t.sge.queues.get x = s.sge.queues.get x ++ [⟨some .host, 0, false, .pass code payload, 0⟩] ∧ t.sge.txns = s.sge.txns ∧ t.cal = s.cal ∧
        t.sge.nextIdent = s.sge.nextIdent ∧ (s.claimsOk → s.noneAsked → (s.claimInPlace x .traffic = true → t.claimInPlace x .signalling = false) ∧
          (s.claimInPlace x .traffic = false → s.takesClaim x .signalling → t.claimInPlace x .signalling = true))) ∧
    ((code < 16 ∨ 63 < code) → Refuses .upSignal 0 .badParam s f rest) ∧
    (16 ≤ code → code ≤ 63 → s.activity x = .detached → Refuses .upSignal 0 .state s f rest) ∧
    (16 ≤ code → code ≤ 63 → s.activity x = .noService → Refuses .upSignal 0 .noService s f rest) ∧
    (16 ≤ code → code ≤ 63 → (s.activity x).isCampedState = true → expect = true → s.activity x.other = .inCall →
      Refuses .upSignal 0 .busyOther s f rest) ∧
    (∀ i, 16 ≤ code → code ≤ 63 → expect = true → (s.activity x).isCampedState = true → (s.sge.queues.get x).length < 6 → s.activityOk →
      s.activity x.other ≠ .inCall → lowestFree s.sge.txns = some i → ∃ t, exec .upSignal s = .next t ∧
        t.hlc.results = s.hlc.results ++ [f.result 0 .ok (putNat (s.nextFreeIdent x).toNat)] ∧ t.hlc.inbound = rest ∧ t.hlc.host = .awake ∧
        t.sge.txns = s.sge.txns.set i (some ⟨x, .pass, s.nextFreeIdent x, .host, .queued, none, none, none⟩) ∧
        t.sge.queues.get x = s.sge.queues.get x ++ [⟨some .host, s.nextFreeIdent x, true, .pass code payload, 0⟩] ∧ t.cal = s.cal ∧
        t.sge.nextIdent.get x = s.nextFreeIdent x + 1 ∧ t.sge.nextIdent.get x.other = s.sge.nextIdent.get x.other ∧
        (s.claimsOk → s.noneAsked → (s.claimInPlace x .traffic = true → t.claimInPlace x .signalling = false) ∧
          (s.claimInPlace x .traffic = false → s.takesClaim x .signalling → t.claimInPlace x .signalling = true))) ∧
    (16 ≤ code → code ≤ 63 → (s.activity x).isCampedState = true → (expect = false ∨ s.activity x.other ≠ .inCall) →
      (6 ≤ (s.sge.queues.get x).length ∨ (expect = true ∧ lowestFree s.sge.txns = none)) → Refuses .upSignal 0 .busy s f rest)) ∧
  (∀ (s : State) (f : HostFrame) (rest : List HostFrame), s.hlc.inbound = f :: rest → f.type = .upSignal → s.mayAct = true → s.resultPlaces < 8 →
    (headerSub f.sub = some none ∨ headerSub f.sub = none ∨ readAll readUpSignal f.payload = none) → Refuses .upSignal 0 .badParam s f rest)

/-- CONFIGURE_SUBSCRIPTION replaces the record of a detached subscription (R19, R29). The subscription byte of a RESULT is the request's own, and none where the request's byte names no valid one (DESIGN CHOICE, log 15). -/
def Obligations.ConfigureReplacesRecord : Prop :=
  ∀ (s : State) (f : HostFrame) (rest : List HostFrame) (body : List Byte), s.asks f rest 1 body →
    (∀ x v, headerSub f.sub = some (some x) → readAll readConfig body = some v →
      (v.ok = true → s.activity x = .detached → ∃ t, exec .configureSubscription s = .next t ∧
        t.hlc.results = s.hlc.results ++ [f.result 1 .ok []] ∧ t.record x.other = s.record x.other ∧ t.sbs.numbers = s.sbs.numbers ∧
        t.sge.queues = s.sge.queues ∧ t.hlc.queue = (s.heard rest).hlc.queue ∧
        (t.record x).configured = true ∧ (t.record x).identity = some v.identity ∧ (t.record x).homeCode = some v.homeCode ∧
        (t.record x).trunk = v.trunk.bind (·.head?) ∧ (t.record x).intlPre = v.intlPre ∧ (t.record x).overrides = v.overrides ∧
        (t.record x).ringTimeout = v.ring.getD 30 ∧ (t.record x).reassemblyTimeout = v.reassembly.getD 60 ∧
        (t.record x).voiceDepth = v.voiceDepth ∧
        (t.record x).aliasVal = (if (s.record x).identity = some v.identity then (s.record x).aliasVal else none) ∧
        (t.record x).registration = .unregistered ∧ (t.record x).lastArea = none ∧ (t.record x).rejectedArea = none ∧
        (t.record x).updatePending = false ∧ (t.record x).standing = .none ∧ t.activity x = .detached) ∧
      (v.ok = true → s.activity x ≠ .detached → Refuses .configureSubscription 1 .state s f rest) ∧
      (v.ok = false → Refuses .configureSubscription 1 .badParam s f rest)) ∧
    ((headerSub f.sub = some none ∨ headerSub f.sub = none ∨ readAll readConfig body = none) →
      Refuses .configureSubscription 1 .badParam s f rest)

/-- The normalised form of a received number, and the winning entry of a lookup (R32, R33). -/
def Obligations.NumbersAreNormalisedAndLookedUp : Prop :=
  (∀ (r : SubRecord) (d : Digits), d ≠ [] →
    (∀ ty, normalise r ty [] = [] ∧ (normalise r ty d).length ≤ 20) ∧
    normalise r .international d = d.drop (d.length - 20) ∧
    (∀ t h rest, r.trunk = some t → r.homeCode = some h → d = t :: rest → rest ≠ [] →
      normalise r .national d = (h ++ rest).drop ((h ++ rest).length - 20)) ∧
    (∀ h, r.homeCode = some h → (r.trunk = none ∨ r.trunk ≠ d.head? ∨ d.length = 1) →
      normalise r .national d = (h ++ d).drop ((h ++ d).length - 20)) ∧
    (∀ p rest, r.intlPre = some p → d = p ++ rest → rest ≠ [] → normalise r .unknown d = rest.drop (rest.length - 20)) ∧
    (∀ t h rest, r.trunk = some t → r.homeCode = some h → d = t :: rest → rest ≠ [] →
      (∀ p q, r.intlPre = some p → d ≠ p ++ q) → normalise r .unknown d = (h ++ rest).drop ((h ++ rest).length - 20)) ∧
    (r.intlPre = some d → normalise r .unknown d = d.drop (d.length - 20)) ∧
    ((r.trunk = none ∨ r.trunk ≠ d.head? ∨ d.length = 1) → (∀ p q, r.intlPre = some p → d ≠ p ++ q) →
      normalise r .unknown d = d.drop (d.length - 20))) ∧
  (∀ (s : State) (number : Digits),
    (number = [] → s.lookup number = (none, .wake, .quiet)) ∧
    (number ≠ [] → (∀ e ∈ taken s.sbs.numbers, e.2.qualifies number = none) → s.lookup number = (none, .wake, .quiet)) ∧
    (number ≠ [] → ∀ e ∈ taken s.sbs.numbers, ∀ n, e.2.qualifies number = some n →
      (∀ g ∈ taken s.sbs.numbers, ∀ m, g.2.qualifies number = some m → m ≤ n) →
      (∀ g ∈ taken s.sbs.numbers, g.2.qualifies number = some n → e.1 ≤ g.1) →
      s.lookup number = (some e.1, e.2.callAction, e.2.textAction)) ∧
    (∀ (e : NumberEntry), (e.mode = .exact → (e.qualifies number = some 21 ↔ e.digits = number)) ∧
      (∀ k, e.mode = .suffix k → (e.qualifies number = some k ↔
        k ≤ number.length ∧ e.digits.drop (e.digits.length - k) = number.drop (number.length - k)))))

/-- ATTACH begins the search for a cell (R22, R101, R36). That between steps no placement is asked for and not taken, the premise of the clauses on the claim, is an invariant of the model's own field (log 4). The subscription byte of a RESULT is the request's own, and none where the request's byte names no valid one (DESIGN CHOICE, log 15). -/
def Obligations.AttachBeginsSearch : Prop :=
  ∀ (s : State) (f : HostFrame) (rest : List HostFrame) (body : List Byte), s.asks f rest 8 body →
    (∀ x, headerSub f.sub = some (some x) → body = [] → s.activity x = .detached → (s.record x).configured = true →
      ∃ t, exec .attach s = .next t ∧ t.activity x = .noService ∧ t.hlc.results = s.hlc.results ++ [f.result 8 .ok []] ∧
        t.sge.queues.get x = [] ∧ (s.noneAsked → (lowestFree s.rta.claims ≠ none → t.hasClaim x .search = true ∧ (t.mobOf x).searchRetry = none) ∧
          (t.hasClaim x .search = true ∨ (t.mobOf x).searchRetry = some (s.mobOf x).params.searchInterval) ∧
          (s.hasClaim x .search = false → lowestFree s.rta.claims ≠ none → ∃ i c, t.claimOf x .search = some (i, c) ∧ c.state = .waiting ∧
            c.first = s.clock.now + 1 ∧ c.slack = 15 ∧ c.length = 4 ∧ c.period = (s.mobOf x).params.searchInterval ∧ c.later = false) ∧
          (∀ i c, s.claimOf x .search = some (i, c) → c.state = .running → entryAt t.rta.claims i = some { c with
            placement := some ⟨s.clock.now + 1, 15, 4, (s.mobOf x).params.searchInterval, false⟩, withdrawing := false })) ∧
        t.record x = { s.record x with activity := .noService } ∧ t.record x.other = s.record x.other ∧ t.hlc.queue = (s.heard rest).hlc.queue ∧
        t.cal = s.cal ∧ t.vcp = s.vcp ∧ t.dlc = s.dlc ∧ t.sge.txns = s.sge.txns ∧ t.sge.queues.get x.other = s.sge.queues.get x.other) ∧
    (∀ x, headerSub f.sub = some (some x) → body = [] → (s.activity x ≠ .detached ∨ (s.record x).configured = false) →
      Refuses .attach 8 .state s f rest) ∧
    ((headerSub f.sub = some none ∨ headerSub f.sub = none ∨ body ≠ []) → Refuses .attach 8 .badParam s f rest)

/-- DETACH tears the subscription down and keeps what identifies and configures it (R25, R17, R37, R38, R66, R98, R118, R156, R163). That a DOWN_TEXT frame has begun from the moment HLC chose it is the model's choice (DESIGN CHOICE, log 42); that the item of the last rejection is part of what a DETACH clears is the model's reading (DEDUCED, log 23). The subscription byte of a RESULT is the request's own, and none where the request's byte names no valid one (DESIGN CHOICE, log 15). -/
def Obligations.DetachTearsDown : Prop :=
  (∀ (s : State) (f : HostFrame) (rest : List HostFrame) (x : Sub), s.asks f rest 9 [] → headerSub f.sub = some (some x) →
      (s.activity x ≠ .detached → ∃ t, exec .detach s = .next t ∧
        t.record x = { s.record x with registration := .unregistered, lastArea := none, rejectedArea := none, updatePending := false,
                                       updateByPage := false, standing := .none, rejectItem := none, activity := .detached } ∧
        t.txnsOf x = [] ∧ t.outgoingOf x = none ∧ t.hasCtx x = false ∧ t.mobOf x = { Reset.mobSub with params := (s.mobOf x).params } ∧
        (t.pscOf x).schedule = none ∧ (t.pscOf x).retry = .none ∧ (t.pscOf x).missed = 0 ∧ (t.pscOf x).denied = 0 ∧
        (t.pscOf x).relaxCount = 0 ∧ t.dlc.filters.get x = false ∧
        t.sge.queues.get x = (if (s.activity x).isCampedState then [⟨none, 0, false, .detachNotice ((s.record x).identity.getD []), 0⟩] else []) ∧
        t.sge.holds.get x = [] ∧ f.result 9 .ok [] ∈ t.hlc.results ∧ t.sge.stray = s.sge.stray ∧ t.sge.nextIdent.get x = s.sge.nextIdent.get x ∧
        t.rta.copies = s.rta.copies ∧ (s.claimsOk → ∀ k, k ≠ .signalling → t.claimInPlace x k = false) ∧
        (∀ i e, entryAt s.txt.entries i = some e → e.sub = x →
          (s.hlc.sending ≠ some .entry ∨ (∃ g more, s.hlc.queue = g :: more ∧ g.body ≠ .text i) → entryAt t.txt.entries i = none) ∧
          (s.hlc.sending = some .entry → (∃ g more, s.hlc.queue = g :: more ∧ g.body = .text i) → e.state = .queued →
            entryAt t.txt.entries i = some e)) ∧
        (s.sge.waiters = [] → t.record x.other = s.record x.other ∧ t.mobOf x.other = s.mobOf x.other ∧
          t.txnsOf x.other = s.txnsOf x.other ∧ t.sge.queues.get x.other = s.sge.queues.get x.other)) ∧
      (s.activity x = .detached → Refuses .detach 9 .state s f rest)) ∧
  (∀ (s : State) (f : HostFrame) (rest : List HostFrame) (body : List Byte), s.asks f rest 9 body →
    (headerSub f.sub = some none ∨ headerSub f.sub = none ∨ body ≠ []) → Refuses .detach 9 .badParam s f rest)

/-- An owner that waits tries again in its turn, and within an ending before its subscription settles (R5, R26, R27, R158). The rows, their turns and the moment of a try within an ending are the model's choice (DESIGN CHOICE, log 4). -/
def Obligations.WaitersTryAgain : Prop :=
  (∀ (s : State) (x : Sub) (v : Serving), s.isTurn .update x = true → (s.record x).updatePending = true → (s.record x).updateByPage = false →
    s.serving x = some v → s.activityOk →
    ((s.record x).dueFor v.area = true → s.activity x.other ≠ .inCall → s.takesOffer x (s.areaOffer x v.area) = true →
      ∃ t, exec (.pendingUpdateRetry x) s = .next t ∧ (t.record x).registration = .updating ∧ (t.record x).updatePending = false ∧
        t.hasTxn x .area = true ∧ t.cal = s.cal ∧ t.txt = s.txt) ∧
    ((s.record x).dueFor v.area = false →
      ∃ t, exec (.pendingUpdateRetry x) s = .next t ∧ (t.record x).registration = (s.record x).registration ∧ (t.record x).updatePending = false ∧
        t.sge.txns = s.sge.txns ∧ t.sge.queues = s.sge.queues ∧ t.cal = s.cal ∧ t.txt = s.txt)) ∧
  (∀ (s : State) (x : Sub) (o : Outgoing), s.isTurn .segment x = true → s.outgoingOf x = some o → o.segmentDue = true → s.activityOk →
    (s.takes x .txt = true → ∃ t, exec (.segmentDueRetry x) s = .next t ∧ t.outgoingOf x = some { o with segmentDue := false } ∧
      t.hasTxn x .textOut = true ∧ t.txt.free = s.txt.free ∧ t.cal = s.cal ∧ t.vcp = s.vcp) ∧
    (s.takes x .txt = false → ∃ t, exec (.segmentDueRetry x) s = .next t ∧ t.outgoingOf x = some o ∧ t.sge.txns = s.sge.txns ∧
      t.txt.free = s.txt.free ∧ t.cal = s.cal)) ∧
  (∀ (s : State) (x : Sub) (ident : Ident) (i : Nat) (p : Txn) (v : Serving) (due : Bool), s.activityOk →
    s.txnBy x ident = some (i, p) → p.kind = .link → p.state = .linked → p.idle = some 0 → s.sge.waiters = [⟨.update, x, due⟩] →
    (s.record x).updatePending = true → s.serving x = some v → ((s.record x).updateByPage = true ∨ (s.record x).dueFor v.area = true) →
    s.activity x.other ≠ .inCall → s.hasPlace x (some .psc) = true →
    ∃ t, exec (.linkIdle x ident) s = .next t ∧ (t.record x).registration = .updating ∧ (t.record x).updatePending = false ∧
      t.hasTxn x .area = true ∧ t.activity x = s.activity x ∧ t.sge.waiters = [])

/-- The planned wakes from LIGHT, DEEP and WAKING (R82, R83). That LIGHT_RETURN is taken when its boundary is the next one, and that the clock carries the ticks a timer had left, are the model's choice (DESIGN CHOICE, log 2). -/
def Obligations.TimedWakesHappen : Prop :=
  ∀ s : State,
    (∀ back, s.psc.power = .light → s.psc.lightReturn = some back → (back = s.clock.now ∨ back = s.clock.now + 1) →
      ∃ t, exec .lightReturn s = .next t ∧ t.psc.power = .awake ∧ t.psc.lightReturn = none ∧ t.clock.now = s.clock.now ∧ t.rta = s.rta ∧
        t.rpt = s.rpt ∧ t.sge = s.sge ∧ t.sbs = s.sbs ∧ t.mob = s.mob ∧ t.cal = s.cal ∧ t.txt = s.txt ∧ t.psc.per = s.psc.per ∧ sameLink s.hlc t.hlc) ∧
    (∀ n, s.psc.power = .deep → s.psc.wakeTimer = some n → s.clock.tick + n ≤ 256 →
      ∃ t, exec .wakeTimerExpiry s = .next t ∧ t.psc.power = .waking ∧ t.psc.wakeTimer = none ∧ t.psc.settle = some s.psc.notedS ∧
        t.pins.oscEnable = true ∧ t.clock = ⟨s.clock.now, s.clock.tick + n⟩ ∧ t.rta = s.rta ∧ t.rpt = s.rpt ∧ t.sge = s.sge ∧ t.sbs = s.sbs ∧
        t.mob = s.mob ∧ t.cal = s.cal ∧ t.txt = s.txt ∧ t.psc.per = s.psc.per ∧ sameLink s.hlc t.hlc) ∧
    (∀ n, s.psc.power = .waking → s.psc.settle = some n → s.clock.tick + n ≤ 256 →
      ∃ t, exec .settleCountEnd s = .next t ∧ t.psc.power = .awake ∧ t.psc.settle = none ∧ t.clock = ⟨s.clock.now, s.clock.tick + n⟩ ∧
        t.rta = s.rta ∧ t.rpt = s.rpt ∧ t.sge = s.sge ∧ t.sbs = s.sbs ∧ t.mob = s.mob ∧ t.cal = s.cal ∧ t.txt = s.txt ∧
        t.psc.per = s.psc.per ∧ sameLink s.hlc t.hlc)

/-- The gap of a sleep evaluation, the depth chosen from it, and what a claim placed, re-placed or resumed asleep does to the planned wake (R80, R81, R82, R83, R85). That a window whose first frame's number has just passed opens when that number comes again is the model's reading (DEDUCED, log 34). -/
def Obligations.SleepEvaluationChoosesDepth : Prop :=
  (∀ (s : State) (c : Claim),
    (c.state ≠ .waiting → s.claimGap c = none) ∧
    (c.state = .waiting → c.perFrame = true → ∀ k, s.claimGap c = some k ↔
      1 ≤ k ∧ k ≤ 16 ∧ s.demanded c.sub (s.clock.now + frameOf k) = true ∧
        ∀ j, 1 ≤ j → j < k → s.demanded c.sub (s.clock.now + frameOf j) = false) ∧
    (c.state = .waiting → c.perFrame = false → c.later = false → frameDist c.first (s.clock.now + 1) ≤ c.slack → s.claimGap c = some 1) ∧
    (c.state = .waiting → c.perFrame = false → (c.later = true ∨ c.slack < frameDist c.first (s.clock.now + 1)) →
      ∃ k, s.claimGap c = some k ∧ 1 ≤ k ∧ k ≤ 4096 ∧ s.clock.now + frameOf k = c.first)) ∧
  (∀ s : State,
    (s.wakeDistance = none ↔ ∀ c, some c ∈ s.rta.claims → s.claimGap c = none) ∧
    ∀ k, s.wakeDistance = some k ↔ (∃ c, some c ∈ s.rta.claims ∧ s.claimGap c = some k) ∧
      ∀ c j, some c ∈ s.rta.claims → s.claimGap c = some j → k ≤ j) ∧
  (∀ s : State,
    (s.maySleep = true ↔ s.psc.power = .awake ∧ (∀ x, s.activity x ≠ .attended ∧ s.activity x ≠ .inCall) ∧ s.rta.unit = none ∧
      s.rpt.order = none ∧ s.hlc.rx ≠ .receiving ∧ s.hlc.inbound = []) ∧
    (s.maySleep = false → s.evaluate = s) ∧
    (s.maySleep = true → s.wakeDistance = none → s.evaluate.psc.power = .deep ∧ s.evaluate.psc.wakeTimer = none ∧ s.evaluate.psc.notedS = s.psc.settleS) ∧
    (∀ k, s.maySleep = true → s.wakeDistance = some k →
      (s.psc.settleS + 512 ≤ k * 256 - s.clock.tick → s.evaluate.psc.power = .deep ∧ s.evaluate.psc.notedS = s.psc.settleS ∧
        s.evaluate.psc.wakeTimer = some (k * 256 - s.clock.tick - (s.psc.settleS + 256))) ∧
      (k * 256 - s.clock.tick < s.psc.settleS + 512 → 256 < k * 256 - s.clock.tick →
        s.evaluate.psc.power = .light ∧ s.evaluate.psc.lightReturn = some (s.clock.now + frameOf (k - 1))) ∧
      (k * 256 - s.clock.tick ≤ 256 → s.evaluate = s))) ∧
  (∀ s : State, ∃ t, exec .frameBoundary s = .next t ∧ (t.rta.unit = none → t.evaluate = t)) ∧
  (∀ s : State, (s.wakeDistance = none ∨ s.psc.power = .awake ∨ s.psc.power = .waking → s.recomputeWake = s) ∧
    ∀ k gap, s.wakeDistance = some k → gap = k * 256 - s.clock.tick →
      (s.psc.power = .light →
        (gap ≤ 256 → s.recomputeWake =
          { s with psc := { s.psc with power := .awake, lightReturn := none, wakeTimer := none, settle := none } }) ∧
        (256 < gap → ∀ back, s.psc.lightReturn = some back →
          s.recomputeWake = { s with psc := { s.psc with
            lightReturn := some (if k - 1 < frameDist s.clock.now back then s.clock.now + frameOf (k - 1) else back) } })) ∧
      (s.psc.power = .deep →
        (gap ≤ s.psc.notedS + 256 → s.recomputeWake = { s with psc := { s.psc with
          power := .waking, wakeTimer := none, settle := some s.psc.notedS, lightReturn := none } }) ∧
        (s.psc.notedS + 256 < gap → s.recomputeWake = { s with psc := { s.psc with
          wakeTimer := some (match s.psc.wakeTimer with
            | none => gap - (s.psc.notedS + 256)
            | some n => min n (gap - (s.psc.notedS + 256))) } }))) ∧
  (∀ (s : State) (x : Sub) (k : ClaimKind) (w : Window), (s.place x k w).1 = true →
    ∃ r : Rta, (s.place x k w).2 = State.recomputeWake { s with rta := r } ∧ ∃ i c, entryAt r.claims i = some c ∧ c.sub = x ∧ c.kind = k) ∧
  (∀ (s : State) (x : Sub) (k : ClaimKind) (i : Nat) (c : Claim), s.claimOf x k = some (i, c) → ∃ r : Rta,
    s.resumeClaim x k = State.recomputeWake { s with rta := r } ∧
      entryAt r.claims i = some { c with state := if c.state = .heldOut then .waiting else c.state })

/-- The paging offset of a subscription (R67). -/
def Obligations.PagingOffset : Prop :=
  ∀ (v : Serving) (identity : Digits),
    (∀ n, (scheduleOf v (some n) identity).o = n.toNat % 2 ^ v.c ∧ (scheduleOf v (some n) identity).byAlias = true) ∧
    ∀ d3 d2 d1 d0 front, identity = front ++ [d3, d2, d1, d0] →
      (scheduleOf v none identity).o = (d3 * 1000 + d2 * 100 + d1 * 10 + d0) % 2 ^ v.c ∧ (scheduleOf v none identity).byAlias = false

/-- A page that names the subscription is answered, or reported where the other's call forbids it (R71, R72, R73, R75, R76, R77, R59, R26, R27), and a good PAGE of the serving cell is recorded as heard. That a PAGE that comes late belongs to the listen that held its frame is the model's reading (DEDUCED, log 29). That a page finding an update pending from a change of area offers it again and keeps it due is the model's choice (DESIGN CHOICE, log 66). -/
def Obligations.MatchedPageIsAnswered : Prop :=
  (∀ (s : State) (frame : Frame) (b : PageBlock) (h : Holder) (v : Serving) (i : PageItem), s.holderOf frame = some h →
    h.kind = .pagingListen → pageOk b = true → s.serving h.sub = some v → v.cellId = b.cellId → s.listenDecided h.sub h.unitFirst = false →
    b.items.find? (s.record h.sub).matchesItem = some i → s.activityOk →
    (i.reason ≠ .update → s.pageForbidden h.sub = true → s.hlc.queue.length < 32 → ∃ t, exec (.pageBlock frame true b) s = .next t ∧
      t.hlc.queue = s.hlc.queue ++ [⟨.report (.missedPage h.sub i.reason .otherInCall (some frame) none), false, false⟩] ∧
      t.sge = s.sge ∧ t.sbs = s.sbs ∧ t.dlc = s.dlc ∧ t.cal = s.cal ∧ t.txt = s.txt) ∧
    (i.reason ≠ .update → s.pageForbidden h.sub = false →
      s.takesOffer h.sub ⟨some .psc, some .link, 0, some i.reason, .pageResponse i.identity i.reason⟩ = true →
      ∃ t, exec (.pageBlock frame true b) s = .next t ∧ t.hasTxn h.sub .link = true ∧ t.dlc.filters.get h.sub = true ∧
        (t.pscOf h.sub).relaxCount = 0 ∧ t.cal = s.cal ∧ t.txt = s.txt ∧
        (s.activity h.sub = .camped → s.claimsOk → (t.activity h.sub).isBusy = true ∧ t.claimInPlace h.sub .pagingListen = false)) ∧
    (i.reason ≠ .update → s.pageForbidden h.sub = false →
      s.takesOffer h.sub ⟨some .psc, some .link, 0, some i.reason, .pageResponse i.identity i.reason⟩ = false → s.hlc.queue.length < 32 →
      ∃ t, exec (.pageBlock frame true b) s = .next t ∧
        t.hlc.queue = s.hlc.queue ++ [⟨.report (.missedPage h.sub i.reason .noTransaction (some frame) none), false, false⟩] ∧
        t.sge = s.sge ∧ t.sbs = s.sbs ∧ t.dlc = s.dlc ∧ t.cal = s.cal ∧ t.txt = s.txt ∧ (t.pscOf h.sub).relaxCount = 0) ∧
    (i.reason = .update →
      ((s.record h.sub).registration = .updating ∨ ((s.record h.sub).updatePending = true ∧ (s.record h.sub).updateByPage = true) →
        ∃ t, exec (.pageBlock frame true b) s = .next t ∧ t.sge = s.sge ∧ t.sbs = s.sbs ∧ t.cal = s.cal ∧ t.txt = s.txt) ∧
      ((s.record h.sub).registration ≠ .updating → ((s.record h.sub).updatePending = false ∨ (s.record h.sub).updateByPage = false) →
        (s.activity h.sub.other = .inCall → ∃ t, exec (.pageBlock frame true b) s = .next t ∧ (t.record h.sub).updatePending = true ∧
          (t.record h.sub).updateByPage = true ∧ t.sge.txns = s.sge.txns ∧ t.sge.queues = s.sge.queues ∧ t.cal = s.cal ∧ t.txt = s.txt) ∧
        (s.activity h.sub.other ≠ .inCall → s.takesOffer h.sub (s.areaOffer h.sub v.area) = true →
          ∃ t, exec (.pageBlock frame true b) s = .next t ∧ (t.record h.sub).registration = .updating ∧
            (t.record h.sub).updatePending = false ∧ t.hasTxn h.sub .area = true ∧ t.cal = s.cal ∧ t.txt = s.txt)))) ∧
  (∀ (s : State) (frame : Frame) (b : PageBlock) (h : Holder), s.holderOf frame = some h → h.kind = .pagingListen → pageOk b = true →
    ((∀ v, s.serving h.sub = some v → v.cellId ≠ b.cellId) → ∃ t, exec (.pageBlock frame true b) s = .next t ∧ s.agrees t) ∧
    ∀ v, s.serving h.sub = some v → v.cellId = b.cellId →
      ((s.listenDecided h.sub h.unitFirst = true ∨ b.items.find? (s.record h.sub).matchesItem = none) →
        ∃ t, exec (.pageBlock frame true b) s = .next t ∧ ({ s with psc := { s.psc with per := t.psc.per } } : State).agrees t ∧
          t.pscOf h.sub.other = s.pscOf h.sub.other ∧ t.pscOf h.sub = { s.pscOf h.sub with
            listens := (s.pscOf h.sub).listens.map fun l => if l.first = h.unitFirst then { l with goodHeard := true } else l }) ∧
      ∀ i, b.items.find? (s.record h.sub).matchesItem = some i → s.listenDecided h.sub h.unitFirst = false → s.activityOk →
        ∃ t, exec (.pageBlock frame true b) s = .next t ∧ ∀ l, (s.pscOf h.sub).heardIn (some h.unitFirst) = some l →
          (t.pscOf h.sub).heardIn (some h.unitFirst) = some { l with goodHeard := true, matched := true }) ∧
  (∀ (s : State) (frame : Frame) (b : PageBlock) (h : Holder), s.holderOf frame = some h → h.kind = .pagingListen →
    s.listenDecided h.sub h.unitFirst = true → ∃ t, exec (.pageBlock frame true b) s = .next t ∧
      ({ s with psc := t.psc } : State).agrees t ∧ (t.pscOf h.sub).relaxCount = (s.pscOf h.sub).relaxCount) ∧
  (∀ (s : State) (i : Nat) (c : Claim), c.kind = .pagingListen →
    ((s.startUnit i c).pscOf c.sub).heardIn (some s.clock.now) = some ⟨s.clock.now, false, false⟩ ∧
    ∀ o, some o ∈ s.rta.holders → o.sub = c.sub → o.kind = .pagingListen → o.unitFirst ≠ s.clock.now →
      ((s.startUnit i c).pscOf c.sub).heardIn (some o.unitFirst) = (s.pscOf c.sub).heardIn (some o.unitFirst))

/-- The missed-occasion run by end code, and the relaxation count after a quiet listen (R75, R76, R77, R91). -/
def Obligations.MissedOccasionRunFollowsEndCodes : Prop :=
  (∀ (s : State) (x : Sub) (first : Option Frame),
    ((s.listenEnded x .done first).pscOf x).missed + ((s.listenEnded x .done first).pscOf x).denied = 0 ∧
    s.listenEnded x .radioFault first = s ∧
    ((s.pscOf x).missed + (s.pscOf x).denied < 3 →
      (s.listenEnded x .missed first) = s.onPscOf x (fun p => { p with missed := p.missed + 1 }) ∧
      (s.listenEnded x .denied first) = s.onPscOf x (fun p => { p with denied := p.denied + 1 })) ∧
    ((s.pscOf x).missed + (s.pscOf x).denied = 3 → s.hlc.queue.length < 32 →
      ((s.listenEnded x .missed first).pscOf x).missed + ((s.listenEnded x .missed first).pscOf x).denied = 0 ∧
      (s.listenEnded x .missed first).hlc.queue = s.hlc.queue ++
        [⟨.report (.pagingDegraded x ((s.pscOf x).missed + 1) (s.pscOf x).denied), false, false⟩] ∧
      (s.listenEnded x .denied first).hlc.queue = s.hlc.queue ++
        [⟨.report (.pagingDegraded x (s.pscOf x).missed ((s.pscOf x).denied + 1)), false, false⟩]) ∧
    (∀ h, (s.pscOf x).heardIn first = some h → h.goodHeard = true →
      s.listenEnded x .withdrawn first = s.onPscOf x (fun p => { p with missed := 0, denied := 0 })) ∧
    ((∀ h, (s.pscOf x).heardIn first = some h → h.goodHeard = false) → s.listenEnded x .withdrawn first = s)) ∧
  (∀ (s : State) (x : Sub) (first : Option Frame) (h : Listen) (p : PscSub), s.pscOf x = p → p.heardIn first = some h →
    ((h.goodHeard = true ∧ h.matched = false ∧ p.relaxCount < p.thr ∧ ∃ l q, p.level = some l ∧ p.qmin = some q ∧ q + p.margin ≤ l) →
      (s.listenEnded x .done first).pscOf x = { p with missed := 0, denied := 0, relaxCount := p.relaxCount + 1 } ∧
      (p.relaxCount + 1 ≠ p.thr → (s.listenEnded x .done first).rta = s.rta) ∧
      ∀ i c, p.relaxCount + 1 = p.thr → s.claimOf x .measure = some (i, c) → c.withdrawing = false → c.state = .waiting →
        entryAt (s.listenEnded x .done first).rta.claims i = some { c with
          slack := 15, length := 1, period := (s.mobOf x).params.period * p.factor, outranked := false, unavailable := false, placement := none }) ∧
    ((h.goodHeard = false ∨ h.matched = true ∨ p.thr ≤ p.relaxCount ∨ ¬ ∃ l q, p.level = some l ∧ p.qmin = some q ∧ q + p.margin ≤ l) →
      s.listenEnded x .done first = s.onPscOf x fun p => { p with missed := 0, denied := 0 }))

/-- Where a listen falls, what entering CAMPED, ATTENDED or IN_CALL does to it and to the filter, and how a refused placement is tried again (R68, R69, R70, R75, R21, R36, R85, R91, R101, R135, R10, R77). The rows and their turns, by the rank of the kind and subscription A first, and how the placements of one step are taken are the model's choice where R36 leaves them open (DESIGN CHOICE, log 4). -/
def Obligations.PlacementsAndTheirRetries : Prop :=
  (∀ (v : Serving) (identity : Digits) (now : Frame) (alia : Option AliasValue), v.c ≤ 10 →
    ((scheduleOf v alia identity).length = if v.phase = 0 then 2 else 3) ∧
    (scheduleOf v alia identity).residue = ((scheduleOf v alia identity).o + v.offset) % 2 ^ v.c ∧
    (pagingFirst now (scheduleOf v alia identity)).toNat % 2 ^ v.c = (scheduleOf v alia identity).residue ∧
    frameDist (now + 1) (pagingFirst now (scheduleOf v alia identity)) < 2 ^ v.c) ∧
  (∀ (p : PscSub) (d : Schedule) (now : Frame), p.schedule = some d →
    (p.count now).retry = (if p.retry = .none then .none else if now.toNat % d.cycle = d.residue then .due else .waiting)) ∧
  (∀ (s : State) (x : Sub), ((s.pscOf x).retry ≠ .due → ∃ t, exec (.pagingPlacementRetry x) s = .next t ∧ s.agrees t) ∧
    ∀ d, s.hasClaim x .pagingListen = false → s.placementTurn .pagingListen x = true → (s.pscOf x).schedule = some d →
      lowestFree s.rta.claims = none → (s.pscOf x).missed + (s.pscOf x).denied < 3 →
      ∃ t, exec (.pagingPlacementRetry x) s = .next t ∧
        t.pscOf x = { s.pscOf x with retry := .waiting, missed := (s.pscOf x).missed + 1 } ∧ t.rta = s.rta ∧ sameLink s.hlc t.hlc) ∧
  (∀ (s : State) (x : Sub), lowestFree s.rta.claims ≠ none →
    (∀ d, s.hasClaim x .pagingListen = false → s.placementTurn .pagingListen x = true → (s.pscOf x).schedule = some d →
      ∃ t i c, exec (.pagingPlacementRetry x) s = .next t ∧ t.claimOf x .pagingListen = some (i, c) ∧ c.state = .waiting ∧
        c.first = pagingFirst s.clock.now d ∧ c.slack = 0 ∧ c.length = d.length ∧ c.period = d.cycle ∧ (t.pscOf x).retry = .none ∧
        t.psc = { (State.recomputeWake { s with rta := t.rta }).psc with per := t.psc.per } ∧
        t.sge = s.sge ∧ t.cal = s.cal ∧ t.txt = s.txt ∧ t.mob = s.mob ∧ t.sbs = s.sbs ∧ sameLink s.hlc t.hlc) ∧
    (s.hasClaim x .measure = false → s.placementTurn .measure x = true →
      ∃ t i c, exec (.measurePlacementRetry x) s = .next t ∧ t.claimOf x .measure = some (i, c) ∧ c.state = .waiting ∧ c.later = false ∧
        c.first = s.clock.now + 1 ∧ c.slack = 15 ∧ c.length = 1 ∧
        c.period = (if 0 < (s.pscOf x).thr ∧ (s.pscOf x).relaxCount = (s.pscOf x).thr then (s.mobOf x).params.period * (s.pscOf x).factor
          else (s.mobOf x).params.period) ∧ (t.mobOf x).measRetry = none ∧
        t.psc = (State.recomputeWake { s with rta := t.rta }).psc ∧
        t.sge = s.sge ∧ t.cal = s.cal ∧ t.txt = s.txt ∧ t.sbs = s.sbs ∧ sameLink s.hlc t.hlc) ∧
    (s.hasClaim x .search = false → s.placementTurn .search x = true →
      ∃ t i c, exec (.searchPlacementRetry x) s = .next t ∧ t.claimOf x .search = some (i, c) ∧ c.state = .waiting ∧ c.later = false ∧
        c.first = s.clock.now + 1 ∧ c.slack = 15 ∧ c.length = 4 ∧ c.period = (s.mobOf x).params.searchInterval ∧ (t.mobOf x).searchRetry = none ∧
        t.psc = (State.recomputeWake { s with rta := t.rta }).psc ∧
        t.sge = s.sge ∧ t.cal = s.cal ∧ t.txt = s.txt ∧ t.sbs = s.sbs ∧ sameLink s.hlc t.hlc) ∧
    (s.hasClaim x .traffic = false → s.placementTurn .traffic x = true →
      ∃ t i c, exec (.trafficPlacementRetry x) s = .next t ∧ t.claimOf x .traffic = some (i, c) ∧ c.perFrame = true ∧
        c.state = (if (s.mobOf x).hoState = .access then .heldOut else .waiting) ∧ t.cal.trafficRetry.get x = .none ∧
        (s.claimsOk → t.claimInPlace x .signalling = false) ∧
        t.cal.contexts = s.cal.contexts ∧ t.sge = s.sge ∧ t.txt = s.txt ∧ t.sbs = s.sbs ∧ sameLink s.hlc t.hlc)) ∧
  (∀ (s g : State) (act : State → State) (l : List (ClaimKind × Sub)) (front back : List (ClaimKind × Sub)) (e : ClaimKind × Sub),
    g = act (s.setAsked (some [])) → g.rta.asked = some l → placementOrder = front ++ e :: back →
    (∀ f ∈ front, f ∉ l ∧ g.placementDue f.1 f.2 = false) → (e ∈ l ∨ (g.placementDue e.1 e.2 = true ∧ ∃ f ∈ back, f ∈ l)) →
    e.1 ≠ .handoverAccess → (e.1 = .pagingListen → (g.pscOf e.2).schedule ≠ none) → g.hasClaim e.2 e.1 = false →
    lowestFree g.rta.claims ≠ none → (s.inRankOrder act).hasClaim e.2 e.1 = true ∧ (s.inRankOrder act).rta.asked = s.rta.asked) ∧
  (∀ (s : State) (x : Sub), s.noneAsked → (s.serving x).any (·.barred) = false → ∃ t, t = s.enterCamped x ∧
    t.dlc.filters.get x = false ∧ t.dlc.filters.get x.other = s.dlc.filters.get x.other ∧
    ((s.record x).registration = .rejected → t.claimOf x .pagingListen = s.claimOf x .pagingListen) ∧
    ∀ d, (s.record x).registration ≠ .rejected → (s.pscOf x).schedule = some d → s.hasClaim x .pagingListen = false →
      (lowestFree s.rta.claims ≠ none → ∃ i c, t.claimOf x .pagingListen = some (i, c) ∧ c.state = .waiting ∧
        c.first = pagingFirst s.clock.now d ∧ c.slack = 0 ∧ c.length = d.length ∧ c.period = d.cycle ∧ (t.pscOf x).retry = .none) ∧
      (lowestFree s.rta.claims = none → t.hasClaim x .pagingListen = false ∧ (t.pscOf x).retry = .waiting)) ∧
  (∀ (s : State) (x : Sub), ∃ t, t = s.enterBusy x ∧ t.dlc.filters.get x = true ∧ (t.pscOf x).relaxCount = 0 ∧ (t.pscOf x).retry = .none ∧
    (s.claimsOk → t.claimInPlace x .pagingListen = false)) ∧
  (∀ (s : State) (x : Sub) (a : Activity) (g : State), a = s.derivedActivity x → a ≠ s.activity x → g = s.writeActivity x a →
    (a = .camped → s.derive x = (g.enterCamped x).updateStanding x) ∧
    (a.isBusy = true → s.derive x = (if (s.activity x).isBusy = true then g else g.enterBusy x).updateStanding x))

/-- The filter update, and every filtered level stays in range (R88). -/
def Obligations.FilterUpdateAndRange : Prop :=
  (∀ (k : Nat) (m : Int), -280 ≤ clampLevel m ∧ clampLevel m ≤ -60 ∧ (-280 ≤ m → m ≤ -60 → clampLevel m = m) ∧
      filtered k none m = 16 * clampLevel m ∧
      ∀ f : Int, filtered k (some f) m = f + (16 * clampLevel m - f).fdiv (2 ^ k) ∧
        filtered 0 (some f) m = 16 * clampLevel m ∧
        (16 * clampLevel m < f → filtered k (some f) m ≤ f - 1) ∧
        (f ≤ 16 * clampLevel m → 16 * clampLevel m - f < 2 ^ k → filtered k (some f) m = f) ∧
        (levelOk (some f) → levelOk (some (filtered k (some f) m)))) ∧
    ∀ s t : State, s.levelsOk → step s = .next t → t.levelsOk

/-- The ranking list holds what R95 says, in its order, and every step keeps it so and the cell ids apart (R89, R95, R103, R106, R112, R116). The one case left out, a swap during an access whose call has ended, is where R106 and R116 leave open what the failed access then restores (DESIGN CHOICE, log 49). -/
def Obligations.RankingListIsOrdered : Prop :=
  (∀ (table : List (Option Neighbour)) (q : Int),
    (∀ i, i ∈ rankingOf table q ↔ ∃ n f, entryAt table i = some n ∧ n.state = .tracked ∧ n.f = some f ∧ q ≤ rounded f) ∧
    (rankingOf table q).Nodup ∧
    (rankingOf table q).Pairwise fun i j => ∃ n m, entryAt table i = some n ∧ entryAt table j = some m ∧
      (m.rankValue.getD 0 < n.rankValue.getD 0 ∨ (m.rankValue = n.rankValue ∧ i < j))) ∧
  (∀ s t : State, s.tablesOk → s.callsOk → s.readsApart → s.mob.a.tablesOk ∧ s.mob.b.tablesOk → step s = .next t → t.mob.a.tablesOk ∧ t.mob.b.tablesOk)

/-- The cells a MEASURE order lists, and what their result does to the serving cell, the neighbours, the ranking list and the trigger (R52, R90, R93, R94, R96, R97, R113, R24, R92, R95, R110). That a serving entry set aside leaves the floor run also where Fs is absent or below Qmin is the model's choice (DESIGN CHOICE, log 62). -/
def Obligations.MeasurementResults : Prop :=
  (∀ (s : State) (entries : List (Option Int)),
    (∀ u, s.rta.unit = some u → u.kind = .measure → u.result = none →
      ∃ t, exec (.measurementResult entries) s = .next t ∧
        ({ s with rta := { s.rta with unit := some { u with result := some (entries.take u.cells.length) } } } : State).agrees t) ∧
    ((∀ u, s.rta.unit = some u → u.kind ≠ .measure ∨ u.result ≠ none) →
      ∃ t, exec (.measurementResult entries) s = .next t ∧ s.agrees t)) ∧
  (∀ (k : Nat) (n : Neighbour),
    (∀ m, n.measured k (some m) = { n with state := .tracked, miss := 0, f := some (filtered k (if n.state = .tracked then n.f else none) m) }) ∧
    (n.state = .lost → n.measured k none = n) ∧
    (n.state ≠ .lost → n.miss < 2 → n.measured k none = { n with miss := n.miss + 1 }) ∧
    (n.state = .tracked → n.miss = 2 → n.measured k none = { n with state := .lost, f := none, miss := 3, trigger := 0 }) ∧
    (n.state = .unmeasured → n.miss = 2 → n.measured k none = { n with state := .lost, miss := 3 })) ∧
  (∀ m : MobSub,
    (∀ i n, m.candidate = some (i, n) ↔ m.ranking.head? = some i ∧ entryAt m.neighbours i = some n ∧
      ∃ rs v, m.servingRank = some rs ∧ n.rankValue = some v ∧ rs < v) ∧
    (m.candidate = none → m.trigger.1 = none ∧ m.trigger.2.fired = false ∧ ∀ j e, entryAt m.trigger.2.neighbours j = some e → e.trigger = 0) ∧
    ∀ i n count, m.candidate = some (i, n) → count = (if 0 < n.trigger then min 15 (n.trigger + 1) else 1) →
      entryAt m.trigger.2.neighbours i = some { n with trigger := count } ∧
      (m.trigger.1 = some i ↔ m.params.ttt ≤ count ∧ (0 < n.trigger → m.fired = false)) ∧
      (n.trigger = 0 → ∀ j e, j ≠ i → entryAt m.trigger.2.neighbours j = some e → e.trigger = 0)) ∧
  (∀ m : MobSub, m.neighbours.length = 16 →
    m.measureCells = (match m.serving with
      | some v => ⟨none, v.cellId, v.freq⟩ :: m.listedNeighbours
      | none => m.listedNeighbours) ∧
    m.listedNeighbours.length ≤ 7 ∧
    (∀ c ∈ m.listedNeighbours, ∃ i n, entryAt m.neighbours i = some n ∧ c = ⟨some i, n.cellId, n.freq⟩) ∧
    (m.listedNeighbours.filterMap (·.index)).Pairwise (fun i j =>
      (i + 16 - m.rotation % 16) % 16 < (j + 16 - m.rotation % 16) % 16) ∧
    ∀ i n, entryAt m.neighbours i = some n → (⟨some i, n.cellId, n.freq⟩ : ListedCell) ∈ m.listedNeighbours ∨
      m.listedNeighbours.length = 7 ∧ ∀ j ∈ m.listedNeighbours.filterMap (·.index),
        (j + 16 - m.rotation % 16) % 16 < (i + 16 - m.rotation % 16) % 16) ∧
  (∀ (s : State) (x : Sub) (m : MobSub) (v : Serving) (cellId freq : Nat) (cells : List ListedCell) (result : Option (List (Option Int)))
    (entry : Option Int) (fs : Option Int) (run : Nat), s.activityOk → m = s.mobOf x → m.serving = some v →
    (∀ c ∈ cells, c.index ≠ none) → cells.Pairwise (fun c d => c.index ≠ d.index) → entry = (((result.getD [])[0]?).getD none) →
    fs = (match entry with
      | some level => if v.cellId = cellId then some (filtered m.params.k v.fs level) else v.fs
      | none => v.fs) →
    run = (if v.cellId ≠ cellId then v.floorRun
      else if entry ≠ none ∧ ∃ f, fs = some f ∧ v.qmin ≤ rounded f then 0 else v.floorRun + 1) →
    (m.hoState ≠ .access → run < 4 → ∃ (q : MobSub) (t : State),
      t = s.measureEnded x .done (⟨none, cellId, freq⟩ :: cells) result ∧
      t = (s.onMobOf x fun _ => { q.trigger.2 with serving := some { v with fs := fs, floorRun := run } }).afterResult x q.trigger.1 ∧
      (∀ j i id f n, cells[j]? = some ⟨some i, id, f⟩ → entryAt m.neighbours i = some n →
        entryAt q.neighbours i = some (if n.cellId = id then n.measured m.params.k (((result.getD [])[j + 1]?).getD none) else n)) ∧
      (∀ i, (∀ c ∈ cells, c.index ≠ some i) → entryAt q.neighbours i = entryAt m.neighbours i) ∧
      (∀ i, entryAt m.neighbours i = none → entryAt q.neighbours i = none) ∧
      (cells = [] → q.rotation = m.rotation) ∧ (∀ c i, cells.getLast? = some c → c.index = some i → q.rotation = (i + 1) % 16) ∧
      q.ranking = rankingOf q.neighbours v.qmin ∧
      q = { m with serving := some { v with fs := fs }, neighbours := q.neighbours, ranking := q.ranking, rotation := q.rotation } ∧
      t.serving x = some { v with fs := fs, floorRun := run } ∧ (t.mobOf x).rotation = q.rotation ∧ (t.mobOf x).ranking = q.ranking ∧
      (∀ i n, entryAt q.neighbours i = some n → ∃ count, entryAt (t.mobOf x).neighbours i = some { n with trigger := count }) ∧
      (q.trigger.1 = none → (t.mobOf x).neighbours = q.trigger.2.neighbours ∧ (t.mobOf x).fired = q.trigger.2.fired) ∧
      (t.mobOf x).guard = m.guard - 1 ∧ (t.pscOf x).level = fs.map rounded ∧ (t.pscOf x).qmin = some v.qmin) ∧
    (m.hoState ≠ .access → 4 ≤ run → ∃ t, t = s.measureEnded x .done (⟨none, cellId, freq⟩ :: cells) result ∧
      t.serving x = none ∧ t.activity x = .noService) ∧
    (m.hoState = .access → ∀ code r, s.measureEnded x code (⟨none, cellId, freq⟩ :: cells) r = s) ∧
    ∀ code r, code ≠ .done → s.measureEnded x code (⟨none, cellId, freq⟩ :: cells) r = s)

/-- The frequency a SEARCH takes, the usable beacon it keeps and camps on, with MEASURE placed and SEARCH withdrawn, and what a beacon of the serving cell refreshes (R103, R91, R101, R100, R66, R24, R102). -/
def Obligations.SearchKeepsAUsableBeacon : Prop :=
  (∀ (s : State) (frame : Frame) (b : BeaconBlock) (h : Holder) (u : RadioUnit), s.holderOf frame = some h → h.kind = .search →
      s.rta.unit = some u → u.sub = h.sub → u.kind = .search → u.first = h.unitFirst →
      (∀ v, s.serving h.sub = some v → v.cellId ≠ b.cellId) → beaconOk b = true →
      (b.barred = false → b.qmin ≤ clampLevel b.level → u.kept = none → ∃ t, exec (.beaconBlock frame true b) s = .next t ∧
        ({ s with rta := { s.rta with unit := some { u with kept := some b } } } : State).agrees t) ∧
      ((b.barred = true ∨ clampLevel b.level < b.qmin ∨ u.kept ≠ none) → ∃ t, exec (.beaconBlock frame true b) s = .next t ∧ s.agrees t)) ∧
  (∀ (s : State) (x : Sub) (freq : Nat) (b : BeaconBlock), s.activity x = .noService →
      (s.searchEnded x .done freq (some b)).serving x = some ⟨b.cellId, freq, b.area, b.offset, b.phase, b.c, b.qmin, false,
        some (16 * clampLevel b.level), 0, true⟩ ∧
      ((s.searchEnded x .done freq (some b)).activity x).isCampedState = true ∧
      (∀ n, some n ∈ ((s.searchEnded x .done freq (some b)).mobOf x).neighbours → n.cellId ≠ b.cellId) ∧
      (s.claimsOk → (s.searchEnded x .done freq (some b)).claimInPlace x .search = false) ∧
      (s.noneAsked → s.hasClaim x .measure = false → s.rta.claims.length = 12 → (taken s.rta.claims).length ≤ 9 →
        ∃ t i c, t = s.searchEnded x .done freq (some b) ∧ t.claimOf x .measure = some (i, c) ∧ c.state = .waiting ∧
          c.first = s.clock.now + 1 ∧ c.slack = 15 ∧ c.length = 1 ∧ c.period = (if 0 < (t.pscOf x).thr ∧ (t.pscOf x).relaxCount = (t.pscOf x).thr
            then (s.mobOf x).params.period * (t.pscOf x).factor else (s.mobOf x).params.period) ∧ c.later = false ∧
          (t.mobOf x).measRetry = none)) ∧
  (∀ (s : State) (x : Sub) (code : EndCode) (freq : Nat) (kept : Option BeaconBlock),
    (code ≠ .done ∨ kept = none ∨ s.activity x ≠ .noService) → s.searchEnded x code freq kept = s) ∧
  (∀ (s : State) (frame : Frame) (b : BeaconBlock) (h : Holder) (v : Serving), s.holderOf frame = some h →
    (h.kind = .beaconRead ∨ h.kind = .search) → beaconOk b = true → s.serving h.sub = some v → v.cellId = b.cellId → s.activityOk →
    ((b.barred = false ∨ s.activity h.sub ≠ .camped) → ∃ t, exec (.beaconBlock frame true b) s = .next t ∧
      t.serving h.sub = some { v with
        area := b.area, offset := b.offset, phase := b.phase, c := b.c, qmin := b.qmin, barred := b.barred, confirmed := true } ∧
      (v.offset = b.offset → v.phase = b.phase → t.rta.copies = s.rta.copies ∧
        (v.c = b.c → (t.pscOf h.sub).schedule = (s.pscOf h.sub).schedule)) ∧
      ((v.offset ≠ b.offset ∨ v.phase ≠ b.phase) → t.rta.copies.get h.sub = some ⟨v.freq, b.offset, b.phase⟩) ∧
      (∀ identity, (v.offset ≠ b.offset ∨ v.phase ≠ b.phase ∨ v.c ≠ b.c) → (s.record h.sub).identity = some identity →
        (t.pscOf h.sub).schedule = some (scheduleOf { v with offset := b.offset, phase := b.phase, c := b.c } (s.record h.sub).aliasVal identity)) ∧
      (v.qmin = b.qmin → (t.mobOf h.sub).ranking = (s.mobOf h.sub).ranking ∧ (t.mobOf h.sub).neighbours = (s.mobOf h.sub).neighbours) ∧
      (v.qmin ≠ b.qmin → (t.mobOf h.sub).ranking = rankingOf (s.mobOf h.sub).neighbours b.qmin ∧ (t.mobOf h.sub).fired = false ∧
        (t.mobOf h.sub).neighbours = (s.mobOf h.sub).neighbours.map (Option.map fun n => { n with trigger := 0 }) ∧
        (t.pscOf h.sub).level = v.fs.map rounded ∧ (t.pscOf h.sub).qmin = some b.qmin) ∧
      (v.area = b.area → t.sge = s.sge ∧ (t.record h.sub).registration = (s.record h.sub).registration) ∧
      (v.area ≠ b.area → (s.record h.sub).dueFor b.area = true → s.activity h.sub.other ≠ .inCall →
        s.takesOffer h.sub (s.areaOffer h.sub b.area) = true → (t.record h.sub).registration = .updating ∧ t.hasTxn h.sub .area = true) ∧
      t.mobOf h.sub.other = s.mobOf h.sub.other ∧ t.cal = s.cal ∧ t.txt = s.txt ∧ t.vcp = s.vcp) ∧
    (b.barred = true → s.activity h.sub = .camped → ∃ t, exec (.beaconBlock frame true b) s = .next t ∧ t.activity h.sub = .noService ∧
      t.serving h.sub = none ∧ (t.mobOf h.sub).lastFreq = some v.freq)) ∧
  (∀ m : MobSub, m.searchList.Nodup ∧
    (∀ f, f ∈ m.searchList ↔ (∃ n, some n ∈ m.neighbours ∧ n.freq = f) ∨ m.lastFreq = some f) ∧
    (∀ (a b f g : Nat), a < b → m.searchList[a]? = some f → m.searchList[b]? = some g → (∃ n, some n ∈ m.neighbours ∧ n.freq = f) ∧
      ∀ j n, entryAt m.neighbours j = some n → n.freq = g → ∃ i k, i < j ∧ entryAt m.neighbours i = some k ∧ k.freq = f) ∧
    (m.searchList = [] → m.takeSearchFreq = (m.bandScan, { m with bandScan := (m.bandScan + 1) % 2048 })) ∧
    ∀ f place, m.searchList ≠ [] → place = m.searchPos % m.searchList.length → m.searchList[place]? = some f →
      m.takeSearchFreq = (f, { m with searchPos := place + 1 }))

/-- A firing reads the head of the list in CAMPED, reports in IN_CALL; the read swaps the cells or fails, and an unconfirmed record is read again (R104, R105, R106, R107, R108, R109, R110). That a read may also succeed during an access whose call has ended is what R106's conditions say; what a failed access then restores is the model's choice (DESIGN CHOICE, log 49). The placements stand in the order of log 4. -/
def Obligations.ReselectionReads : Prop :=
  (∀ (s : State) (x : Sub) (i : Nat) (n : Neighbour), s.activity x = .camped → entryAt (s.mobOf x).neighbours i = some n →
    ∃ t, t = s.inRankOrder (fun s => s.actOnFiring x i) ∧
    (n.allowed = true → s.hasClaim x .beaconRead = false → s.placementsDue = [] →
      (lowestFree s.rta.claims ≠ none → (t.mobOf x).readPurpose = some (.reselect i n.cellId) ∧
        ∃ j c, t.claimOf x .beaconRead = some (j, c) ∧ c.state = .waiting ∧ c.first = s.clock.now + 1 ∧ c.slack = 15 ∧ c.length = 4 ∧
          c.period = 0 ∧ c.later = false) ∧
      (lowestFree s.rta.claims = none → entryAt (t.mobOf x).neighbours i = some { n with trigger := 0 } ∧ (t.mobOf x).fired = false ∧
        (t.mobOf x).readPurpose = none ∧ t.rta = s.rta)) ∧
    ((n.allowed = false ∨ s.hasClaim x .beaconRead = true) → t = s.onMobOf x fun m => { m with fired := false })) ∧
  (∀ (s : State) (x : Sub) (i : Nat) (n : Neighbour) (v : Serving) (m : MobSub) (g : Msg), s.activity x = .inCall → m = s.mobOf x →
    entryAt m.neighbours i = some n → m.serving = some v →
    g = ⟨some .mob, s.nextFreeIdent x, true, .measReport (v.fs.map rounded)
      ((m.ranking.take 3).filterMap fun j => (entryAt m.neighbours j).bind fun e => e.f.map fun f => (e.cellId, rounded f)), 0⟩ →
    (m.hoState ≠ .access → s.hasTxn x .measReport = false → m.guard = 0 →
      (s.takes x .mob = true → s.activityOk → ∃ t j, t = s.actOnFiring x i ∧ t.mob = s.mob ∧ lowestFree s.sge.txns = some j ∧
        t.sge.txns = s.sge.txns.set j (some ⟨x, .measReport, g.ident, .mob, .queued, none, none, none⟩) ∧
        ((s.sge.queues.get x).length < 6 → t.sge.queues.get x = s.sge.queues.get x ++ [g] ∧ t.sge.holds = s.sge.holds) ∧
        (6 ≤ (s.sge.queues.get x).length → t.sge.queues = s.sge.queues ∧ t.sge.holds.get x = s.sge.holds.get x ++ [g]) ∧
        t.cal = s.cal ∧ t.txt = s.txt ∧ t.vcp = s.vcp) ∧
      (s.takes x .mob = false → s.actOnFiring x i = s.onMobOf x fun m => { m with fired := false })) ∧
    ((m.hoState = .access ∨ s.hasTxn x .measReport = true ∨ 0 < m.guard) →
      s.actOnFiring x i = s.onMobOf x fun m => { m with fired := false })) ∧
  (∀ (s : State) (x : Sub) (i : Nat), s.activity x ≠ .camped → s.activity x ≠ .inCall →
    s.actOnFiring x i = s.onMobOf x fun m => { m with fired := false }) ∧
  (∀ (s g : State) (x : Sub) (fires : Option Nat), g = ((s.giveServingLevel x).onMobOf x fun m => { m with guard := m.guard - 1 }) →
    s.afterResult x fires = State.refreshRead x (match fires with
      | none => g
      | some i => g.actOnFiring x i)) ∧
  (∀ (s : State) (frame : Frame) (b : BeaconBlock) (h : Holder) (u : RadioUnit) (i cellId : Nat), s.holderOf frame = some h →
    h.kind = .beaconRead → s.rta.unit = some u → u.sub = h.sub → u.kind = .beaconRead → u.first = h.unitFirst → beaconOk b = true →
    (s.mobOf h.sub).readPurpose = some (.reselect i cellId) → (∀ v, s.serving h.sub = some v → v.cellId ≠ b.cellId) →
    ∃ t g, exec (.beaconBlock frame true b) s = .next t ∧ ({ s with rta := { s.rta with unit := some g } } : State).agrees t ∧
      g = if b.cellId = cellId ∧ u.kept = none then { u with kept := some b } else u) ∧
  (∀ (s : State) (x : Sub) (i cellId : Nat) (v : Serving) (n : Neighbour), (s.mobOf x).readPurpose = some (.reselect i cellId) →
    s.serving x = some v → entryAt (s.mobOf x).neighbours i = some n → n.cellId = cellId →
    (∀ b, s.activity x = .camped → usableBeacon b = true →
      (s.readEnded x .done (some b)).serving x = some ⟨n.cellId, n.freq, b.area, b.offset, b.phase, b.c, b.qmin, false,
        if n.state = .tracked then n.f else none, 0, true⟩ ∧
      entryAt ((s.readEnded x .done (some b)).mobOf x).neighbours i = some ⟨v.cellId, v.freq, 0, true,
        if v.fs.isSome then .tracked else .unmeasured, v.fs, 0, 0⟩ ∧
      ((s.readEnded x .done (some b)).mobOf x).readPurpose = none ∧
      (s.readEnded x .done (some b)).rta.copies.get x = some ⟨n.freq, b.offset, b.phase⟩ ∧
      (s.hlc.queue.length < 32 →
        ⟨.report (.cellChanged x v.cellId n.cellId b.area), false, false⟩ ∈ (s.readEnded x .done (some b)).hlc.queue)) ∧
    ∀ code kept, (code = .missed ∨ code = .denied ∨ code = .radioFault ∨
        (code = .done ∧ (s.activity x ≠ .camped ∨ ∀ b, kept = some b → b.barred = true ∨ clampLevel b.level < b.qmin))) →
      s.readEnded x code kept = s.onMobOf x fun m =>
        { m.setTrigger i 0 with readPurpose := none, fired := false }) ∧
  (∀ (s : State) (x : Sub) (v : Serving), s.serving x = some v →
    (s.activity x = .camped → v.confirmed = false → s.hasClaim x .beaconRead = false →
      (∀ fires, (fires = none ∨ ∃ i n, fires = some i ∧ entryAt (s.mobOf x).neighbours i = some n ∧ n.allowed = false) →
        s.placementsDue = [] → lowestFree s.rta.claims ≠ none → ∃ t j c, t = s.inRankOrder (fun s => s.afterResult x fires) ∧
          (t.mobOf x).readPurpose = some .refresh ∧ t.claimOf x .beaconRead = some (j, c) ∧ c.state = .waiting ∧
          c.first = s.clock.now + 1 ∧ c.slack = 15 ∧ c.length = 4 ∧ c.period = 0 ∧ c.later = false) ∧
      (s.noneAsked → v.barred = false → s.rta.claims.length = 12 → (taken s.rta.claims).length ≤ 10 →
        ((s.enterCamped x).mobOf x).readPurpose = some .refresh ∧ ∃ j c, (s.enterCamped x).claimOf x .beaconRead = some (j, c) ∧
          c.state = .waiting ∧ c.first = s.clock.now + 1 ∧ c.slack = 15 ∧ c.length = 4 ∧ c.period = 0 ∧ c.later = false)) ∧
    ((s.activity x ≠ .camped ∨ v.confirmed = true ∨ s.hasClaim x .beaconRead = true) → s.refreshRead x = s) ∧
    ∀ code kept, (s.mobOf x).readPurpose = some .refresh → s.readEnded x code kept = s.onMobOf x fun m => { m with readPurpose := none })

/-- A handover command that arrives in a SIGNAL block is taken, or discarded (R110, R111, R112, R12, R38, R39, R145, R49). -/
def Obligations.HandoverCommandIsTaken : Prop :=
  (∀ (s : State) (frame : Frame) (b : SignalBlock) (h : Holder) (v : Serving) (cellId freq offset phase access : Nat), s.hears frame h b →
    b.code = 12 → b.body = .handover cellId freq offset phase access → s.serving h.sub = some v → s.activityOk →
    (s.activity h.sub = .inCall → (s.mobOf h.sub).hoState ≠ .access → v.cellId ≠ cellId → s.sge.waiters = [] →
      s.claimInPlace h.sub .traffic = true → lowestFree s.rta.claims ≠ none →
      ∃ t r q, exec (.signalBlock frame true b) s = .next t ∧ (t.mobOf h.sub).hoState = .access ∧
        q = (s.mobOf h.sub).takeTarget v ⟨cellId, freq, offset, phase, access, BitVec.ofNat 4 b.ident⟩ ∧ q.returnRec = some r ∧
        (t.mobOf h.sub).neighbours = q.neighbours.map (Option.map fun n => { n with trigger := 0 }) ∧
        t.serving h.sub = some ⟨cellId, freq, v.area, offset, phase, v.c, v.qmin, false, (s.mobOf h.sub).trackedLevel cellId, 0, false⟩ ∧
        (t.mobOf h.sub).hoCmd = some ⟨access, BitVec.ofNat 4 b.ident, freq, offset, phase⟩ ∧ (t.mobOf h.sub).returnRec = some r ∧ r.serving = v ∧
        t.rta.copies.get h.sub = some ⟨freq, offset, phase⟩ ∧ t.vcp.handover = true ∧
        (∀ i c, s.claimOf h.sub .traffic = some (i, c) → ∃ g, entryAt t.rta.claims i = some g ∧
          (c.state = .running → g.suspend = true) ∧ (c.state ≠ .running → g.state = .heldOut)) ∧
        (s.hasClaim h.sub .handoverAccess = false → ∃ i c, t.claimOf h.sub .handoverAccess = some (i, c) ∧ c.state = .waiting ∧
          c.first = s.clock.now + 1 ∧ c.slack = 8 ∧ c.length = 4 ∧ c.period = 0) ∧
        (s.hasTxn h.sub .measReport = true → (t.mobOf h.sub).guard = (s.mobOf h.sub).params.ttt) ∧
        t.activity h.sub = .inCall ∧ t.cal.contexts = s.cal.contexts) ∧
    ((s.activity h.sub ≠ .inCall ∨ (s.mobOf h.sub).hoState = .access ∨ v.cellId = cellId) → s.hasTxn h.sub .measReport = false →
      ∃ t, exec (.signalBlock frame true b) s = .next t ∧ t.serving h.sub = some v ∧
        (t.mobOf h.sub).returnRec = (s.mobOf h.sub).returnRec ∧ (t.mobOf h.sub).neighbours = (s.mobOf h.sub).neighbours ∧
        t.rta.copies = s.rta.copies ∧ t.vcp = s.vcp ∧ t.cal = s.cal ∧ t.sge.queues = s.sge.queues)) ∧
  (∀ (m : MobSub) (v : Serving) (g : HoTarget), m.serving = some v →
    (m.takeTarget v g).hoState = .access ∧
    (m.takeTarget v g).serving = some ⟨g.cellId, g.freq, v.area, g.offset, g.phase, v.c, v.qmin, false, m.trackedLevel g.cellId, 0, false⟩ ∧
    ∃ r, (m.takeTarget v g).returnRec = some r ∧ r.serving = v ∧ r.slot.restore (m.takeTarget v g).neighbours = m.neighbours ∧
      (∀ i, m.slotFor g.cellId = some i → r.slot = .slot i (entryAt m.neighbours i) ∧
        entryAt (m.takeTarget v g).neighbours i = some ⟨v.cellId, v.freq, 0, true,
          if v.fs.isSome then .tracked else .unmeasured, v.fs, 0, 0⟩ ∧
        ∀ j, j ≠ i → entryAt (m.takeTarget v g).neighbours j = entryAt m.neighbours j) ∧
      (m.slotFor g.cellId = none → r.slot = .noSlot ∧ (m.takeTarget v g).neighbours = m.neighbours)) ∧
  (∀ (m : MobSub) (target : Nat),
    (∀ i n, entryAt m.neighbours i = some n → n.cellId = target →
      (∀ j k, j < i → entryAt m.neighbours j = some k → k.cellId ≠ target) → m.slotFor target = some i) ∧
    ((∀ j k, entryAt m.neighbours j = some k → k.cellId ≠ target) →
      (∀ i, i < m.neighbours.length → entryAt m.neighbours i = none → (∀ j, j < i → entryAt m.neighbours j ≠ none) →
        m.slotFor target = some i) ∧
      ((∀ i, i < m.neighbours.length → entryAt m.neighbours i ≠ none) →
        (∀ i n, entryAt m.neighbours i = some n → n.state = .lost →
          (∀ j k, j < i → entryAt m.neighbours j = some k → k.state ≠ .lost) → m.slotFor target = some i) ∧
        ((∀ j k, entryAt m.neighbours j = some k → k.state ≠ .lost) → m.slotFor target = none)))) ∧
  (∀ (s : State) (i : Nat) (c : Claim) (cmd : HoCommand), c.kind = .handoverAccess → (s.mobOf c.sub).hoCmd = some cmd →
    ((s.startUnit i c).rpt.order.map fun o => (o.kind, o.freq, o.offset, o.phase, o.length, o.content)) =
      some (.connectedFrame, cmd.cell.freq, cmd.cell.offset, cmd.cell.phase, c.length, .access cmd.access))

/-- The end of a HANDOVER_ACCESS unit keeps the new cell or returns to the old one (R114, R115, R116, R38, R39, R43, R50, R145). That the return counter is 0 where no check begins is the model's choice (DESIGN CHOICE, log 68). -/
def Obligations.HandoverAccessIsDecided : Prop :=
  ∀ (s : State) (u : RadioUnit) (r : ReturnRecord) (cmd : HoCommand) (v : Serving), s.rta.unit = some u → u.kind = .handoverAccess →
    u.withdrawn = false → (s.mobOf u.sub).returnRec = some r → (s.mobOf u.sub).hoCmd = some cmd → s.serving u.sub = some v →
    s.activityOk → s.claimsOk → s.activity u.sub = .inCall →
    (s.rpt.order = none → u.length ≤ frameDist u.first (s.clock.now + 1) → u.goodNotice = true →
      ∃ t, exec .frameBoundary s = .next t ∧ t.serving u.sub = some v ∧ (t.mobOf u.sub).hoState = .none ∧
        (t.mobOf u.sub).returnRec = none ∧ (t.mobOf u.sub).hoCmd = none ∧ t.vcp.handover = false ∧ t.vcp.resync = true ∧
        ((s.sge.queues.get u.sub).length < 5 → ⟨some .mob, cmd.ident, false, .hoComplete cmd.access, 0⟩ ∈ t.sge.queues.get u.sub) ∧
        (s.hlc.queue.length < 32 → ⟨.report (.handoverDone u.sub r.serving.cellId v.cellId), false, false⟩ ∈ t.hlc.queue) ∧
        (∀ i c, s.claimOf u.sub .traffic = some (i, c) → c.state = .heldOut → ∃ g, entryAt t.rta.claims i = some g ∧ g.state ≠ .heldOut)) ∧
    ∀ c, ((c = .frameBoundary ∧ s.rpt.order = none ∧ u.length ≤ frameDist u.first (s.clock.now + 1) ∧ u.goodNotice = false) ∨
        (∃ o errors, s.rpt.order = some o ∧ errors ≠ [] ∧ c = .orderAck o.tag errors) ∨ (s.rpt.order ≠ none ∧ c = .orderDeadline)) →
      ∃ t, exec c s = .next t ∧ t.serving u.sub = some { r.serving with floorRun := 0 } ∧
        (t.mobOf u.sub).neighbours = (r.slot.restore (s.mobOf u.sub).neighbours).map (Option.map fun n => { n with trigger := 0 }) ∧
        (t.mobOf u.sub).returnRec = none ∧ (t.mobOf u.sub).hoCmd = none ∧
        (t.mobOf u.sub).hoState = (if s.claimInPlace u.sub .traffic then .returnCheck else .none) ∧
        (t.mobOf u.sub).returnCounter = (if s.claimInPlace u.sub .traffic then 64 else 0) ∧
        t.rta.copies.get u.sub = some ⟨r.serving.freq, r.serving.offset, r.serving.phase⟩ ∧ t.vcp.handover = false ∧ t.vcp.resync = true ∧
        ((s.sge.queues.get u.sub).length < 6 → ⟨some .mob, cmd.ident, false, .hoFailure cmd.access, 0⟩ ∈ t.sge.queues.get u.sub)

/-- The return counter at 0 ends the calls HANDOVER_LOST and loses the cell (R117, R118, R24, R134). -/
def Obligations.SecondFailureLosesTheCall : Prop :=
  ∀ (s : State) (x : Sub) (v : Serving), (s.mobOf x).hoState = .returnCheck → (s.mobOf x).returnCounter = 0 →
    (s.activity x).isCampedState = true → s.serving x = some v →
    ∃ t, exec (.returnCounterExpiry x) s = .next t ∧ t.activity x = .noService ∧ t.serving x = none ∧ (t.mobOf x).lastFreq = some v.freq ∧
      (t.mobOf x).hoState = .none ∧ t.hasCtx x = false ∧ t.txnsOf x = [] ∧ t.dlc.filters.get x = false ∧
      (s.sge.waiters = [] → t.activity x.other = s.activity x.other) ∧ t.sge.queues.get x = [] ∧
      ∀ i ∈ ctxIndexes, s.ctxOf x i = true → (s.ctx i).state ≠ .releasing → (s.ctx i).screenedOut = false → s.hlc.queue.length ≤ 29 →
        ⟨.report (.callEnded x i (s.ctx i).callRef (s.ctx i).direction .handoverLost none), false, false⟩ ∈ t.hlc.queue

/-- A ring timeout, REJECT and HANG_UP release a context with their causes, and TRAFFIC goes where the last context goes IDLE (R122, R132, R135, R163). BAD_PARAM for a header that names a subscription is read from R163 (DEDUCED, log 13). The subscription byte of a RESULT is the request's own, and none where the request's byte names no valid one (DESIGN CHOICE, log 15). That a context gone IDLE holds subscription A, direction INCOMING and call reference 0 is the model's choice (DESIGN CHOICE, log 50). -/
def Obligations.ReleaseEndsACall : Prop :=
  (∀ (s : State) (f : HostFrame) (rest : List HostFrame) (body : List Byte) (i : Nat) (c : Instr) (cause : Cause), i < 3 →
    ((c = .ringTimeout i ∧ (s.ctx i).state = .offered ∧ (s.ctx i).answerPending = false ∧ (s.ctx i).ring = some 0 ∧ cause = .noAnswer) ∨
      (c = .reject ∧ s.asks f rest 12 body ∧ f.sub = 0xFF ∧ readAll readNat body = some i ∧ (s.ctx i).state = .offered ∧ cause = .rejected) ∨
      (c = .hangUp ∧ s.asks f rest 13 body ∧ f.sub = 0xFF ∧ readAll readNat body = some i ∧ (s.ctx i).state ≠ .idle ∧
        (s.ctx i).state ≠ .releasing ∧ cause = .hostRelease)) →
    (s.takes (s.ctx i).sub (.ctx i) = true → ∃ t, exec c s = .next t ∧
      t.ctx i = { s.ctx i with state := .releasing, endCause := some cause, ring := none, answerPending := false, connectWaiting := false } ∧
      t.hasTxn (s.ctx i).sub .release = true ∧ (c = .reject → f.result 12 .ok [] ∈ t.hlc.results) ∧
      (c = .hangUp → f.result 13 .ok [] ∈ t.hlc.results)) ∧
    (s.takes (s.ctx i).sub (.ctx i) = false → ∃ t, exec c s = .next t ∧ t.ctx i = Reset.context ∧
      ((s.ctx i).screenedOut = false → ((c = .ringTimeout i ∧ s.hlc.queue.length < 32) ∨
          (c ≠ .ringTimeout i ∧ (s.heard rest).hlc.queue.length < 32)) →
        ⟨.report (.callEnded (s.ctx i).sub i (s.ctx i).callRef (s.ctx i).direction cause none), false, false⟩ ∈ t.hlc.queue) ∧
      (s.claimsOk → (∀ j, j ≠ i → s.ctxOf (s.ctx i).sub j = false) → t.claimInPlace (s.ctx i).sub .traffic = false) ∧
      (c = .reject → f.result 12 .ok [] ∈ t.hlc.results) ∧ (c = .hangUp → f.result 13 .ok [] ∈ t.hlc.results))) ∧
  (∀ (s : State) (f : HostFrame) (rest : List HostFrame) (body : List Byte),
    (s.asks f rest 12 body →
      ((f.sub ≠ 0xFF ∨ readAll readNat body = none ∨ ∃ j, readAll readNat body = some j ∧ 2 < j) → Refuses .reject 12 .badParam s f rest) ∧
      (∀ j, f.sub = 0xFF → readAll readNat body = some j → j ≤ 2 → (s.ctx j).state ≠ .offered → Refuses .reject 12 .state s f rest)) ∧
    (s.asks f rest 13 body →
      ((f.sub ≠ 0xFF ∨ readAll readNat body = none ∨ ∃ j, readAll readNat body = some j ∧ 2 < j) → Refuses .hangUp 13 .badParam s f rest) ∧
      (∀ j, f.sub = 0xFF → readAll readNat body = some j → j ≤ 2 → ((s.ctx j).state = .idle ∨ (s.ctx j).state = .releasing) →
        Refuses .hangUp 13 .state s f rest)))

/-- DIAL takes the lowest free context and opens a SETUP transaction (R119, R128). The subscription byte of a RESULT is the request's own, and none where the request's byte names no valid one (DESIGN CHOICE, log 15). -/
def Obligations.DialOriginatesACall : Prop :=
  ∀ (s : State) (f : HostFrame) (rest : List HostFrame) (body : List Byte), s.asks f rest 10 body →
    ((headerSub f.sub = some none ∨ headerSub f.sub = none ∨ readAll readDigits body = none) → Refuses .dial 10 .badParam s f rest) ∧
    ∀ x d, headerSub f.sub = some (some x) → readAll readDigits body = some d →
      (digitsOk 1 20 d = false → Refuses .dial 10 .badParam s f rest) ∧
      (digitsOk 1 20 d = true →
        (s.activity x = .detached → Refuses .dial 10 .state s f rest) ∧
        (s.activity x = .noService → Refuses .dial 10 .noService s f rest) ∧
        ((s.activity x).isCampedState = true → (s.activity x.other).isBusy = true → Refuses .dial 10 .busyOther s f rest) ∧
        ((s.activity x).isCampedState = true → (s.activity x.other).isBusy = false →
          (∃ i, i < 3 ∧ s.ctxOf x i = true ∧ ((s.ctx i).state = .active ∨ (s.ctx i).state.settling = true)) →
          Refuses .dial 10 .state s f rest) ∧
        ((s.activity x).isCampedState = true → (s.activity x.other).isBusy = false →
          (∀ i, i < 3 → s.ctxOf x i = true → (s.ctx i).state ≠ .active ∧ (s.ctx i).state.settling = false) →
          (s.freeCtx = none → Refuses .dial 10 .limit s f rest) ∧
          (∀ i, s.freeCtx = some i → s.takes x (.ctx i) = false → Refuses .dial 10 .busy s f rest) ∧
          (∀ i, s.freeCtx = some i → s.takes x (.ctx i) = true → s.cal.contexts.length = 3 → s.activityOk → ∃ t, exec .dial s = .next t ∧
            t.ctx i = { Reset.context with sub := x, direction := .outgoing, callRef := s.freeRef x, digits := d, state := .originating } ∧
            (∀ j, j ≠ i → t.ctx j = s.ctx j) ∧ s.ctxByRef x (s.freeRef x) = none ∧ t.hasTxn x .setup = true ∧
            t.hlc.results = s.hlc.results ++ [f.result 10 .ok (putNat i ++ putNat (s.freeRef x))])))

/-- ANSWER connects an offered call, or first holds the active one (R123, R124, R138, R163). BAD_PARAM for a header that names a subscription is read from R163 (DEDUCED, log 13). The subscription byte of a RESULT is the request's own, and none where the request's byte names no valid one (DESIGN CHOICE, log 15). -/
def Obligations.AnswerConnectsOrHolds : Prop :=
  ∀ (s : State) (f : HostFrame) (rest : List HostFrame) (body : List Byte), s.asks f rest 11 body →
    ((f.sub ≠ 0xFF ∨ readAll readNat body = none) → Refuses .answer 11 .badParam s f rest) ∧
    ∀ j, f.sub = 0xFF → readAll readNat body = some j →
    (2 < j → Refuses .answer 11 .badParam s f rest) ∧
    (j ≤ 2 → ((s.ctx j).state ≠ .offered ∨ (s.ctx j).answerPending = true) → Refuses .answer 11 .state s f rest) ∧
    (j ≤ 2 → (s.ctx j).state = .offered → (s.ctx j).answerPending = false →
      (s.activity (s.ctx j).sub.other = .attended → Refuses .answer 11 .busyOther s f rest) ∧
      (s.activity (s.ctx j).sub.other ≠ .attended → s.anySettling = true → Refuses .answer 11 .state s f rest) ∧
      (s.activity (s.ctx j).sub.other ≠ .attended → s.anySettling = false →
        (s.activeCtx = none → s.takes (s.ctx j).sub (.ctx j) = true → s.activityOk → ∃ t, exec .answer s = .next t ∧
          t.ctx j = { s.ctx j with state := .connecting, ring := none } ∧ t.hasTxn (s.ctx j).sub .connect = true ∧
          t.hlc.results = s.hlc.results ++ [f.result 11 .ok []] ∧ t.cal.holdStack = s.cal.holdStack) ∧
        (s.activeCtx = none → s.takes (s.ctx j).sub (.ctx j) = false → Refuses .answer 11 .busy s f rest) ∧
        (∀ k, s.activeCtx = some k → 2 ≤ s.cal.holdStack.length → Refuses .answer 11 .limit s f rest) ∧
        (∀ k, s.activeCtx = some k → s.cal.holdStack.length < 2 → s.takes (s.ctx k).sub (.ctx k) = false → Refuses .answer 11 .busy s f rest) ∧
        (∀ k, s.activeCtx = some k → s.cal.holdStack.length < 2 → s.takes (s.ctx k).sub (.ctx k) = true → s.activityOk →
          ∃ t, exec .answer s = .next t ∧
          t.ctx k = { s.ctx k with state := .holding } ∧ t.ctx j = { s.ctx j with answerPending := true } ∧
          t.cal.pendingReq = some ⟨.answer j, k, f.tag, none⟩ ∧ t.hlc.results = s.hlc.results ∧ t.hasTxn (s.ctx k).sub .hold = true ∧
          t.vcp.playout = .stopped ∧ t.vcp.queue = [] ∧ t.vcp.uplink = [])))

/-- HOLD and RESUME move a context and leave their RESULT to the network's answer (R130, R131, R163). R130 and R131 refuse a named context; that a header which names a subscription gives BAD_PARAM too is the model's reading of R163 (DEDUCED, log 13). The subscription byte of a RESULT is the request's own, and none where the request's byte names no valid one (DESIGN CHOICE, log 15). -/
def Obligations.HoldAndResumeArePending : Prop :=
  ∀ (s : State) (f : HostFrame) (rest : List HostFrame) (body : List Byte),
    (s.asks f rest 14 body →
      (f.sub ≠ 0xFF ∨ body ≠ [] → Refuses .hold 14 .badParam s f rest) ∧
      (f.sub = 0xFF → body = [] →
        (s.activeCtx = none → Refuses .hold 14 .state s f rest) ∧
        (∀ k, s.activeCtx = some k → 2 ≤ s.cal.holdStack.length → Refuses .hold 14 .limit s f rest) ∧
        (∀ k, s.activeCtx = some k → s.cal.holdStack.length < 2 → s.takes (s.ctx k).sub (.ctx k) = false → Refuses .hold 14 .busy s f rest) ∧
        (∀ k, s.activeCtx = some k → s.cal.holdStack.length < 2 → s.takes (s.ctx k).sub (.ctx k) = true → s.activityOk → ∃ t, exec .hold s = .next t ∧
          t.ctx k = { s.ctx k with state := .holding } ∧ (∀ j, j ≠ k → t.ctx j = s.ctx j) ∧ t.cal.pendingReq = some ⟨.hold, k, f.tag, none⟩ ∧
          t.hlc.results = s.hlc.results ∧ t.hasTxn (s.ctx k).sub .hold = true ∧ t.vcp.playout = .stopped ∧ t.cal.holdStack = s.cal.holdStack))) ∧
    (s.asks f rest 15 body →
      (f.sub ≠ 0xFF ∨ body ≠ [] → Refuses .resume 15 .badParam s f rest) ∧
      (f.sub = 0xFF → body = [] →
        ((s.cal.holdStack = [] ∨ s.activeCtx ≠ none ∨ s.anySettling = true) → Refuses .resume 15 .state s f rest) ∧
        (∀ k, s.cal.holdStack.getLast? = some k → s.activeCtx = none → s.anySettling = false → s.takes (s.ctx k).sub (.ctx k) = false →
          Refuses .resume 15 .busy s f rest) ∧
        (∀ k, s.cal.holdStack.getLast? = some k → s.activeCtx = none → s.anySettling = false → (s.ctx k).state = .held →
          s.takes (s.ctx k).sub (.ctx k) = true → s.activityOk → ∃ t, exec .resume s = .next t ∧ t.ctx k = { s.ctx k with state := .resuming } ∧
            (∀ j, j ≠ k → t.ctx j = s.ctx j) ∧ t.cal.pendingReq = some ⟨.resume, k, f.tag, none⟩ ∧
            t.cal.holdStack = s.cal.holdStack.filter (· != k) ∧ t.hlc.results = s.hlc.results ∧ t.hasTxn (s.ctx k).sub .resume = true)))

/-- A connected call that waited becomes ACTIVE when the other subscription is no longer ATTENDED, and SIGNALLING gives way to TRAFFIC (R127, R10, R135, R137, R138, R20). That the row changes nothing outside its occasion is the model's choice (DESIGN CHOICE, log 1). That the row acts on the other subscription's activity as it stands when it comes is the model's choice (DESIGN CHOICE, log 63). -/
def Obligations.WaitingConnectionBecomesActive : Prop :=
  ∀ (s : State) (i : Nat), i < 3 → (s.ctx i).connectWaiting = true →
    (s.activity (s.ctx i).sub.other = .attended → ∃ t, exec (.connectWaitingResolved i) s = .next t ∧ s.agrees t) ∧
    (s.activity (s.ctx i).sub.other ≠ .attended → ((s.ctx i).state = .originating ∨ (s.ctx i).state = .connecting) → s.activityOk →
      ∃ t, exec (.connectWaitingResolved i) s = .next t ∧ t.ctx i = { s.ctx i with state := .active, connectWaiting := false } ∧
        (s.hlc.queue.length < 32 → ⟨.report (.callConnected (s.ctx i).sub i (s.ctx i).direction), false, false⟩ ∈ t.hlc.queue) ∧
        t.activity (s.ctx i).sub = .inCall ∧
        t.vcp.playout = .filling ∧ t.vcp.call = some ((s.ctx i).sub, i) ∧ t.vcp.queue = [] ∧ t.vcp.position = none ∧ t.vcp.upSeq = 0 ∧
        (lowestFree s.rta.claims ≠ none → t.hasClaim (s.ctx i).sub .traffic = true) ∧
        (t.hasClaim (s.ctx i).sub .traffic = true ∨ t.cal.trafficRetry.get (s.ctx i).sub ≠ .none) ∧
        (s.hasClaim (s.ctx i).sub .traffic = false → lowestFree s.rta.claims ≠ none → t.claimInPlace (s.ctx i).sub .traffic = true) ∧
        (s.claimsOk → t.claimInPlace (s.ctx i).sub .traffic = true → t.claimInPlace (s.ctx i).sub .signalling = false))

/-- What a SETUP_IN and a network RELEASE do to the call contexts, and to TRAFFIC and SIGNALLING when the last one goes (R120, R121, R127, R133, R134, R12, R13, R132, R10, R117, R135). That a context gone IDLE holds subscription A, direction INCOMING and call reference 0 is the model's choice (DESIGN CHOICE, log 50). -/
def Obligations.IncomingCallsAreOfferedAndReleased : Prop :=
  (∀ (s : State) (frame : Frame) (b : SignalBlock) (h : Holder) (type : NumberType) (digits number : Digits) (ref : Nat), s.hears frame h b →
    b.code = 1 → b.body = .calling type digits → b.callRef = some ref → s.activityOk → number = normalise (s.record h.sub) type digits →
    (((s.hasLinked h.sub = false ∧ s.hasCtx h.sub = false) ∨ (s.ctxByRef h.sub ref).isSome = true) →
      ∃ t, exec (.signalBlock frame true b) s = .next t ∧ t.cal = s.cal ∧ t.sge.queues = s.sge.queues ∧
        ((s.record h.sub).standing = (s.record h.sub).standingNow → t.hlc.queue = s.hlc.queue)) ∧
    ((s.hasLinked h.sub = true ∨ s.hasCtx h.sub = true) → s.ctxByRef h.sub ref = none →
      ((s.hasCtx h.sub.other = true ∨ s.freeCtx = none) → ∃ t, exec (.signalBlock frame true b) s = .next t ∧ t.cal = s.cal ∧
        ((s.sge.queues.get h.sub).length < 6 →
          ⟨none, BitVec.ofNat 4 b.ident, false, .release ref (.item .peerBusy), 0⟩ ∈ t.sge.queues.get h.sub) ∧
        (6 ≤ (s.sge.queues.get h.sub).length → t.sge.queues = s.sge.queues)) ∧
      ∀ i, s.hasCtx h.sub.other = false → s.freeCtx = some i → s.cal.contexts.length = 3 →
        ((s.lookup number).2.1 ≠ .reject → ∃ t, exec (.signalBlock frame true b) s = .next t ∧
          t.ctx i = { Reset.context with
            sub := h.sub, direction := .incoming, callRef := ref, networkIdent := some (BitVec.ofNat 4 b.ident), digits := number,
            screenAction := some (s.lookup number).2.1, screenEntry := (s.lookup number).1, state := .offered,
            ring := some ((s.record h.sub).ringTimeout * 128) } ∧
          (∀ j, j ≠ i → t.ctx j = s.ctx j) ∧
          (s.hlc.queue.length < 32 → ⟨.report (.callOffered h.sub i ref number (s.lookup number).1), (s.lookup number).2.1 == .wake, false⟩
            ∈ t.hlc.queue) ∧
          ((s.sge.queues.get h.sub).length < 6 → ⟨some (.ctx i), BitVec.ofNat 4 b.ident, false, .alerting ref, 0⟩ ∈ t.sge.queues.get h.sub)) ∧
        ((s.lookup number).2.1 = .reject → ∃ t, exec (.signalBlock frame true b) s = .next t ∧
          (s.hlc.queue.length < 32 → ⟨.report (.callScreened h.sub ref number ((s.lookup number).1.getD 0)), false, false⟩ ∈ t.hlc.queue) ∧
          (∀ j, j ≠ i → t.ctx j = s.ctx j) ∧
          (s.takes h.sub (.ctx i) = true → (t.ctx i).state = .releasing ∧ (t.ctx i).endCause = some .rejected ∧ (t.ctx i).callRef = ref ∧
            (t.ctx i).sub = h.sub ∧ t.hasTxn h.sub .release = true) ∧
          (s.takes h.sub (.ctx i) = false → t.ctx i = Reset.context)))) ∧
  (∀ (s : State) (frame : Frame) (b : SignalBlock) (h : Holder), s.hears frame h b → b.code = 8 → s.activityOk → s.sge.waiters = [] →
    (b.callRef = none → ∃ t, exec (.signalBlock frame true b) s = .next t ∧ t.cal = s.cal ∧
      t.sge.stray = (if s.sge.stray < 255 then s.sge.stray + 1 else 255)) ∧
    (∀ ref, b.callRef = some ref → s.ctxByRef h.sub ref = none → ∃ t, exec (.signalBlock frame true b) s = .next t ∧ t.cal = s.cal ∧
      ((s.sge.queues.get h.sub).length < 6 → ⟨none, BitVec.ofNat 4 b.ident, false, .releaseDone ref, 0⟩ ∈ t.sge.queues.get h.sub)) ∧
    ∀ ref i, b.callRef = some ref → s.ctxByRef h.sub ref = some i → ∃ t, exec (.signalBlock frame true b) s = .next t ∧
      t.ctx i = Reset.context ∧ (∀ e ∈ t.txnsOf h.sub, e.2.closedBy i = false) ∧
      ((s.sge.queues.get h.sub).length < 6 → (s.serving h.sub).any (·.barred) = false →
        ⟨some (.ctx i), BitVec.ofNat 4 b.ident, false, .releaseDone ref, 0⟩ ∈ t.sge.queues.get h.sub) ∧
      (s.claimsOk → (∀ j, j ≠ i → s.ctxOf h.sub j = false) → t.claimInPlace h.sub .traffic = false ∧
        t.cal.trafficRetry.get h.sub = .none ∧ (t.mobOf h.sub).hoState ≠ .returnCheck ∧
        (s.noneAsked → (s.serving h.sub).any (·.barred) = false → (s.sge.queues.get h.sub).length < 6 →
          s.hasClaim h.sub .signalling = false → s.rta.claims.length = 12 → (taken s.rta.claims).length ≤ 9 →
          t.claimInPlace h.sub .signalling = true)) ∧
      ((s.ctx i).state ≠ .releasing → (s.ctx i).screenedOut = false → s.hlc.queue.length < 32 →
        ⟨.report (.callEnded h.sub i ref (s.ctx i).direction
          (if (s.ctx i).state = .originating ∧ (s.ctx i).connectWaiting = false then .rejected else .networkRelease)
          ((b.errors.getD []).head?)), false, false⟩ ∈ t.hlc.queue)) ∧
  (∀ (s : State) (frame : Frame) (b : SignalBlock) (h : Holder) (named : Prop), s.hears frame h b → b.code = 9 → s.callsOk → s.sge.waiters = [] →
    (named ↔ ∃ i p, s.txnBy h.sub (BitVec.ofNat 4 b.ident) = some (i, p) ∧ p.kind = .release ∧ p.state = .sent) →
    ∃ t, exec (.signalBlock frame true b) s = .next t ∧
      (∀ i p, s.txnBy h.sub (BitVec.ofNat 4 b.ident) = some (i, p) → p.kind = .release → p.state = .sent → entryAt t.sge.txns i = none ∧
        ∀ c cause, p.owner = .ctx c → c < 3 → (s.ctx c).sub = h.sub → (s.ctx c).state = .releasing → (s.ctx c).endCause = some cause →
          t.ctx c = Reset.context ∧ ((s.ctx c).screenedOut = false → s.hlc.queue.length < 32 →
            ⟨.report (.callEnded h.sub c (s.ctx c).callRef (s.ctx c).direction cause none), false, false⟩ ∈ t.hlc.queue)) ∧
      (∀ j q, (s.txnsOf h.sub).find? (fun e => e.2.kind == .link && e.2.state == .linked) = some (j, q) → entryAt t.sge.txns j = none) ∧
      ((named ∨ s.hasLinked h.sub = true) → t.sge.stray = s.sge.stray) ∧
      (¬ named → s.hasLinked h.sub = true → t.cal.contexts = s.cal.contexts ∨ (s.serving h.sub).any (·.barred) = true) ∧
      (¬ named → s.hasLinked h.sub = false → t.cal = s.cal ∧ t.txt = s.txt ∧ t.sbs = s.sbs ∧
        t.sge = { s.sge with stray := if s.sge.stray < 255 then s.sge.stray + 1 else 255 }))

/-- PROCEEDING, ALERT, CONNECT, CONNECT_ACK, HOLD_ACK, RESUME_ACK and REFUSAL move the context that owns their transaction (R124, R125, R126, R127, R129, R130, R131, R135, R138, R11, R12, R132). That a context gone IDLE holds subscription A, direction INCOMING and call reference 0 is the model's choice (DESIGN CHOICE, log 50). The subscription byte of a RESULT is the request's own, and none where the request's byte names no valid one (DESIGN CHOICE, log 15). That CALL_ENDED after a refused RELEASE carries the network's item is the model's choice (DESIGN CHOICE, log 28). -/
def Obligations.CallAnswersMoveTheirContext : Prop :=
  ∀ (s : State) (frame : Frame) (b : SignalBlock) (h : Holder) (i c : Nat) (p : Txn), s.hears frame h b → s.answersCtx h.sub b i p c →
    s.callsOk →
    (((b.code = 4 ∧ p.kind = .setup ∧ (s.ctx c).state = .originating) ∨
        (b.code = 5 ∧ p.kind = .connect ∧ (s.ctx c).state = .connecting)) →
      (s.activity h.sub.other = .attended → ∃ t, exec (.signalBlock frame true b) s = .next t ∧
        t.ctx c = { s.ctx c with connectWaiting := true } ∧ t.vcp = s.vcp) ∧
      (s.activity h.sub.other ≠ .attended → ∃ t, exec (.signalBlock frame true b) s = .next t ∧
        t.ctx c = { s.ctx c with state := .active, connectWaiting := false } ∧ t.vcp.playout = .filling ∧ t.vcp.call = some (h.sub, c) ∧
        t.vcp.queue = [] ∧ t.vcp.position = none ∧ (lowestFree s.rta.claims ≠ none → t.hasClaim h.sub .traffic = true) ∧
        (s.hlc.queue.length < 32 → ⟨.report (.callConnected h.sub c (s.ctx c).direction), false, false⟩ ∈ t.hlc.queue))) ∧
    ((b.code = 6 ∧ p.kind = .hold ∧ (s.ctx c).state = .holding) →
      ∃ t, exec (.signalBlock frame true b) s = .next t ∧ t.ctx c = { s.ctx c with state := CallState.held } ∧
        t.cal.holdStack = s.cal.holdStack ++ [c] ∧ t.vcp.playout = .stopped ∧
        (∀ tag sub, s.cal.pendingReq = some ⟨.hold, c, tag, sub⟩ → t.cal.pendingReq = none ∧
          t.hlc.results = s.hlc.results ++ [⟨tag, sub, 14, .ok, []⟩]) ∧
        ∀ j tag sub, s.cal.pendingReq = some ⟨.answer j, c, tag, sub⟩ → j < 3 → (s.ctx j).state = .offered → (s.ctx j).answerPending = true →
          t.cal.pendingReq = none ∧
          (s.hasPlace h.sub (some (.ctx j)) = true → t.ctx j = { s.ctx j with state := .connecting, answerPending := false, ring := none } ∧
            t.hasTxn h.sub .connect = true ∧ t.hlc.results = s.hlc.results ++ [⟨tag, sub, 11, .ok, []⟩]) ∧
          (s.hasPlace h.sub (some (.ctx j)) = false → (∀ m ∈ s.sge.queues.get h.sub ++ s.sge.holds.get h.sub, m.isOpenerOf p.ident = false) →
            t.ctx j = { s.ctx j with answerPending := false } ∧ t.hlc.results = s.hlc.results ++ [⟨tag, sub, 11, .failed, []⟩])) ∧
    ((b.code = 7 ∧ p.kind = .resume ∧ (s.ctx c).state = .resuming) →
      ∃ t, exec (.signalBlock frame true b) s = .next t ∧ t.ctx c = { s.ctx c with state := .active } ∧ t.vcp.playout = .filling ∧
        t.vcp.call = some (h.sub, c) ∧ (lowestFree s.rta.claims ≠ none → t.hasClaim h.sub .traffic = true) ∧
        ∀ tag sub, s.cal.pendingReq = some ⟨.resume, c, tag, sub⟩ → t.cal.pendingReq = none ∧
          t.hlc.results = s.hlc.results ++ [⟨tag, sub, 15, .ok, []⟩]) ∧
    (b.code = 15 → p.kind = .setup → (s.ctx c).state = .originating → ∃ t, exec (.signalBlock frame true b) s = .next t ∧
      t.ctx c = Reset.context ∧ ((s.ctx c).screenedOut = false → s.hlc.queue.length < 32 →
        ⟨.report (.callEnded h.sub c (s.ctx c).callRef (s.ctx c).direction .rejected (some (firstItem b.errors))), false, false⟩ ∈ t.hlc.queue)) ∧
    (∀ stage, ((b.code = 2 ∧ stage = .proceeding) ∨ (b.code = 3 ∧ stage = .alert)) → p.kind = .setup →
      ∃ t, exec (.signalBlock frame true b) s = .next t ∧
        entryAt t.sge.txns i = some { p with answer := some (s.answerTime h.sub .setup) } ∧
        (∀ j, j ≠ i → entryAt t.sge.txns j = entryAt (s.restartLinkIdle h.sub).sge.txns j) ∧ t.sge.queues = s.sge.queues ∧
        t.sge.stray = s.sge.stray ∧ t.cal.holdStack = s.cal.holdStack ∧ t.cal.pendingReq = s.cal.pendingReq ∧ t.vcp = s.vcp ∧ t.txt = s.txt ∧
        (∀ k, k ≠ c → t.ctx k = s.ctx k) ∧
        (((s.ctx c).state = .originating ∧ ((s.ctx c).progress = .none ∨ ((s.ctx c).progress = .proceeding ∧ stage = .alert))) →
          t.ctx c = { s.ctx c with progress := stage } ∧
          (s.hlc.queue.length < 32 → t.hlc.queue = s.hlc.queue ++ [⟨.report (.callProgress h.sub c stage), false, false⟩])) ∧
        (((s.ctx c).state ≠ .originating ∨ (s.ctx c).progress = stage ∨ (s.ctx c).progress = .alert) →
          t.ctx c = s.ctx c ∧ t.hlc.queue = s.hlc.queue)) ∧
    (b.code = 15 → p.kind = .connect → (s.ctx c).state = .connecting → s.hasPlace h.sub (some (.ctx c)) = true →
      ∃ t, exec (.signalBlock frame true b) s = .next t ∧ t.hasTxn h.sub .release = true ∧
        t.ctx c = { s.ctx c with state := .releasing, endCause := some .rejected, ring := none, answerPending := false, connectWaiting := false }) ∧
    (∀ cause, b.code = 15 → p.kind = .release → (s.ctx c).state = .releasing → (s.ctx c).endCause = some cause →
      ∃ t, exec (.signalBlock frame true b) s = .next t ∧ t.ctx c = Reset.context ∧
        ((s.ctx c).screenedOut = false → s.hlc.queue.length < 32 →
          ⟨.report (.callEnded h.sub c (s.ctx c).callRef (s.ctx c).direction cause (some (firstItem b.errors))), false, false⟩ ∈ t.hlc.queue)) ∧
    (b.code = 15 → ∀ q, s.cal.pendingReq = some q → q.ctx = c →
      (p.kind = .hold → (s.ctx c).state = .holding → ∃ t, exec (.signalBlock frame true b) s = .next t ∧
        t.ctx c = { s.ctx c with state := .active } ∧ t.cal.pendingReq = none ∧
        t.hlc.results = s.hlc.results ++ [⟨q.tag, q.sub, q.kind.code, .failed, []⟩]) ∧
      (p.kind = .resume → (s.ctx c).state = .resuming → ∃ t, exec (.signalBlock frame true b) s = .next t ∧
        t.ctx c = { s.ctx c with state := CallState.held } ∧ t.cal.holdStack = s.cal.holdStack ++ [c] ∧ t.cal.pendingReq = none ∧
        t.hlc.results = s.hlc.results ++ [⟨q.tag, q.sub, q.kind.code, .failed, []⟩]))

/-- What AREA_ACCEPT, AREA_REJECT and REFUSAL do to the registration (R26, R27, R28, R29, R30, R11, R12, R66, R70). That the item of the last rejection is kept, and cleared by an acceptance, is the model's reading (DEDUCED, log 23). -/
def Obligations.AreaAnswersRegister : Prop :=
  ∀ (s : State) (frame : Frame) (b : SignalBlock) (h : Holder) (i : Nat) (p : Txn) (v : Serving), s.hears frame h b →
    s.txnBy h.sub (BitVec.ofNat 4 b.ident) = some (i, p) → p.state = .sent → p.kind = .area → s.serving h.sub = some v → v.barred = false →
    s.activityOk → s.sge.waiters = [] →
    (∀ area newAlias, b.code = 13 → b.body = .area area newAlias → ∃ t, exec (.signalBlock frame true b) s = .next t ∧
      (t.record h.sub).lastArea = some area ∧ (t.record h.sub).rejectedArea = none ∧ (t.record h.sub).rejectItem = none ∧
      (t.record h.sub).aliasVal = (if newAlias = none then (s.record h.sub).aliasVal else newAlias) ∧ (t.record h.sub).standing = .full ∧
      (∀ d, newAlias ≠ none → (s.record h.sub).identity = some d → (t.pscOf h.sub).schedule = some (scheduleOf v newAlias d)) ∧
      ((s.record h.sub).standing ≠ .full → s.hlc.queue.length < 32 →
        ⟨.report (.serviceState h.sub .full .registered (s.activity h.sub) none), true, false⟩ ∈ t.hlc.queue) ∧
      (v.area = area → (t.record h.sub).registration = .registered ∧ entryAt t.sge.txns i = none) ∧
      (v.area ≠ area → s.activity h.sub.other ≠ .inCall → s.hasPlace h.sub (some .psc) = true →
        (t.record h.sub).registration = .updating ∧ t.hasTxn h.sub .area = true ∧ t.activity h.sub = s.activity h.sub)) ∧
    ((b.code = 14 ∨ b.code = 15) → ∃ t, exec (.signalBlock frame true b) s = .next t ∧ (t.record h.sub).registration = .rejected ∧
      (t.record h.sub).rejectedArea = some v.area ∧ (t.record h.sub).lastArea = none ∧
      (t.record h.sub).rejectItem = some (.item (firstItem b.errors)) ∧ (t.record h.sub).standing = .limited ∧ entryAt t.sge.txns i = none ∧
      (s.claimsOk → t.claimInPlace h.sub .pagingListen = false) ∧
      ((s.record h.sub).standing ≠ .limited → s.hlc.queue.length < 32 →
        ⟨.report (.serviceState h.sub .limited .rejected (s.activity h.sub) (some (.item (firstItem b.errors)))), true, false⟩
          ∈ t.hlc.queue))

/-- What a TEXT_SEG does to the reassembly table, and TEXT_ACK or a refusal to the outgoing text (R147, R149, R150, R151, R152, R153, R158, R159, R11, R12). -/
def Obligations.TextSegmentsAreStoredAndAnswered : Prop :=
  (∀ (s : State) (frame : Frame) (b : SignalBlock) (h : Holder) (reference total seq : Nat) (type : NumberType) (digits number : Digits)
    (payload : List Byte) (ack nak bad : Msg), s.hears frame h b → b.code = 10 → b.body = .text reference total seq type digits payload →
    s.activityOk → number = normalise (s.record h.sub) type digits →
    ack = ⟨some .txt, BitVec.ofNat 4 b.ident, false, .textAck, 0⟩ →
    nak = ⟨some .txt, BitVec.ofNat 4 b.ident, false, .textNak .congestion, 0⟩ →
    bad = ⟨some .txt, BitVec.ofNat 4 b.ident, false, .textNak .badState, 0⟩ →
    ∃ t, exec (.signalBlock frame true b) s = .next t ∧ t.cal = s.cal ∧ t.sge.txns.map (Option.map (·.ident)) = s.sge.txns.map (Option.map (·.ident)) ∧
      (s.textByKey h.sub number reference = none →
        ((lowestFree s.txt.entries = none ∨ ((s.lookup number).2.2 ≠ .block ∧ s.txt.free = 0)) →
          t.txt = { s.txt with congestion := if s.txt.congestion < 255 then s.txt.congestion + 1 else 255 } ∧
          ((s.sge.queues.get h.sub).length < 6 → nak ∈ t.sge.queues.get h.sub)) ∧
        ∀ k, lowestFree s.txt.entries = some k →
          ((s.lookup number).2.2 = .block → t.txt.free = s.txt.free ∧
            t.txt.blocked = (if s.txt.blocked < 255 then s.txt.blocked + 1 else 255) ∧
            ((s.sge.queues.get h.sub).length < 6 → ack ∈ t.sge.queues.get h.sub) ∧ (total = 1 → entryAt t.txt.entries k = none) ∧
            (total ≠ 1 → entryAt t.txt.entries k = some ⟨.blocked, h.sub, number, reference, total, [(seq, [])],
              (s.record h.sub).reassemblyTimeout * 128, .block, (s.lookup number).1, none⟩)) ∧
          ((s.lookup number).2.2 ≠ .block → 0 < s.txt.free → t.txt.free + 1 = s.txt.free ∧
            ((s.sge.queues.get h.sub).length < 6 → ack ∈ t.sge.queues.get h.sub) ∧
            (total ≠ 1 → entryAt t.txt.entries k = some ⟨.collecting, h.sub, number, reference, total, [(seq, payload)],
              (s.record h.sub).reassemblyTimeout * 128, (s.lookup number).2.2, (s.lookup number).1, none⟩) ∧
            (total = 1 → ∃ g, entryAt t.txt.entries k = some g ∧ (g.state = .complete ∨ g.state = .queued) ∧ g.delivery = some .received ∧
              g.held = [(seq, payload)] ∧ g.sub = h.sub ∧ g.originator = number ∧ g.reference = reference))) ∧
      ∀ k e, s.textByKey h.sub number reference = some (k, e) →
        (total ≠ e.total → t.txt = s.txt ∧ ((s.sge.queues.get h.sub).length < 6 → bad ∈ t.sge.queues.get h.sub)) ∧
        (total = e.total → ((∃ g ∈ e.held, g.1 = seq) ∨ e.state = .complete ∨ e.state = .queued) →
          t.txt = s.txt ∧ ((s.sge.queues.get h.sub).length < 6 → ack ∈ t.sge.queues.get h.sub)) ∧
        (total = e.total → (∀ g ∈ e.held, g.1 ≠ seq) → e.state = .collecting → s.txt.free = 0 →
          t.txt = { s.txt with congestion := if s.txt.congestion < 255 then s.txt.congestion + 1 else 255 } ∧
          ((s.sge.queues.get h.sub).length < 6 → nak ∈ t.sge.queues.get h.sub)) ∧
        (total = e.total → (∀ g ∈ e.held, g.1 ≠ seq) → e.state = .collecting → 0 < s.txt.free → t.txt.free + 1 = s.txt.free ∧
          ((s.sge.queues.get h.sub).length < 6 → ack ∈ t.sge.queues.get h.sub) ∧
          ((e.hold seq payload).whole = false → entryAt t.txt.entries k = some (e.hold seq payload)) ∧
          ((e.hold seq payload).whole = true → ∃ g, entryAt t.txt.entries k = some g ∧ (g.state = .complete ∨ g.state = .queued) ∧
            g.delivery = some .received ∧ g.held = (e.hold seq payload).held)) ∧
        (total = e.total → (∀ g ∈ e.held, g.1 ≠ seq) → e.state = .blocked → t.txt.free = s.txt.free ∧
          ((s.sge.queues.get h.sub).length < 6 → ack ∈ t.sge.queues.get h.sub) ∧
          entryAt t.txt.entries k = (if (e.hold seq []).whole then none else some (e.hold seq [])))) ∧
  (∀ (s : State) (frame : Frame) (b : SignalBlock) (h : Holder) (i : Nat) (p : Txn) (o : Outgoing), s.hears frame h b →
    s.txnBy h.sub (BitVec.ofNat 4 b.ident) = some (i, p) → p.state = .sent → p.kind = .textOut → s.outgoingOf h.sub = some o →
    o.segments ≠ [] → s.activityOk → s.sge.waiters = [] →
    (b.code = 11 → o.nextSeq = o.total → ∃ t, exec (.signalBlock frame true b) s = .next t ∧ t.outgoingOf h.sub = none ∧
      t.txt.free = s.txt.free + o.segments.length ∧
      (s.hlc.queue.length < 32 → ⟨.report (.textSent h.sub o.reference), false, false⟩ ∈ t.hlc.queue)) ∧
    (b.code = 11 → o.nextSeq ≠ o.total → s.hasPlace h.sub (some .txt) = true → ∃ t, exec (.signalBlock frame true b) s = .next t ∧
      t.outgoingOf h.sub = some { o with segments := o.segments.tail, nextSeq := o.nextSeq + 1, segmentDue := false } ∧
      t.txt.free = s.txt.free + 1 ∧ t.hasTxn h.sub .textOut = true) ∧
    (b.code = 11 → o.nextSeq ≠ o.total → s.hasPlace h.sub (some .txt) = false →
      (∀ m, m ∈ s.sge.queues.get h.sub ∨ m ∈ s.sge.holds.get h.sub → m.isOpenerOf p.ident = false) →
      ∃ t, exec (.signalBlock frame true b) s = .next t ∧
        t.outgoingOf h.sub = some { o with segments := o.segments.tail, nextSeq := o.nextSeq + 1, segmentDue := true } ∧
        t.txt.free = s.txt.free + 1 ∧ t.sge.queues = s.sge.queues ∧ t.sge.holds = s.sge.holds ∧ t.sge.waiters = [⟨.segment, h.sub, false⟩] ∧
        entryAt t.sge.txns i = none) ∧
    (b.code = 15 → ∃ t, exec (.signalBlock frame true b) s = .next t ∧ t.outgoingOf h.sub = none ∧
      t.txt.free = s.txt.free + o.segments.length ∧ (s.hlc.queue.length < 32 →
        ⟨.report (.textFailed h.sub o.reference o.nextSeq (.refused (firstItem b.errors))), false, false⟩ ∈ t.hlc.queue)))

/-- What a VOICE block and an UP_SPEECH frame do to the Voice Path (R139, R140, R142, R143, R64, R65). That a bad VOICE block is counted in STOPPED too is the model's choice (DESIGN CHOICE, log 41); the texts a host that becomes AWAKE is offered are log 5's. That the return counter becomes 0 when the check has passed is the model's choice (DESIGN CHOICE, log 68). -/
def Obligations.SpeechIsQueued : Prop :=
  (∀ (s : State) (frame : Frame) (b : VoiceBlock) (h : Holder), s.holderOf frame = some h → (h.kind = .traffic ∨ h.kind = .handoverAccess) →
    s.dlc.filters.get h.sub = true →
    (∀ good, (good = false ∨ voiceOk b = false) → ∃ t, exec (.voiceBlock frame good b) s = .next t ∧
      ({ s with vcp := { s.vcp with lost := if s.vcp.lost < 255 then s.vcp.lost + 1 else 255 } } : State).agrees t) ∧
    (voiceOk b = true → ∃ t, exec (.voiceBlock frame true b) s = .next t ∧
      ({ s with vcp := t.vcp, mob := t.mob, rta := { s.rta with unit := t.rta.unit } } : State).agrees t ∧
      t.mobOf h.sub.other = s.mobOf h.sub.other ∧
      t.mobOf h.sub = (if h.kind = .traffic ∧ (s.mobOf h.sub).hoState = .returnCheck then
        { s.mobOf h.sub with hoState := .none, returnCounter := 0 } else s.mobOf h.sub) ∧
      t.rta.unit = (if h.kind = .handoverAccess then s.rta.unit.map fun u =>
        if u.sub = h.sub ∧ u.kind = h.kind ∧ u.first = h.unitFirst then { u with goodNotice := true } else u else s.rta.unit) ∧
      ((s.vcp.playout = .stopped ∨ ∀ i, s.vcp.call ≠ some (h.sub, i)) → t.vcp = s.vcp) ∧
      ∀ i f, s.vcp.call = some (h.sub, i) → f = ⟨BitVec.ofNat 8 b.seq, b.bytes⟩ →
        (s.vcp.playout = .filling → s.vcp.position = none → t.vcp.position = some (f.seq - 1) ∧ t.vcp.queue = [f] ∧
          t.vcp.late = s.vcp.late ∧ t.vcp.overflow = s.vcp.overflow ∧ t.vcp.resync = false ∧
          t.vcp.playout = (if s.vcp.depth ≤ 1 then .playing else .filling)) ∧
        ∀ p, s.vcp.playout ≠ .stopped → s.vcp.position = some p →
          (seqAhead p f.seq = true → (∃ q ∈ s.vcp.queue, q.seq = f.seq) → t.vcp = { s.vcp with lateRun := 0, resync := false }) ∧
          (seqAhead p f.seq = true → (∀ q ∈ s.vcp.queue, q.seq ≠ f.seq) → t.vcp.position = some p ∧ t.vcp.late = s.vcp.late ∧
            t.vcp.lateRun = 0 ∧ t.vcp.resync = false ∧
            (s.vcp.queue.length < 8 → t.vcp.queue.Perm (f :: s.vcp.queue) ∧ t.vcp.overflow = s.vcp.overflow) ∧
            (8 ≤ s.vcp.queue.length → t.vcp.queue.Perm (f :: s.vcp.queue.tail) ∧
              t.vcp.overflow = (if s.vcp.overflow < 255 then s.vcp.overflow + 1 else 255)) ∧
            (s.vcp.playout = .filling → t.vcp.playout = (if s.vcp.depth ≤ t.vcp.queue.length then .playing else .filling)) ∧
            (s.vcp.playout = .playing → t.vcp.playout = .playing)) ∧
          (seqAhead p f.seq = false → s.vcp.lateRun < 3 → s.vcp.resync = false →
            t.vcp = { s.vcp with late := if s.vcp.late < 255 then s.vcp.late + 1 else 255, lateRun := s.vcp.lateRun + 1 }) ∧
          (seqAhead p f.seq = false → (s.vcp.lateRun = 3 ∨ s.vcp.resync = true) → 1 < s.vcp.depth →
            t.vcp = { s.vcp with
              late := if s.vcp.late < 255 then s.vcp.late + 1 else 255, lateRun := 0, resync := false, playout := .filling, queue := [f],
              position := some (f.seq - 1), fillAfter := s.vcp.playout == .playing || s.vcp.fillAfter }))) ∧
  (∀ (s : State) (f : HostFrame) (rest : List HostFrame), s.hlc.inbound = f :: rest → f.type = .upSpeech → s.mayAct = true →
      ∃ t, exec .upSpeech s = .next t ∧ t.hlc.inbound = rest ∧ t.hlc.host = .awake ∧ t.hlc.results = s.hlc.results ∧
        (s.vcp.playout = .stopped → t.vcp = s.vcp) ∧
        (∀ x i, s.vcp.playout ≠ .stopped → headerSub f.sub = some (some x) → s.vcp.call = some (x, i) → f.payload.length = 40 →
          (s.vcp.uplink.length < 4 → t.vcp = { s.vcp with uplink := s.vcp.uplink ++ [f.payload] }) ∧
          (4 ≤ s.vcp.uplink.length → t.vcp = { s.vcp with uplink := s.vcp.uplink.tail ++ [f.payload], upDrop := if s.vcp.upDrop < 255 then s.vcp.upDrop + 1 else 255 })) ∧
        (s.vcp.playout ≠ .stopped → (f.payload.length ≠ 40 ∨ ∀ x i, headerSub f.sub = some (some x) → s.vcp.call ≠ some (x, i)) →
          t.vcp = { s.vcp with upDrop := if s.vcp.upDrop < 255 then s.vcp.upDrop + 1 else 255 }) ∧
        t.sge = s.sge ∧ t.cal = s.cal ∧ t.sbs = s.sbs ∧ t.rta = s.rta ∧ t.hlc.queue = (s.heard rest).hlc.queue)

/-- What a playout boundary sends, and what a granted TRAFFIC frame carries (R141, R143, R144, R8, R167). -/
def Obligations.PlayoutAndUplinkChoice : Prop :=
  (∀ (s : State) (x : Sub) (i : Nat) (p : Seq), s.rpt.order = none →
    (∀ u, s.rta.unit = some u → frameDist u.first (s.clock.now + 1) < u.length) → s.activityOk →
    s.vcp.call = some (x, i) → s.vcp.position = some p → ∃ t, exec .frameBoundary s = .next t ∧
      (((s.clock.now + 1).toNat % 2 = 1 ∨ s.vcp.playout = .stopped ∨ (s.vcp.playout = .filling ∧ s.vcp.fillAfter = false)) →
        t.hlc.slot = s.hlc.slot ∧ t.vcp.position = some p ∧ t.vcp.queue = s.vcp.queue ∧ t.vcp.subRun = s.vcp.subRun) ∧
      ((s.clock.now + 1).toNat % 2 = 0 →
        (∀ g rest, s.vcp.playout = .playing → s.vcp.queue = g :: rest → g.seq = p + 1 →
          t.hlc.slot = some ⟨x, i, p + 1, .speech, 0, g.bytes⟩ ∧ t.vcp.position = some (p + 1) ∧ t.vcp.queue = rest ∧
          t.vcp.subRun = 0 ∧ t.vcp.lastFrame = some g.bytes) ∧
        ∀ at', ((s.vcp.playout = .playing ∧ (∀ g, s.vcp.queue.head? = some g → g.seq ≠ p + 1) ∧ at' = p + 1) ∨
            (s.vcp.playout = .filling ∧ s.vcp.fillAfter = true ∧ at' = p)) →
          t.vcp.position = some at' ∧ t.vcp.queue = s.vcp.queue ∧ t.vcp.lastFrame = s.vcp.lastFrame ∧
          (s.vcp.subRun < 3 → t.vcp.subRun = s.vcp.subRun + 1 ∧ ∃ bytes,
            t.hlc.slot = some ⟨x, i, at', .substitute, s.vcp.subRun + 1, bytes⟩ ∧ ∀ l, s.vcp.lastFrame = some l → bytes = l) ∧
          (3 ≤ s.vcp.subRun → t.vcp.subRun = 4 ∧ t.hlc.slot = some ⟨x, i, at', .silence, 0, []⟩))) ∧
  (∀ (s : State) (k : Nat) (c : Claim), c.kind = .traffic ∨ c.kind = .signalling →
    (∀ m rest, s.sge.queues.get c.sub = m :: rest →
      ((s.startUnit k c).rpt.order.map fun o => (o.content, o.carriesHead)) = some (.message m, true) ∧
      (s.startUnit k c).sge = s.sge ∧
      (c.kind = .traffic → (∃ i, s.vcp.call = some (c.sub, i)) → (s.startUnit k c).vcp = (if s.vcp.uplink = [] then s.vcp else
        { s.vcp with uplink := s.vcp.uplink.tail, upDrop := if s.vcp.upDrop < 255 then s.vcp.upDrop + 1 else 255 })) ∧
      ((c.kind = .signalling ∨ ∀ i, s.vcp.call ≠ some (c.sub, i)) → (s.startUnit k c).vcp = s.vcp)) ∧
    (s.sge.queues.get c.sub = [] →
      (∀ g rest i, c.kind = .traffic → s.vcp.call = some (c.sub, i) → s.vcp.uplink = g :: rest →
        ((s.startUnit k c).rpt.order.map fun o => (o.content, o.carriesHead)) = some (.speech s.vcp.upSeq g, false) ∧
        (s.startUnit k c).vcp = { s.vcp with uplink := rest, upSeq := s.vcp.upSeq + 1 }) ∧
      ((c.kind = .signalling ∨ (∀ i, s.vcp.call ≠ some (c.sub, i)) ∨ s.vcp.uplink = []) →
        ((s.startUnit k c).rpt.order.map fun o => (o.content, o.carriesHead)) = some (.none, false) ∧ (s.startUnit k c).vcp = s.vcp)))

/-- SEND_TEXT takes its buffers and the reference and offers its first segment (R157). The subscription byte of a RESULT is the request's own, and none where the request's byte names no valid one (DESIGN CHOICE, log 15). -/
def Obligations.SendTextOpensTheFirstSegment : Prop :=
  ∀ (s : State) (f : HostFrame) (rest : List HostFrame) (body : List Byte), s.asks f rest 16 body →
    ((headerSub f.sub = some none ∨ headerSub f.sub = none ∨ readAll readText body = none) → Refuses .sendText 16 .badParam s f rest) ∧
    ∀ x d l, headerSub f.sub = some (some x) → readAll readText body = some (d, l) →
      (textOk d l = false → Refuses .sendText 16 .badParam s f rest) ∧
      (textOk d l = true →
        ((s.activity x = .detached ∨ s.activity x = .inCall) → Refuses .sendText 16 .state s f rest) ∧
        (s.activity x = .noService → Refuses .sendText 16 .noService s f rest) ∧
        ((s.activity x = .camped ∨ s.activity x = .attended) →
          (s.activity x.other = .inCall → Refuses .sendText 16 .busyOther s f rest) ∧
          (s.activity x.other ≠ .inCall → ((s.outgoingOf x).isSome = true ∨ s.txt.free < l.length) → Refuses .sendText 16 .busy s f rest) ∧
          (s.activity x.other ≠ .inCall → s.outgoingOf x = none → l.length ≤ s.txt.free →
            (s.takes x .txt = false → ∃ t, exec .sendText s = .next t ∧ t.outgoingOf x = none ∧ t.txt.free = s.txt.free ∧
              t.txt.nextRef.get x = s.txt.nextRef.get x + 1 ∧ t.sge.txns = s.sge.txns ∧ t.sge.queues = s.sge.queues ∧ t.cal = s.cal ∧
              t.hlc.results = s.hlc.results ++ [f.result 16 .busy []]) ∧
            (s.takes x .txt = true → s.activityOk →
              ∃ t, exec .sendText s = .next t ∧ t.outgoingOf x = some ⟨(s.txt.nextRef.get x).toNat, d, l.length, l, 1, false⟩ ∧
                t.txt.free + l.length = s.txt.free ∧ t.txt.nextRef.get x = s.txt.nextRef.get x + 1 ∧ t.hasTxn x .textOut = true ∧
                t.hlc.results = s.hlc.results ++ [f.result 16 .ok (putNat (s.txt.nextRef.get x).toNat)] ∧ t.cal = s.cal ∧ t.vcp = s.vcp))))

/-- A deadline makes a partial delivery, and held texts are offered oldest first (R153, R155). That the row changes nothing where no text could be delivered is the model's choice (DESIGN CHOICE, log 1), as is that the steps which bring an event of R153 offer the texts themselves (log 5). -/
def Obligations.TextsAreDelivered : Prop :=
  (∀ (s : State) (i : Nat) (e : TextEntry), entryAt s.txt.entries i = some e → e.deadline = 0 →
    (e.state = .collecting → ∃ t, exec (.reassemblyDeadline i) s = .next t ∧ t.textsOffered ∧
      t.txt.free = s.txt.free ∧ t.sge = s.sge ∧ t.cal = s.cal ∧ t.sbs = s.sbs ∧
      (s.textsOffered → s.mayDeliver { e with state := .complete } = true →
        entryAt t.txt.entries i = some { e with state := .queued, delivery := some .partialText } ∧
        t.hlc.queue = s.hlc.queue ++ [⟨.text i, e.action == .wake, false⟩]) ∧
      (s.textsOffered → s.mayDeliver { e with state := .complete } = false →
        entryAt t.txt.entries i = some { e with state := .complete, delivery := some .partialText } ∧
        t.txt.completion = s.txt.completion ++ [i] ∧ t.hlc.queue = s.hlc.queue)) ∧
    (e.state = .blocked → ∃ t, exec (.reassemblyDeadline i) s = .next t ∧ entryAt t.txt.entries i = none ∧ t.txt.free = s.txt.free ∧
      t.hlc.queue = s.hlc.queue ∧ t.sge = s.sge)) ∧
  (∀ s : State, (s.textsOffered → ∃ t, exec .textOfferRetry s = .next t ∧ s.agrees t) ∧
    (∃ t, exec .textOfferRetry s = .next t ∧ t.textsOffered) ∧
    ∀ i e rest, s.txt.completion = i :: rest → entryAt s.txt.entries i = some e → s.mayDeliver e = true →
      ∃ t more, exec .textOfferRetry s = .next t ∧ t.hlc.queue = s.hlc.queue ++ ⟨.text i, e.action == .wake, false⟩ :: more ∧
        entryAt t.txt.entries i = some { e with state := .queued } ∧ i ∉ t.txt.completion ∧ t.txt.free = s.txt.free ∧
        t.sge = s.sge ∧ t.cal = s.cal ∧ t.sbs = s.sbs)

/-- Host frames are received or discarded, frames sent leave their queues, the next one is chosen by R167, and a RESULT goes out in its layout (R160, R161, R162, R165, R167, R168, R84, R153, R154, R164). R165 speaks of malformed frames: that one discarded for OVERRUN makes the host AWAKE too, and the order of the checks, are log 17's (DEDUCED). That TRANSFER_END drops the choice of a frame not begun, whatever the transfer, is log 18's (DESIGN CHOICE), and that the texts held are offered in these steps log 5's (DESIGN CHOICE). That a TRANSFER_END with no transfer under way changes nothing is the model's choice too (DESIGN CHOICE, log 1). The subscription byte of a RESULT is the request's own, and none where the request's byte names no valid one (DESIGN CHOICE, log 15). That BAD_FRAME stands before the texts offered to the host it makes AWAKE is the model's choice (DESIGN CHOICE, log 70). -/
def Obligations.FramesAreCarried : Prop :=
  (∀ s : State, s.hlc.link = .none → s.resetHeld = false →
    (∃ t, exec .hostFrameStart s = .next t ∧ t.hlc.link = .carrying ∧ t.hlc.rx = .receiving ∧ t.hlc.host = s.hlc.host ∧
      (s.psc.power = .light → t.psc.power = .awake ∧ t.psc.lightReturn = none) ∧
      (s.psc.power = .deep → t.psc.power = .waking ∧ t.psc.wakeTimer = none ∧ t.psc.settle = some s.psc.notedS ∧ t.pins.oscEnable = true) ∧
      ((s.psc.power = .awake ∨ s.psc.power = .waking) → t.psc = s.psc) ∧ t.hlc.inbound = s.hlc.inbound ∧ t.rta = s.rta ∧ t.sge = s.sge) ∧
    (∃ t, exec .readOnlyTransfer s = .next t ∧ t.hlc.link = .carrying ∧ t.hlc.rx = s.hlc.rx ∧ t.hlc.host = s.hlc.host ∧ t.psc = s.psc ∧
      t.hlc.inbound = s.hlc.inbound ∧ t.rta = s.rta ∧ t.sge = s.sge)) ∧
  (∀ (s : State) (ty sub hi lo tag : Byte) (payload extra : List Byte) (k : HostType), s.hlc.rx = .receiving → s.resetHeld = false →
    payload.length = hi.toNat * 256 + lo.toNat → payload.length ≤ 1280 → hostType ty = some k → s.hlc.inbound.length < 4 →
    ∃ t, exec (.hostFrameReceived (ty :: sub :: hi :: lo :: tag :: (payload ++ extra))) s = .next t ∧
      t.hlc.inbound = s.hlc.inbound ++ [⟨k, sub, tag, payload⟩] ∧ t.hlc.rx = .idle ∧ t.hlc.host = s.hlc.host ∧ t.hlc.queue = s.hlc.queue) ∧
  (∀ (s : State) (ty : Byte) (l : List Byte) (reason : BadReason), s.hlc.rx = .receiving → s.resetHeld = false → s.hlc.queue.length < 32 →
    ((hostType ty = none ∧ reason = .unknownType) ∨
      (hostType ty ≠ none ∧ (∃ sub hi lo more, l = sub :: hi :: lo :: more ∧ 1280 < hi.toNat * 256 + lo.toNat) ∧ reason = .lengthOver) ∨
      (hostType ty ≠ none ∧ l.length < 4 ∧ (∀ sub hi lo more, l = sub :: hi :: lo :: more → hi.toNat * 256 + lo.toNat ≤ 1280) ∧
        reason = .truncated) ∨
      (hostType ty ≠ none ∧ (∃ sub hi lo tag more, l = sub :: hi :: lo :: tag :: more ∧ hi.toNat * 256 + lo.toNat ≤ 1280 ∧
        ((more.length < hi.toNat * 256 + lo.toNat ∧ reason = .truncated) ∨
          (hi.toNat * 256 + lo.toNat ≤ more.length ∧ 4 ≤ s.hlc.inbound.length ∧ reason = .overrun))))) →
    ∃ t texts, exec (.hostFrameReceived (ty :: l)) s = .next t ∧ t.hlc.inbound = s.hlc.inbound ∧ t.hlc.rx = .idle ∧ t.hlc.host = .awake ∧
      t.hlc.queue = s.hlc.queue ++ ⟨.report (.badFrame reason ty l[3]?), false, false⟩ :: texts ∧ (s.hlc.host = .awake → texts = [])) ∧
  (∀ s : State, s.hlc.link = .carrying → s.resetHeld = false →
    (s.hlc.sending = some .result → ∃ t, exec .outboundFrameSent s = .next t ∧ t.hlc.results = s.hlc.results.tail ∧
      t.hlc.queue = s.hlc.queue ∧ (t.hlc.results ≠ [] → t.hlc.sending = some .result) ∧ t.txt = s.txt) ∧
    (∀ g, s.hlc.sending = some (.speech g) → ∃ t, exec .outboundFrameSent s = .next t ∧
      t.hlc.slot = (if s.hlc.slotBegun then none else s.hlc.slot) ∧
      t.hlc.results = s.hlc.results ∧ t.hlc.queue = s.hlc.queue ∧ t.txt = s.txt) ∧
    (∀ e rest, s.hlc.sending = some .entry → s.hlc.queue = e :: rest → ∃ t texts, exec .outboundFrameSent s = .next t ∧
      t.hlc.queue = rest ++ texts ∧ (s.txt.completion = [] → texts = []) ∧ t.textsOffered ∧
      t.hlc.results = s.hlc.results ∧ t.sge = s.sge ∧ t.cal = s.cal ∧
      ((∀ i, e.body ≠ .text i) → t.txt.free = s.txt.free ∧ (s.txt.completion = [] → t.txt.entries = s.txt.entries)) ∧
      (∀ i x, e.body = .text i → entryAt s.txt.entries i = some x → entryAt t.txt.entries i = none ∧ t.txt.free = s.txt.free + x.buffers))) ∧
  (∀ (s : State) (c : Instr), s.resetHeld = false →
    (((c = .readOnlyTransfer ∨ c = .hostFrameStart) ∧ s.hlc.link = .none ∧ s.hlc.sending = none) ∨
      (c = .outboundFrameSent ∧ s.hlc.link = .carrying)) →
    ∃ t, exec c s = .next t ∧ t.hlc.link = .carrying ∧
      (t.hlc.results ≠ [] → t.hlc.sending = some .result) ∧
      (t.hlc.results = [] → (∀ g, t.hlc.slot = some g → t.hlc.sending = some (.speech g) ∧ t.hlc.slotBegun = true) ∧
        (t.hlc.slot = none → (t.hlc.queue ≠ [] → t.hlc.sending = some .entry) ∧ (t.hlc.queue = [] → t.hlc.sending = none))) ∧
      (c ≠ .outboundFrameSent → t.hlc.results = s.hlc.results ∧ t.hlc.slot = s.hlc.slot ∧ t.hlc.queue = s.hlc.queue)) ∧
  (∀ (s : State) (c : Instr) (f : Sending), s.resetHeld = false → s.hlc.link = .none → s.hlc.sending = some f →
    (c = .readOnlyTransfer ∨ c = .hostFrameStart) → ∃ t, exec c s = .next t ∧ t.hlc.sending = some f ∧ t.hlc.slotBegun = s.hlc.slotBegun) ∧
  (∀ (s : State) (mid : Bool), s.hlc.link ≠ .none → ∃ t, exec (.transferEnd mid) s = .next t ∧ t.hlc.link = .none ∧
    t.hlc.sending = (if mid then s.hlc.sending else none) ∧ t.hlc.results = s.hlc.results ∧ t.hlc.queue = s.hlc.queue ∧
    t.hlc.slot = s.hlc.slot ∧ t.hlc.host = s.hlc.host ∧ t.hlc.inbound = s.hlc.inbound ∧ t.psc = s.psc ∧ t.txt = s.txt) ∧
  (∀ (s : State) (mid : Bool), s.hlc.link = .none → ∃ t, exec (.transferEnd mid) s = .next t ∧ s.agrees t) ∧
  (∀ (s : State) (r : ResultFrame) (rest : List ResultFrame) (k : Nat), s.resetHeld = false → s.hlc.sending = some .result →
    s.hlc.results = r :: rest →
    ([.ok, .busy, .busyOther, .badParam, .state, .limit, .noService, .failed] : List ResultCode)[k]? = some r.code →
    s.dataOut = [0x81, (match r.sub with | some .a => 0x00 | some .b => 0x01 | none => 0xFF), BitVec.ofNat 8 ((r.data.length + 2) / 256),
      BitVec.ofNat 8 (r.data.length + 2), r.tag, r.request, BitVec.ofNat 8 k] ++ r.data) ∧
  (∀ (f : HostFrame) (request : Byte) (code : ResultCode) (data : List Byte), (f.result request code data).tag = f.tag ∧
    (f.result request code data).sub = (if f.sub = 0 then some .a else if f.sub = 1 then some .b else none))

/-- HOST_DOZE makes the host DOZING outside calls, and QUERY reads a record, whose fields stand in order (R165, R168, R170, R161). The bytes of the records are laid out as log 16 chooses (DESIGN CHOICE). The subscription byte of a RESULT is the request's own, and none where the request's byte names no valid one (DESIGN CHOICE, log 15). That the snapshot is taken after the held texts are offered is the model's choice (DESIGN CHOICE, log 5), and so are, inside the records, the remaining frames of the unit (log 44), the overflow holds (log 45), an invalid neighbour (log 53), the fields of a context (log 56) and the layout of SERVING (log 57). The bytes of flags are DEDUCED (log 11), and that the sequence numbers held by a text stand as a list is the model's choice (DESIGN CHOICE, log 61). That the schedule's "present" is its presence byte (log 64), and how the contexts of the pending request stand (log 65), are the model's choice (DESIGN CHOICE). -/
def Obligations.HostDozesAndQueries : Prop :=
  (∀ (s : State) (f : HostFrame) (rest : List HostFrame) (body : List Byte), s.asks f rest 17 body →
    ((f.sub ≠ 0xFF ∨ body ≠ []) → Refuses .hostDoze 17 .badParam s f rest) ∧
    (f.sub = 0xFF → body = [] →
      ((ctxIndexes.any fun i => (s.ctx i).state.keepsHost) = true → Refuses .hostDoze 17 .busy s f rest) ∧
      ((ctxIndexes.any fun i => (s.ctx i).state.keepsHost) = false → ∃ t, exec .hostDoze s = .next t ∧
        ({ s with hlc := { s.hlc with host := .dozing, inbound := rest, results := s.hlc.results ++ [f.result 17 .ok []] } } : State).agreesButSleep t))) ∧
  (∀ (s : State) (f : HostFrame) (rest : List HostFrame) (body : List Byte), s.asks f rest 20 body →
    (readAll readRecord body = none → Refuses .query 20 .badParam s f rest) ∧
    ∀ name, readAll readRecord body = some name →
      (∀ x, headerSub f.sub = some (some x) → name.perSub = true → ∃ t, exec .query s = .next t ∧
        (s.acted rest (f.result 20 .ok (putFrame s.clock.now ++ (s.heard rest).putRecord name x))).agreesButSleep t) ∧
      (f.sub = 0xFF → name.perSub = false → name ≠ .counts → ∃ t, exec .query s = .next t ∧
        (s.acted rest (f.result 20 .ok (putFrame s.clock.now ++ (s.heard rest).putRecord name .a))).agreesButSleep t) ∧
      (f.sub = 0xFF → name = .counts → ∃ t g, exec .query s = .next t ∧
        g = s.acted rest (f.result 20 .ok (putFrame s.clock.now ++ (s.heard rest).putRecord .counts .a)) ∧
        ({ g with hlc := { g.hlc with lostReports := 0 } } : State).agreesButSleep t) ∧
      ((f.sub = 0xFF ∧ name.perSub = true) ∨ (f.sub ≠ 0xFF ∧ name.perSub = false) ∨ headerSub f.sub = none →
        Refuses .query 20 .badParam s f rest)) ∧
  ((∀ n l, n < 65536 → putNat n = [BitVec.ofNat 8 (n / 256), BitVec.ofNat 8 (n % 256)] ∧ readNat (putNat n ++ l) = some (n, l)) ∧
    (∀ (v : Int) (l : List Byte), -32768 ≤ v → v < 32768 → readInt (putInt v ++ l) = some (v, l)) ∧
    (∀ n, n < 256 → putByte n = [BitVec.ofNat 8 n]) ∧ putFlag true = [0] ∧ putFlag false = [1] ∧
    (∀ v : AliasValue, putAlias v = putNat (v.toNat / 65536) ++ putNat (v.toNat % 65536)) ∧
    (∀ f : Frame, putFrame f = putNat f.toNat) ∧ putSub .a = [0] ∧ putSub .b = [1] ∧
    (∀ d : Digits, putDigits d = putByte d.length ++ (d.map putByte).flatten) ∧
    (∀ put : Nat → List Byte, putOpt put none = [0] ∧ (∀ n, putOpt put (some n) = 1 :: put n) ∧
      (∀ l, putTable put l = (l.map put).flatten) ∧ ∀ l, putList put l = putByte l.length ++ (l.map put).flatten)) ∧
  (∀ (s : State) (x : Sub) (r : SubRecord) (p : PscSub) (m : MobSub), r = s.record x → p = s.pscOf x → m = s.mobOf x →
    s.putRecord .subscription x = [putFlag r.configured, putOpt putDigits r.identity, putOpt putAlias r.aliasVal,
      putOpt putDigits r.homeCode, putOpt putDigits (r.trunk.map fun t => [t]), putOpt putDigits r.intlPre,
      putTable (putOpt putNat) r.overrides, putNat r.ringTimeout, putNat r.reassemblyTimeout, putOpt putNat r.voiceDepth,
      putByte r.registration.ctorIdx, putOpt putNat r.lastArea, putOpt putNat r.rejectedArea, putFlag r.updatePending,
      putByte r.standing.ctorIdx, putByte r.activity.ctorIdx, putOpt (putSchedule p.retry) p.schedule, putNat p.relaxCount,
      putNat p.thr, putFlag p.relaxed, putNat (p.missed + p.denied), putNat m.params.k,
      putNat m.params.hysteresis, putNat m.params.ttt, putNat m.params.period, putNat m.params.searchInterval,
      putByte (if s.dlc.filters.get x = true then 1 else 0), putNat (s.dlc.filtered.get x), putOpt putNat r.voiceDepth,
      putNat (s.txt.nextRef.get x).toNat].flatten ∧
    (p.relaxed = true ↔ 0 < p.thr ∧ p.relaxCount = p.thr) ∧
    (∀ retry (d : Schedule), putSchedule retry d = [putNat d.c, putNat d.cycle, putByte (if d.byAlias = true then 0 else 1), putNat d.o,
      putNat d.d, putNat d.p, putNat d.length, putNat d.residue, putFlag (retry != .none)].flatten) ∧
    s.putRecord .serving x = [putOpt (fun v => [putServing v, putOpt putInt (v.fs.map rounded), putOpt putInt m.servingRank].flatten) m.serving,
      putByte m.hoState.ctorIdx, putOpt (fun q => putServing q.serving ++ putSlot q.slot) m.returnRec, putNat m.returnCounter,
      putNat m.guard, putOpt putPurpose m.readPurpose, putNat m.searchPos, putNat m.bandScan, putOpt putNat m.lastFreq].flatten ∧
    (∀ v : Serving, putServing v = [putNat v.cellId, putNat v.freq, putNat v.area, putNat v.offset, putNat v.phase, putNat v.c,
      putInt v.qmin, putFlag v.barred, putOpt putInt v.fs, putNat v.floorRun, putFlag v.confirmed].flatten) ∧
    putSlot .noSlot = [0] ∧ (∀ i was, putSlot (.slot i was) = 1 :: putNat i ++ putOpt putNeighbour was) ∧
    putPurpose .refresh = [1] ∧ (∀ i c, putPurpose (.reselect i c) = 0 :: putNat i ++ putNat c) ∧
    (∀ n : Neighbour, putNeighbour n = [putNat n.cellId, putNat n.freq, putInt n.offset, putFlag n.allowed, putByte n.state.ctorIdx,
      putOpt putInt n.f, putNat n.miss, putNat n.trigger, putOpt putInt (n.f.map rounded), putOpt putInt n.rankValue].flatten) ∧
    s.putRecord .neighbours x = (m.neighbours.map fun e => match e with
      | some n => putFlag true ++ putNeighbour n
      | none => putFlag false).flatten ++ putNat m.rotation ∧
    s.putRecord .ranking x = putByte m.ranking.length ++ (m.ranking.map fun i => putNat i ++ match entryAt m.neighbours i with
      | some n => [putNat n.cellId, putInt ((n.f.map rounded).getD 0), putInt (n.rankValue.getD 0), putNat n.trigger].flatten
      | none => []).flatten ++ putOpt putInt m.servingRank) ∧
  (∀ (s : State) (x : Sub) (v : Vcp), v = s.vcp →
    s.putRecord .claims x = [putList (fun e : Nat × Claim => putClaim e.2) (taken s.rta.claims),
      (s.rta.policies.map fun p => putByte p.ctorIdx).flatten, putFlag s.rta.tuneAway.a, putFlag s.rta.tuneAway.b,
      (s.rta.marks.map putSub).flatten, putNat s.rta.holdCount, putNat s.rpt.faultCount, putOpt (fun u => [putSub u.sub,
        putByte u.kind.ctorIdx, putFrame u.first, putNat (u.length - frameDist u.first s.clock.now)].flatten) s.rta.unit].flatten ∧
    (∀ c : Claim, putClaim c = [putSub c.sub, putByte c.kind.ctorIdx, putFrame c.first, putNat c.slack, putNat c.length, putNat c.period,
      putFlag c.perFrame, putByte c.state.ctorIdx, putFlag c.outranked, putFlag c.unavailable,
      putOpt (fun w => [putFrame w.first, putNat w.slack, putNat w.length, putNat w.period].flatten) c.placement,
      putFlag c.withdrawing, putOpt (fun e => putByte e.ctorIdx) c.lastEnd].flatten) ∧
    s.putRecord .transactions x = [(s.sge.txns.map (putOpt s.putTxn)).flatten, putNat s.sge.queues.a.length,
      putList (putOpt putOwner) (s.sge.holds.a.map (·.owner)), putNat s.sge.queues.b.length,
      putList (putOpt putOwner) (s.sge.holds.b.map (·.owner)), putNat s.sge.nextIdent.a.toNat, putNat s.sge.nextIdent.b.toNat].flatten ∧
    (∀ t : Txn, s.putTxn t = [putSub t.sub, putByte t.kind.ctorIdx, putNat t.ident.toNat, putOwner t.owner, putByte t.state.ctorIdx,
      putOpt putNat t.answer, putOpt (fun g => putNat g.wait) ((s.sge.queues.get t.sub).find? fun g => g.isOpenerOf t.ident),
      putOpt putNat t.idle].flatten) ∧
    s.putRecord .contexts x = [((ctxIndexes.zip s.cal.contexts).map putContext).flatten, putList putNat s.cal.holdStack,
      putOpt putPending s.cal.pendingReq, putByte v.playout.ctorIdx, putOpt (fun c => putSub c.1 ++ putNat c.2) v.call,
      putNat v.queue.length, putNat v.uplink.length, putOpt (fun q => putNat q.toNat) v.position, putNat v.subRun,
      putFlag v.handover].flatten ∧
    (∀ i (c : CallContext), putContext (i, c) = [putNat i, putSub c.sub, putByte c.direction.ctorIdx, putNat c.callRef,
      putOpt (fun n => putNat n.toNat) c.networkIdent, putDigits c.digits, putOpt (fun a => putByte a.ctorIdx) c.screenAction,
      putOpt putNat c.screenEntry, putByte c.state.ctorIdx, putByte c.progress.ctorIdx, putFlag c.answerPending,
      putFlag c.connectWaiting, putOpt putCause c.endCause, putOpt putNat c.ring].flatten) ∧
    (∀ g : PendingReq, putPending g = putNat g.tag.toNat ++ match g.kind with
      | .hold | .resume => 1 :: putNat g.ctx
      | .answer j => 2 :: putNat g.ctx ++ putNat j) ∧
    s.putRecord .counts x = [putNat s.sge.stray, putNat s.dlc.unattributed, putNat s.dlc.filtered.a, putNat s.dlc.filtered.b,
      putNat v.overflow, putNat v.late, putNat v.lost, putNat v.upDrop, putNat s.txt.congestion, putNat s.txt.blocked, putNat s.txt.free,
      putNat s.txt.heldBuffers, putNat s.txt.outgoingHeld, putList putTextEntry (taken s.txt.entries), putNat s.hlc.lostReports,
      putByte s.hlc.host.ctorIdx, putNat s.hlc.queue.length, putNat s.hlc.results.length, putByte s.psc.power.ctorIdx].flatten ∧
    (∀ i (e : TextEntry), putTextEntry (i, e) = [putNat i, putByte (e.state.ctorIdx + 1), putSub e.sub, putDigits e.originator,
      putNat e.reference, putNat e.total, putList putNat (e.held.map (·.1)), putNat e.deadline].flatten) ∧
    s.putRecord .routes x = (s.dlc.routes.map fun e => match e with
      | .consume => [4, 4]
      | .route a d => putByte a.ctorIdx ++ putByte d.ctorIdx).flatten ∧
    s.putRecord .sleep x = [putNat s.psc.settleS, putNat s.psc.per.a.thr, putNat s.psc.per.a.factor, putNat s.psc.per.a.margin,
      putNat s.psc.per.b.thr, putNat s.psc.per.b.factor, putNat s.psc.per.b.margin].flatten)

/-- The reset input and the RESET request give every block its reset values (R171, R54, R18, R61, R78, R79, R86, R119, R137, R148). The model's choices: that a release while the input is not held changes nothing (log 1); that RESET_INPUT_ASSERT leaves the state as it is (DEDUCED, log 19); the reset values that R171's rules do not give: the item of the last rejection (log 23), the S noted at DEEP entry (log 31), the count of free speech frames (log 33), and that no frame after a reset is a recovery frame (log 35); that every transfer in progress at a reset carries fill for its rest, also one in which no outbound frame was being sent (log 74). The subscription, direction and call reference of the IDLE contexts are the model's choice (DESIGN CHOICE, log 50). -/
def Obligations.ResetsTakeEveryBlock : Prop :=
  (∀ s : State, ∃ t, exec .resetInputAssert s = .next t ∧ t.resetHeld = true ∧ t.pins = ⟨false, false, true⟩ ∧
      ({ s with resetHeld := true } : State).agrees t) ∧
    (∀ s : State, s.resetHeld = false → ∃ t, exec .resetInputRelease s = .next t ∧ s.agrees t) ∧
    ∀ (s : State) (f : HostFrame) (rest : List HostFrame) (c : Instr) (cause : ResetCause),
      ((c = .resetInputRelease ∧ s.resetHeld = true ∧ cause = .pin) ∨ (c = .reset ∧ s.asks f rest 21 [] ∧ cause = .request)) →
      ∃ t, exec c s = .next t ∧ t.pending = s.pending ∧ t.resetHeld = false ∧ t.pins = ⟨true, false, true⟩ ∧ t.clock = ⟨0, 0⟩ ∧
        t.rpt = Reset.rpt ∧ t.rta = Reset.rta ∧ t.dlc = Reset.dlc ∧ t.sge = Reset.sge ∧ t.sbs = Reset.sbs ∧ t.psc = Reset.psc ∧
        t.mob = Reset.both Reset.mobSub ∧ t.cal = Reset.cal ∧ t.vcp = Reset.vcp ∧ t.txt = Reset.txt ∧ t.hlc.host = .awake ∧
        t.hlc.inbound = [] ∧ t.hlc.results = [] ∧ t.hlc.slot = none ∧ t.hlc.queue = [⟨.report (.resetDone cause), true, false⟩] ∧
        t.hlc.lostReports = 0 ∧ t.hlc.lostWake = false ∧ t.hlc.sending = none ∧ (s.hlc.link ≠ .none → t.hlc.link = .fillOnly)

/-- The machine after reset meets every invariant stated of a step (R5, R9, R35, R48, R61, R147, R166, R168, R169, R119, R130, R139). -/
def Obligations.ResetMeetsTheInvariants : Prop :=
  State.reset.tablesOk ∧ State.reset.holdCountOk ∧ State.reset.faultCountOk ∧ State.reset.countsOk ∧ State.reset.hostQueuesOk ∧
    State.reset.uplinkOk ∧ State.reset.resultsOk ∧ State.reset.pinsOk ∧ State.reset.poolOk ∧ State.reset.consumeOk ∧
    State.reset.claimsOk ∧ State.reset.noneAsked ∧ State.reset.identsOk ∧ State.reset.levelsOk ∧ State.reset.callsOk ∧ State.reset.textsOk ∧
    State.reset.vcp.queuesOk ∧ State.reset.mob.a.tablesOk ∧ State.reset.mob.b.tablesOk ∧ State.reset.textsOffered

/-- What becomes of a unit at its end, and of a claim at the end of its unit, frame or window (R35, R36, R37, R39, R42, R43, R44, R45, R46, R47, R142). That a claim is settled before its owner is told is the model's reading (DEDUCED, log 7), as is that a window whose first frame's number has just passed neither opens nor ends before that number comes again, also at a re-arming (DEDUCED, log 34). That a pending placement whose window has passed at the unit's end is taken as it stands is the model's choice (DESIGN CHOICE, log 52). That a standing claim suspended with a placement pending enters HELD_OUT is the model's choice too (DESIGN CHOICE, log 58). Which placements of a boundary are taken where, those of the standing kinds that the end of a unit brings before step 2 of R42 and all others at the end of the step, by rank and subscription A first, is the model's choice where R36 and R42 leave it open (DESIGN CHOICE, log 4), and so is that the occurrences that end at one boundary are told to their owners by the index of their claims (DESIGN CHOICE, log 73). -/
def Obligations.UnitsEndAndClaimsAreSettled : Prop :=
  (∀ (c : Claim) (code : EndCode) (t : Frame),
    (∀ w, c.placement = some w → ∃ g, c.settled code t = some g ∧ g.first = w.first ∧ g.slack = w.slack ∧ g.length = w.length ∧
      g.period = w.period ∧ g.later = w.later ∧ g.placement = none ∧ g.withdrawing = false ∧ g.outranked = false ∧ g.unavailable = false ∧
      g.lastEnd = some code ∧ g.state = (if c.suspend then .heldOut else .waiting) ∧ g.sub = c.sub ∧ g.kind = c.kind) ∧
    (c.placement = none → c.withdrawing = true → c.settled code t = none) ∧
    (c.placement = none → c.withdrawing = false → c.perFrame = true →
      c.settled code t = some { c with state := if c.suspend then .heldOut else .waiting, suspend := false, lastEnd := some code }) ∧
    (c.placement = none → c.withdrawing = false → c.perFrame = false → c.period = 0 → c.settled code t = none) ∧
    (c.placement = none → c.withdrawing = false → c.perFrame = false → c.period ≠ 0 →
      ∃ n g, c.settled code t = some g ∧ g = { c with
          first := c.first + frameOf n, later := c.laterAfter n t, state := .waiting, outranked := false, unavailable := false,
          lastEnd := some code } ∧
        (latestBefore (c.first + frameOf c.period) c.slack t = false → n = c.period) ∧
        (∀ k, k ≤ 4095 → (∀ m, 1 ≤ m → m ≤ k → latestBefore (c.first + frameOf (m * c.period)) c.slack t = true) →
          latestBefore (c.first + frameOf ((k + 1) * c.period)) c.slack t = false → n = (k + 1) * c.period) ∧
        (g.later = true ↔ g.first ≠ t ∧ frameDist g.first t ≤ g.slack ∧ frameDist c.first t < n) ∧
        ∀ s : State, frameDist c.first t < n → g.first ≠ t → s.eligible t g = false)) ∧
  (∀ (s : State) (i : Nat) (c : Claim), entryAt s.rta.claims i = some c →
    (c.perFrame = false → c.state = .waiting → c.later = false → frameDist c.first s.clock.now = c.slack →
      ∀ code, code = (if c.unavailable = false ∧ c.outranked = true then .denied else .missed) →
        s.expireWindow (i, c) = (s.settleClaim i code).tellClaimOwner c.sub c.kind code none) ∧
    ((c.perFrame = true ∨ c.state ≠ .waiting ∨ c.later = true ∨ frameDist c.first s.clock.now ≠ c.slack) → s.expireWindow (i, c) = s)) ∧
  (∀ (s : State) (code : EndCode), s.trafficEnded code = if code = .done ∨ code = .withdrawn then s
    else { s with vcp := { s.vcp with lost := if s.vcp.lost < 255 then s.vcp.lost + 1 else 255 } }) ∧
  (∀ s : State, ∃ t, exec .frameBoundary s = .next t ∧
    t.rta.holders.head? = some (t.rta.unit.map fun u => ⟨u.sub, u.kind, u.first, u.withdrawn⟩) ∧
    ∀ u, s.rpt.order = none → s.rta.unit = some u → frameDist u.first (s.clock.now + 1) < u.length →
      (t.rta.unit.map fun v => (v.sub, v.kind, v.first, v.length)) = some (u.sub, u.kind, u.first, u.length)) ∧
  (∀ (s : State) (i : Nat) (c : Claim), s.rpt.order = none → s.rta.unit = none → 0 < s.rta.holdCount → taken s.rta.claims = [(i, c)] →
    c.kind = .measure → c.perFrame = false → c.state = .waiting → c.later = false → c.placement = none → c.withdrawing = false →
    c.period ≠ 0 → frameDist c.first (s.clock.now + 1) = c.slack → latestBefore (c.first + frameOf c.period) c.slack (s.clock.now + 2) = false →
    ∃ t, exec .frameBoundary s = .next t ∧ entryAt t.rta.claims i = some { c with
      first := c.first + frameOf c.period, later := c.laterAfter c.period (s.clock.now + 2), state := .waiting, outranked := false, unavailable := false, lastEnd := some .missed }) ∧
  (∀ (s : State) (u : RadioUnit) (faulted : Bool) (code : EndCode) (o : State), s.rta.unit = some u →
    code = (if u.withdrawn = true then .withdrawn else if faulted = true then .radioFault else .done) →
    o = { s with rta := { s.rta with unit := none } } →
    (∀ i c, s.claimOf u.sub u.kind = some (i, c) → s.endUnit faulted = (o.settleClaim i code).tellClaimOwner u.sub u.kind code (some u)) ∧
    (s.claimOf u.sub u.kind = none → s.endUnit faulted = o.tellClaimOwner u.sub u.kind code (some u)) ∧
    (∀ i c, entryAt s.rta.claims i = some c → entryAt (o.settleClaim i code).rta.claims i = c.settled code (s.clock.now + 1) ∧
      ∀ j, j ≠ i → entryAt (o.settleClaim i code).rta.claims j = entryAt s.rta.claims j) ∧
    o.tellClaimOwner u.sub .pagingListen code (some u) = o.listenEnded u.sub code (some u.first) ∧
    o.tellClaimOwner u.sub .beaconRead code (some u) = o.readEnded u.sub code u.kept ∧
    o.tellClaimOwner u.sub .measure code (some u) = o.measureEnded u.sub code u.cells u.result ∧
    o.tellClaimOwner u.sub .search code (some u) = o.searchEnded u.sub code u.freq u.kept ∧
    o.tellClaimOwner u.sub .handoverAccess code (some u) = o.accessEnded u.sub code u.goodNotice ∧
    o.tellClaimOwner u.sub .traffic code (some u) = o.trafficEnded code ∧
    o.tellClaimOwner u.sub .signalling code (some u) = o) ∧
  (∀ (s : State) (u : RadioUnit), s.rpt.order = none → s.rta.unit = some u → u.length ≤ frameDist u.first (s.clock.now + 1) →
    (∃ t g k : State, exec .frameBoundary s = .next t ∧ g.rta.unit = some u ∧ g.clock = ⟨s.clock.now + 1, 0⟩ ∧ g.sbs = s.sbs ∧ g.dlc = s.dlc ∧
      g.rpt = { s.rpt with recoveryNext := false } ∧ g.rta.copies = s.rta.copies ∧
      (∀ i c, entryAt s.rta.claims i = some c → entryAt g.rta.claims i = some (c.reached (s.clock.now + 1))) ∧
      (∀ x, (g.mobOf x).serving = (s.mobOf x).serving ∧ (g.mobOf x).neighbours = (s.mobOf x).neighbours ∧
        (g.mobOf x).ranking = (s.mobOf x).ranking ∧ (g.mobOf x).readPurpose = (s.mobOf x).readPurpose ∧
        (g.mobOf x).hoState = (s.mobOf x).hoState ∧ (g.mobOf x).returnRec = (s.mobOf x).returnRec ∧
        (g.pscOf x).listens = (s.pscOf x).listens ∧ (g.pscOf x).missed = (s.pscOf x).missed ∧ (g.pscOf x).denied = (s.pscOf x).denied) ∧
      k = ((g.endUnit false).takeStanding.grant s.rpt.recoveryNext).recordHolder.expireWindows ∧
      ((placementOrder.foldl State.takeTurn k).setAsked s.rta.asked).agreesButSleep t) ∧
    ∀ b, s.callsOk → u.kind = .search → u.withdrawn = false → u.kept = some b → s.activity u.sub = .noService →
      ∃ t, exec .frameBoundary s = .next t ∧ (t.activity u.sub).isCampedState = true ∧
        t.serving u.sub = some ⟨b.cellId, u.freq, b.area, b.offset, b.phase, b.c, b.qmin, false, some (16 * clampLevel b.level), 0, true⟩)

/-- Every step keeps the counts and queues in their bounds, the tables' sizes and the CONSUME entries (R5, R9, R11, R35, R48, R51, R61, R89, R148, R162, R166, R168). -/
def Obligations.StepKeepsCapacities : Prop :=
  (∀ s t : State, s.holdCountOk ∧ s.faultCountOk ∧ s.countsOk ∧ s.hostQueuesOk ∧ s.uplinkOk ∧ s.resultsOk → step s = .next t →
    t.holdCountOk ∧ t.faultCountOk ∧ t.countsOk ∧ t.hostQueuesOk ∧ t.uplinkOk ∧ t.resultsOk) ∧
  (∀ s t : State, s.tablesOk ∧ s.consumeOk → step s = .next t → t.tablesOk ∧ t.consumeOk)

/-- Every step keeps one claim per kind and subscription, and one transaction per ident and subscription (R6, R35). The second part is about the model's own field (log 4). -/
def Obligations.StepKeepsClaimsAndIdentsDistinct : Prop :=
  (∀ s t : State, s.tablesOk ∧ s.claimsOk ∧ s.identsOk → step s = .next t → t.claimsOk ∧ t.identsOk) ∧
  (∀ s t : State, s.noneAsked → step s = .next t → t.noneAsked)

/-- Every step leaves ATTN, WAKE and the oscillator enable as the state drives them (R169, R79). -/
def Obligations.StepDrivesTheLines : Prop :=
  (∀ (s t : State) (c : Instr), exec c s = .next t → t.pinsOk) ∧
    (∀ s t : State, s.pinsOk → step s = .next t → t.pinsOk) ∧
    ∀ t : State, t.pinsOk → t.resetHeld = false →
      (t.pins.attn = true ↔ (t.hlc.host = .awake ∧ (t.hlc.results ≠ [] ∨ t.hlc.slot ≠ none ∨ t.hlc.queue ≠ [])) ∨
        (t.hlc.host = .dozing ∧ (t.hlc.results ≠ [] ∨ ∃ e ∈ t.hlc.queue, e.prompt = true))) ∧
      (t.pins.wake = true ↔ t.hlc.host = .dozing ∧ ((∃ e ∈ t.hlc.queue, e.wake = true) ∨ t.hlc.lostWake = true ∨
        (32 ≤ t.hlc.queue.length ∧ ∃ e, some e ∈ t.txt.entries ∧ e.state = .complete ∧ e.action = .wake))) ∧
      (t.pins.oscEnable = false ↔ t.psc.power = .deep)

/-- Every step keeps what the rules of the calls and the activity states hold together (R20, R17, R24, R25, R112, R119, R127, R130, R136, R138). -/
def Obligations.StepKeepsCalls : Prop :=
  ∀ s t : State, s.tablesOk → s.callsOk → step s = .next t → t.callsOk

/-- Every step keeps the segment pool whole, each text's key its own and the playout queue in order (R139, R143, R147, R148, R157, R158). -/
def Obligations.StepKeepsTextsAndPlayout : Prop :=
  (∀ s t : State, s.tablesOk → s.textsOk → step s = .next t → t.textsOk) ∧
  (∀ s t : State, s.vcp.queuesOk → step s = .next t → t.vcp.queuesOk)
end

