-- ==== Sys2Proof/Laws/State.lean ====
section
/-! SUPPORT. What each update of one part of State leaves in each field, and how the per-subscription pairs are read after a write. -/

namespace Sys2Proof.Machine

/-! ### Pairs -/

variable {α : Type}

@[simp] theorem PerSub.get_set_same (p : PerSub α) (x : Sub) (v : α) : (p.set x v).get x = v := by cases x <;> rfl
@[simp] theorem PerSub.get_set_other (p : PerSub α) (x : Sub) (v : α) : (p.set x v).get x.other = p.get x.other := by
  cases x <;> rfl
@[simp] theorem PerSub.get_other_set (p : PerSub α) (x : Sub) (v : α) : (p.set x.other v).get x = p.get x := by cases x <;> rfl
@[simp] theorem PerSub.get_upd_same (p : PerSub α) (x : Sub) (f : α → α) : (p.upd x f).get x = f (p.get x) := by cases x <;> rfl
@[simp] theorem PerSub.get_upd_other (p : PerSub α) (x : Sub) (f : α → α) : (p.upd x f).get x.other = p.get x.other := by
  cases x <;> rfl
theorem PerSub.get_set (p : PerSub α) (x y : Sub) (v : α) : (p.set x v).get y = if y = x then v else p.get y := by
  cases x <;> cases y <;> rfl
theorem PerSub.get_upd (p : PerSub α) (x y : Sub) (f : α → α) : (p.upd x f).get y = if y = x then f (p.get y) else p.get y := by
  cases x <;> cases y <;> rfl
theorem PerSub.ext_get {p q : PerSub α} (h : ∀ x, p.get x = q.get x) : p = q := by
  cases p; cases q; exact congr (congrArg PerSub.mk (h .a)) (h .b)
@[simp] theorem other_other (x : Sub) : x.other.other = x := by cases x <;> rfl
theorem other_ne (x : Sub) : x.other ≠ x := by cases x <;> decide

/-! ### Fields -/

@[simp] theorem State.onClock_pending (f : Clock → Clock) (s : State) : (s.onClock f).pending = s.pending := rfl
@[simp] theorem State.onClock_resetHeld (f : Clock → Clock) (s : State) : (s.onClock f).resetHeld = s.resetHeld := rfl
@[simp] theorem State.onClock_pins (f : Clock → Clock) (s : State) : (s.onClock f).pins = s.pins := rfl
@[simp] theorem State.onClock_clock (f : Clock → Clock) (s : State) : (s.onClock f).clock = f s.clock := rfl
@[simp] theorem State.onClock_rpt (f : Clock → Clock) (s : State) : (s.onClock f).rpt = s.rpt := rfl
@[simp] theorem State.onClock_rta (f : Clock → Clock) (s : State) : (s.onClock f).rta = s.rta := rfl
@[simp] theorem State.onClock_dlc (f : Clock → Clock) (s : State) : (s.onClock f).dlc = s.dlc := rfl
@[simp] theorem State.onClock_sge (f : Clock → Clock) (s : State) : (s.onClock f).sge = s.sge := rfl
@[simp] theorem State.onClock_sbs (f : Clock → Clock) (s : State) : (s.onClock f).sbs = s.sbs := rfl
@[simp] theorem State.onClock_psc (f : Clock → Clock) (s : State) : (s.onClock f).psc = s.psc := rfl
@[simp] theorem State.onClock_mob (f : Clock → Clock) (s : State) : (s.onClock f).mob = s.mob := rfl
@[simp] theorem State.onClock_cal (f : Clock → Clock) (s : State) : (s.onClock f).cal = s.cal := rfl
@[simp] theorem State.onClock_vcp (f : Clock → Clock) (s : State) : (s.onClock f).vcp = s.vcp := rfl
@[simp] theorem State.onClock_txt (f : Clock → Clock) (s : State) : (s.onClock f).txt = s.txt := rfl
@[simp] theorem State.onClock_hlc (f : Clock → Clock) (s : State) : (s.onClock f).hlc = s.hlc := rfl

@[simp] theorem State.onRpt_pending (f : Rpt → Rpt) (s : State) : (s.onRpt f).pending = s.pending := rfl
@[simp] theorem State.onRpt_resetHeld (f : Rpt → Rpt) (s : State) : (s.onRpt f).resetHeld = s.resetHeld := rfl
@[simp] theorem State.onRpt_pins (f : Rpt → Rpt) (s : State) : (s.onRpt f).pins = s.pins := rfl
@[simp] theorem State.onRpt_clock (f : Rpt → Rpt) (s : State) : (s.onRpt f).clock = s.clock := rfl
@[simp] theorem State.onRpt_rpt (f : Rpt → Rpt) (s : State) : (s.onRpt f).rpt = f s.rpt := rfl
@[simp] theorem State.onRpt_rta (f : Rpt → Rpt) (s : State) : (s.onRpt f).rta = s.rta := rfl
@[simp] theorem State.onRpt_dlc (f : Rpt → Rpt) (s : State) : (s.onRpt f).dlc = s.dlc := rfl
@[simp] theorem State.onRpt_sge (f : Rpt → Rpt) (s : State) : (s.onRpt f).sge = s.sge := rfl
@[simp] theorem State.onRpt_sbs (f : Rpt → Rpt) (s : State) : (s.onRpt f).sbs = s.sbs := rfl
@[simp] theorem State.onRpt_psc (f : Rpt → Rpt) (s : State) : (s.onRpt f).psc = s.psc := rfl
@[simp] theorem State.onRpt_mob (f : Rpt → Rpt) (s : State) : (s.onRpt f).mob = s.mob := rfl
@[simp] theorem State.onRpt_cal (f : Rpt → Rpt) (s : State) : (s.onRpt f).cal = s.cal := rfl
@[simp] theorem State.onRpt_vcp (f : Rpt → Rpt) (s : State) : (s.onRpt f).vcp = s.vcp := rfl
@[simp] theorem State.onRpt_txt (f : Rpt → Rpt) (s : State) : (s.onRpt f).txt = s.txt := rfl
@[simp] theorem State.onRpt_hlc (f : Rpt → Rpt) (s : State) : (s.onRpt f).hlc = s.hlc := rfl

@[simp] theorem State.onRta_pending (f : Rta → Rta) (s : State) : (s.onRta f).pending = s.pending := rfl
@[simp] theorem State.onRta_resetHeld (f : Rta → Rta) (s : State) : (s.onRta f).resetHeld = s.resetHeld := rfl
@[simp] theorem State.onRta_pins (f : Rta → Rta) (s : State) : (s.onRta f).pins = s.pins := rfl
@[simp] theorem State.onRta_clock (f : Rta → Rta) (s : State) : (s.onRta f).clock = s.clock := rfl
@[simp] theorem State.onRta_rpt (f : Rta → Rta) (s : State) : (s.onRta f).rpt = s.rpt := rfl
@[simp] theorem State.onRta_rta (f : Rta → Rta) (s : State) : (s.onRta f).rta = f s.rta := rfl
@[simp] theorem State.onRta_dlc (f : Rta → Rta) (s : State) : (s.onRta f).dlc = s.dlc := rfl
@[simp] theorem State.onRta_sge (f : Rta → Rta) (s : State) : (s.onRta f).sge = s.sge := rfl
@[simp] theorem State.onRta_sbs (f : Rta → Rta) (s : State) : (s.onRta f).sbs = s.sbs := rfl
@[simp] theorem State.onRta_psc (f : Rta → Rta) (s : State) : (s.onRta f).psc = s.psc := rfl
@[simp] theorem State.onRta_mob (f : Rta → Rta) (s : State) : (s.onRta f).mob = s.mob := rfl
@[simp] theorem State.onRta_cal (f : Rta → Rta) (s : State) : (s.onRta f).cal = s.cal := rfl
@[simp] theorem State.onRta_vcp (f : Rta → Rta) (s : State) : (s.onRta f).vcp = s.vcp := rfl
@[simp] theorem State.onRta_txt (f : Rta → Rta) (s : State) : (s.onRta f).txt = s.txt := rfl
@[simp] theorem State.onRta_hlc (f : Rta → Rta) (s : State) : (s.onRta f).hlc = s.hlc := rfl

@[simp] theorem State.onDlc_pending (f : Dlc → Dlc) (s : State) : (s.onDlc f).pending = s.pending := rfl
@[simp] theorem State.onDlc_resetHeld (f : Dlc → Dlc) (s : State) : (s.onDlc f).resetHeld = s.resetHeld := rfl
@[simp] theorem State.onDlc_pins (f : Dlc → Dlc) (s : State) : (s.onDlc f).pins = s.pins := rfl
@[simp] theorem State.onDlc_clock (f : Dlc → Dlc) (s : State) : (s.onDlc f).clock = s.clock := rfl
@[simp] theorem State.onDlc_rpt (f : Dlc → Dlc) (s : State) : (s.onDlc f).rpt = s.rpt := rfl
@[simp] theorem State.onDlc_rta (f : Dlc → Dlc) (s : State) : (s.onDlc f).rta = s.rta := rfl
@[simp] theorem State.onDlc_dlc (f : Dlc → Dlc) (s : State) : (s.onDlc f).dlc = f s.dlc := rfl
@[simp] theorem State.onDlc_sge (f : Dlc → Dlc) (s : State) : (s.onDlc f).sge = s.sge := rfl
@[simp] theorem State.onDlc_sbs (f : Dlc → Dlc) (s : State) : (s.onDlc f).sbs = s.sbs := rfl
@[simp] theorem State.onDlc_psc (f : Dlc → Dlc) (s : State) : (s.onDlc f).psc = s.psc := rfl
@[simp] theorem State.onDlc_mob (f : Dlc → Dlc) (s : State) : (s.onDlc f).mob = s.mob := rfl
@[simp] theorem State.onDlc_cal (f : Dlc → Dlc) (s : State) : (s.onDlc f).cal = s.cal := rfl
@[simp] theorem State.onDlc_vcp (f : Dlc → Dlc) (s : State) : (s.onDlc f).vcp = s.vcp := rfl
@[simp] theorem State.onDlc_txt (f : Dlc → Dlc) (s : State) : (s.onDlc f).txt = s.txt := rfl
@[simp] theorem State.onDlc_hlc (f : Dlc → Dlc) (s : State) : (s.onDlc f).hlc = s.hlc := rfl

@[simp] theorem State.onSge_pending (f : Sge → Sge) (s : State) : (s.onSge f).pending = s.pending := rfl
@[simp] theorem State.onSge_resetHeld (f : Sge → Sge) (s : State) : (s.onSge f).resetHeld = s.resetHeld := rfl
@[simp] theorem State.onSge_pins (f : Sge → Sge) (s : State) : (s.onSge f).pins = s.pins := rfl
@[simp] theorem State.onSge_clock (f : Sge → Sge) (s : State) : (s.onSge f).clock = s.clock := rfl
@[simp] theorem State.onSge_rpt (f : Sge → Sge) (s : State) : (s.onSge f).rpt = s.rpt := rfl
@[simp] theorem State.onSge_rta (f : Sge → Sge) (s : State) : (s.onSge f).rta = s.rta := rfl
@[simp] theorem State.onSge_dlc (f : Sge → Sge) (s : State) : (s.onSge f).dlc = s.dlc := rfl
@[simp] theorem State.onSge_sge (f : Sge → Sge) (s : State) : (s.onSge f).sge = f s.sge := rfl
@[simp] theorem State.onSge_sbs (f : Sge → Sge) (s : State) : (s.onSge f).sbs = s.sbs := rfl
@[simp] theorem State.onSge_psc (f : Sge → Sge) (s : State) : (s.onSge f).psc = s.psc := rfl
@[simp] theorem State.onSge_mob (f : Sge → Sge) (s : State) : (s.onSge f).mob = s.mob := rfl
@[simp] theorem State.onSge_cal (f : Sge → Sge) (s : State) : (s.onSge f).cal = s.cal := rfl
@[simp] theorem State.onSge_vcp (f : Sge → Sge) (s : State) : (s.onSge f).vcp = s.vcp := rfl
@[simp] theorem State.onSge_txt (f : Sge → Sge) (s : State) : (s.onSge f).txt = s.txt := rfl
@[simp] theorem State.onSge_hlc (f : Sge → Sge) (s : State) : (s.onSge f).hlc = s.hlc := rfl

@[simp] theorem State.onSbs_pending (f : Sbs → Sbs) (s : State) : (s.onSbs f).pending = s.pending := rfl
@[simp] theorem State.onSbs_resetHeld (f : Sbs → Sbs) (s : State) : (s.onSbs f).resetHeld = s.resetHeld := rfl
@[simp] theorem State.onSbs_pins (f : Sbs → Sbs) (s : State) : (s.onSbs f).pins = s.pins := rfl
@[simp] theorem State.onSbs_clock (f : Sbs → Sbs) (s : State) : (s.onSbs f).clock = s.clock := rfl
@[simp] theorem State.onSbs_rpt (f : Sbs → Sbs) (s : State) : (s.onSbs f).rpt = s.rpt := rfl
@[simp] theorem State.onSbs_rta (f : Sbs → Sbs) (s : State) : (s.onSbs f).rta = s.rta := rfl
@[simp] theorem State.onSbs_dlc (f : Sbs → Sbs) (s : State) : (s.onSbs f).dlc = s.dlc := rfl
@[simp] theorem State.onSbs_sge (f : Sbs → Sbs) (s : State) : (s.onSbs f).sge = s.sge := rfl
@[simp] theorem State.onSbs_sbs (f : Sbs → Sbs) (s : State) : (s.onSbs f).sbs = f s.sbs := rfl
@[simp] theorem State.onSbs_psc (f : Sbs → Sbs) (s : State) : (s.onSbs f).psc = s.psc := rfl
@[simp] theorem State.onSbs_mob (f : Sbs → Sbs) (s : State) : (s.onSbs f).mob = s.mob := rfl
@[simp] theorem State.onSbs_cal (f : Sbs → Sbs) (s : State) : (s.onSbs f).cal = s.cal := rfl
@[simp] theorem State.onSbs_vcp (f : Sbs → Sbs) (s : State) : (s.onSbs f).vcp = s.vcp := rfl
@[simp] theorem State.onSbs_txt (f : Sbs → Sbs) (s : State) : (s.onSbs f).txt = s.txt := rfl
@[simp] theorem State.onSbs_hlc (f : Sbs → Sbs) (s : State) : (s.onSbs f).hlc = s.hlc := rfl

@[simp] theorem State.onPsc_pending (f : Psc → Psc) (s : State) : (s.onPsc f).pending = s.pending := rfl
@[simp] theorem State.onPsc_resetHeld (f : Psc → Psc) (s : State) : (s.onPsc f).resetHeld = s.resetHeld := rfl
@[simp] theorem State.onPsc_pins (f : Psc → Psc) (s : State) : (s.onPsc f).pins = s.pins := rfl
@[simp] theorem State.onPsc_clock (f : Psc → Psc) (s : State) : (s.onPsc f).clock = s.clock := rfl
@[simp] theorem State.onPsc_rpt (f : Psc → Psc) (s : State) : (s.onPsc f).rpt = s.rpt := rfl
@[simp] theorem State.onPsc_rta (f : Psc → Psc) (s : State) : (s.onPsc f).rta = s.rta := rfl
@[simp] theorem State.onPsc_dlc (f : Psc → Psc) (s : State) : (s.onPsc f).dlc = s.dlc := rfl
@[simp] theorem State.onPsc_sge (f : Psc → Psc) (s : State) : (s.onPsc f).sge = s.sge := rfl
@[simp] theorem State.onPsc_sbs (f : Psc → Psc) (s : State) : (s.onPsc f).sbs = s.sbs := rfl
@[simp] theorem State.onPsc_psc (f : Psc → Psc) (s : State) : (s.onPsc f).psc = f s.psc := rfl
@[simp] theorem State.onPsc_mob (f : Psc → Psc) (s : State) : (s.onPsc f).mob = s.mob := rfl
@[simp] theorem State.onPsc_cal (f : Psc → Psc) (s : State) : (s.onPsc f).cal = s.cal := rfl
@[simp] theorem State.onPsc_vcp (f : Psc → Psc) (s : State) : (s.onPsc f).vcp = s.vcp := rfl
@[simp] theorem State.onPsc_txt (f : Psc → Psc) (s : State) : (s.onPsc f).txt = s.txt := rfl
@[simp] theorem State.onPsc_hlc (f : Psc → Psc) (s : State) : (s.onPsc f).hlc = s.hlc := rfl

@[simp] theorem State.onMob_pending (f : PerSub MobSub → PerSub MobSub) (s : State) : (s.onMob f).pending = s.pending := rfl
@[simp] theorem State.onMob_resetHeld (f : PerSub MobSub → PerSub MobSub) (s : State) : (s.onMob f).resetHeld = s.resetHeld := rfl
@[simp] theorem State.onMob_pins (f : PerSub MobSub → PerSub MobSub) (s : State) : (s.onMob f).pins = s.pins := rfl
@[simp] theorem State.onMob_clock (f : PerSub MobSub → PerSub MobSub) (s : State) : (s.onMob f).clock = s.clock := rfl
@[simp] theorem State.onMob_rpt (f : PerSub MobSub → PerSub MobSub) (s : State) : (s.onMob f).rpt = s.rpt := rfl
@[simp] theorem State.onMob_rta (f : PerSub MobSub → PerSub MobSub) (s : State) : (s.onMob f).rta = s.rta := rfl
@[simp] theorem State.onMob_dlc (f : PerSub MobSub → PerSub MobSub) (s : State) : (s.onMob f).dlc = s.dlc := rfl
@[simp] theorem State.onMob_sge (f : PerSub MobSub → PerSub MobSub) (s : State) : (s.onMob f).sge = s.sge := rfl
@[simp] theorem State.onMob_sbs (f : PerSub MobSub → PerSub MobSub) (s : State) : (s.onMob f).sbs = s.sbs := rfl
@[simp] theorem State.onMob_psc (f : PerSub MobSub → PerSub MobSub) (s : State) : (s.onMob f).psc = s.psc := rfl
@[simp] theorem State.onMob_mob (f : PerSub MobSub → PerSub MobSub) (s : State) : (s.onMob f).mob = f s.mob := rfl
@[simp] theorem State.onMob_cal (f : PerSub MobSub → PerSub MobSub) (s : State) : (s.onMob f).cal = s.cal := rfl
@[simp] theorem State.onMob_vcp (f : PerSub MobSub → PerSub MobSub) (s : State) : (s.onMob f).vcp = s.vcp := rfl
@[simp] theorem State.onMob_txt (f : PerSub MobSub → PerSub MobSub) (s : State) : (s.onMob f).txt = s.txt := rfl
@[simp] theorem State.onMob_hlc (f : PerSub MobSub → PerSub MobSub) (s : State) : (s.onMob f).hlc = s.hlc := rfl

@[simp] theorem State.onCal_pending (f : Cal → Cal) (s : State) : (s.onCal f).pending = s.pending := rfl
@[simp] theorem State.onCal_resetHeld (f : Cal → Cal) (s : State) : (s.onCal f).resetHeld = s.resetHeld := rfl
@[simp] theorem State.onCal_pins (f : Cal → Cal) (s : State) : (s.onCal f).pins = s.pins := rfl
@[simp] theorem State.onCal_clock (f : Cal → Cal) (s : State) : (s.onCal f).clock = s.clock := rfl
@[simp] theorem State.onCal_rpt (f : Cal → Cal) (s : State) : (s.onCal f).rpt = s.rpt := rfl
@[simp] theorem State.onCal_rta (f : Cal → Cal) (s : State) : (s.onCal f).rta = s.rta := rfl
@[simp] theorem State.onCal_dlc (f : Cal → Cal) (s : State) : (s.onCal f).dlc = s.dlc := rfl
@[simp] theorem State.onCal_sge (f : Cal → Cal) (s : State) : (s.onCal f).sge = s.sge := rfl
@[simp] theorem State.onCal_sbs (f : Cal → Cal) (s : State) : (s.onCal f).sbs = s.sbs := rfl
@[simp] theorem State.onCal_psc (f : Cal → Cal) (s : State) : (s.onCal f).psc = s.psc := rfl
@[simp] theorem State.onCal_mob (f : Cal → Cal) (s : State) : (s.onCal f).mob = s.mob := rfl
@[simp] theorem State.onCal_cal (f : Cal → Cal) (s : State) : (s.onCal f).cal = f s.cal := rfl
@[simp] theorem State.onCal_vcp (f : Cal → Cal) (s : State) : (s.onCal f).vcp = s.vcp := rfl
@[simp] theorem State.onCal_txt (f : Cal → Cal) (s : State) : (s.onCal f).txt = s.txt := rfl
@[simp] theorem State.onCal_hlc (f : Cal → Cal) (s : State) : (s.onCal f).hlc = s.hlc := rfl

@[simp] theorem State.onVcp_pending (f : Vcp → Vcp) (s : State) : (s.onVcp f).pending = s.pending := rfl
@[simp] theorem State.onVcp_resetHeld (f : Vcp → Vcp) (s : State) : (s.onVcp f).resetHeld = s.resetHeld := rfl
@[simp] theorem State.onVcp_pins (f : Vcp → Vcp) (s : State) : (s.onVcp f).pins = s.pins := rfl
@[simp] theorem State.onVcp_clock (f : Vcp → Vcp) (s : State) : (s.onVcp f).clock = s.clock := rfl
@[simp] theorem State.onVcp_rpt (f : Vcp → Vcp) (s : State) : (s.onVcp f).rpt = s.rpt := rfl
@[simp] theorem State.onVcp_rta (f : Vcp → Vcp) (s : State) : (s.onVcp f).rta = s.rta := rfl
@[simp] theorem State.onVcp_dlc (f : Vcp → Vcp) (s : State) : (s.onVcp f).dlc = s.dlc := rfl
@[simp] theorem State.onVcp_sge (f : Vcp → Vcp) (s : State) : (s.onVcp f).sge = s.sge := rfl
@[simp] theorem State.onVcp_sbs (f : Vcp → Vcp) (s : State) : (s.onVcp f).sbs = s.sbs := rfl
@[simp] theorem State.onVcp_psc (f : Vcp → Vcp) (s : State) : (s.onVcp f).psc = s.psc := rfl
@[simp] theorem State.onVcp_mob (f : Vcp → Vcp) (s : State) : (s.onVcp f).mob = s.mob := rfl
@[simp] theorem State.onVcp_cal (f : Vcp → Vcp) (s : State) : (s.onVcp f).cal = s.cal := rfl
@[simp] theorem State.onVcp_vcp (f : Vcp → Vcp) (s : State) : (s.onVcp f).vcp = f s.vcp := rfl
@[simp] theorem State.onVcp_txt (f : Vcp → Vcp) (s : State) : (s.onVcp f).txt = s.txt := rfl
@[simp] theorem State.onVcp_hlc (f : Vcp → Vcp) (s : State) : (s.onVcp f).hlc = s.hlc := rfl

@[simp] theorem State.onTxt_pending (f : Txt → Txt) (s : State) : (s.onTxt f).pending = s.pending := rfl
@[simp] theorem State.onTxt_resetHeld (f : Txt → Txt) (s : State) : (s.onTxt f).resetHeld = s.resetHeld := rfl
@[simp] theorem State.onTxt_pins (f : Txt → Txt) (s : State) : (s.onTxt f).pins = s.pins := rfl
@[simp] theorem State.onTxt_clock (f : Txt → Txt) (s : State) : (s.onTxt f).clock = s.clock := rfl
@[simp] theorem State.onTxt_rpt (f : Txt → Txt) (s : State) : (s.onTxt f).rpt = s.rpt := rfl
@[simp] theorem State.onTxt_rta (f : Txt → Txt) (s : State) : (s.onTxt f).rta = s.rta := rfl
@[simp] theorem State.onTxt_dlc (f : Txt → Txt) (s : State) : (s.onTxt f).dlc = s.dlc := rfl
@[simp] theorem State.onTxt_sge (f : Txt → Txt) (s : State) : (s.onTxt f).sge = s.sge := rfl
@[simp] theorem State.onTxt_sbs (f : Txt → Txt) (s : State) : (s.onTxt f).sbs = s.sbs := rfl
@[simp] theorem State.onTxt_psc (f : Txt → Txt) (s : State) : (s.onTxt f).psc = s.psc := rfl
@[simp] theorem State.onTxt_mob (f : Txt → Txt) (s : State) : (s.onTxt f).mob = s.mob := rfl
@[simp] theorem State.onTxt_cal (f : Txt → Txt) (s : State) : (s.onTxt f).cal = s.cal := rfl
@[simp] theorem State.onTxt_vcp (f : Txt → Txt) (s : State) : (s.onTxt f).vcp = s.vcp := rfl
@[simp] theorem State.onTxt_txt (f : Txt → Txt) (s : State) : (s.onTxt f).txt = f s.txt := rfl
@[simp] theorem State.onTxt_hlc (f : Txt → Txt) (s : State) : (s.onTxt f).hlc = s.hlc := rfl

@[simp] theorem State.onHlc_pending (f : Hlc → Hlc) (s : State) : (s.onHlc f).pending = s.pending := rfl
@[simp] theorem State.onHlc_resetHeld (f : Hlc → Hlc) (s : State) : (s.onHlc f).resetHeld = s.resetHeld := rfl
@[simp] theorem State.onHlc_pins (f : Hlc → Hlc) (s : State) : (s.onHlc f).pins = s.pins := rfl
@[simp] theorem State.onHlc_clock (f : Hlc → Hlc) (s : State) : (s.onHlc f).clock = s.clock := rfl
@[simp] theorem State.onHlc_rpt (f : Hlc → Hlc) (s : State) : (s.onHlc f).rpt = s.rpt := rfl
@[simp] theorem State.onHlc_rta (f : Hlc → Hlc) (s : State) : (s.onHlc f).rta = s.rta := rfl
@[simp] theorem State.onHlc_dlc (f : Hlc → Hlc) (s : State) : (s.onHlc f).dlc = s.dlc := rfl
@[simp] theorem State.onHlc_sge (f : Hlc → Hlc) (s : State) : (s.onHlc f).sge = s.sge := rfl
@[simp] theorem State.onHlc_sbs (f : Hlc → Hlc) (s : State) : (s.onHlc f).sbs = s.sbs := rfl
@[simp] theorem State.onHlc_psc (f : Hlc → Hlc) (s : State) : (s.onHlc f).psc = s.psc := rfl
@[simp] theorem State.onHlc_mob (f : Hlc → Hlc) (s : State) : (s.onHlc f).mob = s.mob := rfl
@[simp] theorem State.onHlc_cal (f : Hlc → Hlc) (s : State) : (s.onHlc f).cal = s.cal := rfl
@[simp] theorem State.onHlc_vcp (f : Hlc → Hlc) (s : State) : (s.onHlc f).vcp = s.vcp := rfl
@[simp] theorem State.onHlc_txt (f : Hlc → Hlc) (s : State) : (s.onHlc f).txt = s.txt := rfl
@[simp] theorem State.onHlc_hlc (f : Hlc → Hlc) (s : State) : (s.onHlc f).hlc = f s.hlc := rfl

@[simp] theorem State.drivePins_pending (s : State) : s.drivePins.pending = s.pending := rfl
@[simp] theorem State.drivePins_resetHeld (s : State) : s.drivePins.resetHeld = s.resetHeld := rfl
@[simp] theorem State.drivePins_pins (s : State) : s.drivePins.pins = s.pinsNow := rfl
@[simp] theorem State.drivePins_clock (s : State) : s.drivePins.clock = s.clock := rfl
@[simp] theorem State.drivePins_rpt (s : State) : s.drivePins.rpt = s.rpt := rfl
@[simp] theorem State.drivePins_rta (s : State) : s.drivePins.rta = s.rta := rfl
@[simp] theorem State.drivePins_dlc (s : State) : s.drivePins.dlc = s.dlc := rfl
@[simp] theorem State.drivePins_sge (s : State) : s.drivePins.sge = s.sge := rfl
@[simp] theorem State.drivePins_sbs (s : State) : s.drivePins.sbs = s.sbs := rfl
@[simp] theorem State.drivePins_psc (s : State) : s.drivePins.psc = s.psc := rfl
@[simp] theorem State.drivePins_mob (s : State) : s.drivePins.mob = s.mob := rfl
@[simp] theorem State.drivePins_cal (s : State) : s.drivePins.cal = s.cal := rfl
@[simp] theorem State.drivePins_vcp (s : State) : s.drivePins.vcp = s.vcp := rfl
@[simp] theorem State.drivePins_txt (s : State) : s.drivePins.txt = s.txt := rfl
@[simp] theorem State.drivePins_hlc (s : State) : s.drivePins.hlc = s.hlc := rfl

/-! ### The parts of a subscription -/

@[simp] theorem State.record_onRecord (x : Sub) (f : SubRecord → SubRecord) (s : State) : (s.onRecord x f).record x = f (s.record x) := by
  cases x <;> rfl
@[simp] theorem State.record_onRecord_other (x : Sub) (f : SubRecord → SubRecord) (s : State) :
    (s.onRecord x f).record x.other = s.record x.other := by cases x <;> rfl
@[simp] theorem State.pscOf_onPscOf (x : Sub) (f : PscSub → PscSub) (s : State) : (s.onPscOf x f).pscOf x = f (s.pscOf x) := by
  cases x <;> rfl
@[simp] theorem State.pscOf_onPscOf_other (x : Sub) (f : PscSub → PscSub) (s : State) :
    (s.onPscOf x f).pscOf x.other = s.pscOf x.other := by cases x <;> rfl
@[simp] theorem State.mobOf_onMobOf (x : Sub) (f : MobSub → MobSub) (s : State) : (s.onMobOf x f).mobOf x = f (s.mobOf x) := by
  cases x <;> rfl
@[simp] theorem State.mobOf_onMobOf_other (x : Sub) (f : MobSub → MobSub) (s : State) :
    (s.onMobOf x f).mobOf x.other = s.mobOf x.other := by cases x <;> rfl

@[simp] theorem State.onRecord_pending (x : Sub) (f : SubRecord → SubRecord) (s : State) : (s.onRecord x f).pending = s.pending := rfl
@[simp] theorem State.onRecord_resetHeld (x : Sub) (f : SubRecord → SubRecord) (s : State) : (s.onRecord x f).resetHeld = s.resetHeld := rfl
@[simp] theorem State.onRecord_pins (x : Sub) (f : SubRecord → SubRecord) (s : State) : (s.onRecord x f).pins = s.pins := rfl
@[simp] theorem State.onRecord_clock (x : Sub) (f : SubRecord → SubRecord) (s : State) : (s.onRecord x f).clock = s.clock := rfl
@[simp] theorem State.onRecord_rpt (x : Sub) (f : SubRecord → SubRecord) (s : State) : (s.onRecord x f).rpt = s.rpt := rfl
@[simp] theorem State.onRecord_rta (x : Sub) (f : SubRecord → SubRecord) (s : State) : (s.onRecord x f).rta = s.rta := rfl
@[simp] theorem State.onRecord_dlc (x : Sub) (f : SubRecord → SubRecord) (s : State) : (s.onRecord x f).dlc = s.dlc := rfl
@[simp] theorem State.onRecord_sge (x : Sub) (f : SubRecord → SubRecord) (s : State) : (s.onRecord x f).sge = s.sge := rfl
@[simp] theorem State.onRecord_psc (x : Sub) (f : SubRecord → SubRecord) (s : State) : (s.onRecord x f).psc = s.psc := rfl
@[simp] theorem State.onRecord_mob (x : Sub) (f : SubRecord → SubRecord) (s : State) : (s.onRecord x f).mob = s.mob := rfl
@[simp] theorem State.onRecord_cal (x : Sub) (f : SubRecord → SubRecord) (s : State) : (s.onRecord x f).cal = s.cal := rfl
@[simp] theorem State.onRecord_vcp (x : Sub) (f : SubRecord → SubRecord) (s : State) : (s.onRecord x f).vcp = s.vcp := rfl
@[simp] theorem State.onRecord_txt (x : Sub) (f : SubRecord → SubRecord) (s : State) : (s.onRecord x f).txt = s.txt := rfl
@[simp] theorem State.onRecord_hlc (x : Sub) (f : SubRecord → SubRecord) (s : State) : (s.onRecord x f).hlc = s.hlc := rfl

@[simp] theorem State.onPscOf_pending (x : Sub) (f : PscSub → PscSub) (s : State) : (s.onPscOf x f).pending = s.pending := rfl
@[simp] theorem State.onPscOf_resetHeld (x : Sub) (f : PscSub → PscSub) (s : State) : (s.onPscOf x f).resetHeld = s.resetHeld := rfl
@[simp] theorem State.onPscOf_pins (x : Sub) (f : PscSub → PscSub) (s : State) : (s.onPscOf x f).pins = s.pins := rfl
@[simp] theorem State.onPscOf_clock (x : Sub) (f : PscSub → PscSub) (s : State) : (s.onPscOf x f).clock = s.clock := rfl
@[simp] theorem State.onPscOf_rpt (x : Sub) (f : PscSub → PscSub) (s : State) : (s.onPscOf x f).rpt = s.rpt := rfl
@[simp] theorem State.onPscOf_rta (x : Sub) (f : PscSub → PscSub) (s : State) : (s.onPscOf x f).rta = s.rta := rfl
@[simp] theorem State.onPscOf_dlc (x : Sub) (f : PscSub → PscSub) (s : State) : (s.onPscOf x f).dlc = s.dlc := rfl
@[simp] theorem State.onPscOf_sge (x : Sub) (f : PscSub → PscSub) (s : State) : (s.onPscOf x f).sge = s.sge := rfl
@[simp] theorem State.onPscOf_sbs (x : Sub) (f : PscSub → PscSub) (s : State) : (s.onPscOf x f).sbs = s.sbs := rfl
@[simp] theorem State.onPscOf_mob (x : Sub) (f : PscSub → PscSub) (s : State) : (s.onPscOf x f).mob = s.mob := rfl
@[simp] theorem State.onPscOf_cal (x : Sub) (f : PscSub → PscSub) (s : State) : (s.onPscOf x f).cal = s.cal := rfl
@[simp] theorem State.onPscOf_vcp (x : Sub) (f : PscSub → PscSub) (s : State) : (s.onPscOf x f).vcp = s.vcp := rfl
@[simp] theorem State.onPscOf_txt (x : Sub) (f : PscSub → PscSub) (s : State) : (s.onPscOf x f).txt = s.txt := rfl
@[simp] theorem State.onPscOf_hlc (x : Sub) (f : PscSub → PscSub) (s : State) : (s.onPscOf x f).hlc = s.hlc := rfl

@[simp] theorem State.onMobOf_pending (x : Sub) (f : MobSub → MobSub) (s : State) : (s.onMobOf x f).pending = s.pending := rfl
@[simp] theorem State.onMobOf_resetHeld (x : Sub) (f : MobSub → MobSub) (s : State) : (s.onMobOf x f).resetHeld = s.resetHeld := rfl
@[simp] theorem State.onMobOf_pins (x : Sub) (f : MobSub → MobSub) (s : State) : (s.onMobOf x f).pins = s.pins := rfl
@[simp] theorem State.onMobOf_clock (x : Sub) (f : MobSub → MobSub) (s : State) : (s.onMobOf x f).clock = s.clock := rfl
@[simp] theorem State.onMobOf_rpt (x : Sub) (f : MobSub → MobSub) (s : State) : (s.onMobOf x f).rpt = s.rpt := rfl
@[simp] theorem State.onMobOf_rta (x : Sub) (f : MobSub → MobSub) (s : State) : (s.onMobOf x f).rta = s.rta := rfl
@[simp] theorem State.onMobOf_dlc (x : Sub) (f : MobSub → MobSub) (s : State) : (s.onMobOf x f).dlc = s.dlc := rfl
@[simp] theorem State.onMobOf_sge (x : Sub) (f : MobSub → MobSub) (s : State) : (s.onMobOf x f).sge = s.sge := rfl
@[simp] theorem State.onMobOf_sbs (x : Sub) (f : MobSub → MobSub) (s : State) : (s.onMobOf x f).sbs = s.sbs := rfl
@[simp] theorem State.onMobOf_psc (x : Sub) (f : MobSub → MobSub) (s : State) : (s.onMobOf x f).psc = s.psc := rfl
@[simp] theorem State.onMobOf_cal (x : Sub) (f : MobSub → MobSub) (s : State) : (s.onMobOf x f).cal = s.cal := rfl
@[simp] theorem State.onMobOf_vcp (x : Sub) (f : MobSub → MobSub) (s : State) : (s.onMobOf x f).vcp = s.vcp := rfl
@[simp] theorem State.onMobOf_txt (x : Sub) (f : MobSub → MobSub) (s : State) : (s.onMobOf x f).txt = s.txt := rfl
@[simp] theorem State.onMobOf_hlc (x : Sub) (f : MobSub → MobSub) (s : State) : (s.onMobOf x f).hlc = s.hlc := rfl
@[simp] theorem State.onPscOf_settleS (x : Sub) (f : PscSub → PscSub) (s : State) : (s.onPscOf x f).psc.settleS = s.psc.settleS := rfl
@[simp] theorem State.onPscOf_power (x : Sub) (f : PscSub → PscSub) (s : State) : (s.onPscOf x f).psc.power = s.psc.power := rfl
@[simp] theorem State.onPscOf_notedS (x : Sub) (f : PscSub → PscSub) (s : State) : (s.onPscOf x f).psc.notedS = s.psc.notedS := rfl
@[simp] theorem State.onPscOf_lightReturn (x : Sub) (f : PscSub → PscSub) (s : State) : (s.onPscOf x f).psc.lightReturn = s.psc.lightReturn := rfl
@[simp] theorem State.onPscOf_wakeTimer (x : Sub) (f : PscSub → PscSub) (s : State) : (s.onPscOf x f).psc.wakeTimer = s.psc.wakeTimer := rfl
@[simp] theorem State.onPscOf_settle (x : Sub) (f : PscSub → PscSub) (s : State) : (s.onPscOf x f).psc.settle = s.psc.settle := rfl

end Sys2Proof.Machine
end

