-- ==== Sys2Proof/Laws/Keeps.lean ====
section
/-! SUPPORT. What each shared operation leaves alone: one lemma per operation, all its fields at once. -/

namespace Sys2Proof.Machine

@[simp] theorem refuse_eq (code : ResultCode) (s : State) : refuse code s = (code, [], s) := rfl
@[simp] theorem accept_eq (s : State) : accept s = (.ok, [], s) := rfl

/-! ### Sleep -/

@[simp] theorem State.becomeAwake_keeps (s : State) :
    s.becomeAwake.pending = s.pending ∧ s.becomeAwake.resetHeld = s.resetHeld ∧ s.becomeAwake.pins = s.pins ∧
    s.becomeAwake.clock = s.clock ∧ s.becomeAwake.rpt = s.rpt ∧ s.becomeAwake.rta = s.rta ∧ s.becomeAwake.dlc = s.dlc ∧
    s.becomeAwake.sge = s.sge ∧ s.becomeAwake.sbs = s.sbs ∧ s.becomeAwake.mob = s.mob ∧ s.becomeAwake.cal = s.cal ∧
    s.becomeAwake.vcp = s.vcp ∧ s.becomeAwake.txt = s.txt ∧ s.becomeAwake.hlc = s.hlc ∧ s.becomeAwake.psc.per = s.psc.per ∧
    s.becomeAwake.psc.settleS = s.psc.settleS ∧ s.becomeAwake.psc.notedS = s.psc.notedS := by
  simp [State.becomeAwake]

@[simp] theorem State.enterWaking_keeps (s : State) :
    s.enterWaking.pending = s.pending ∧ s.enterWaking.resetHeld = s.resetHeld ∧ s.enterWaking.pins = s.pins ∧
    s.enterWaking.clock = s.clock ∧ s.enterWaking.rpt = s.rpt ∧ s.enterWaking.rta = s.rta ∧ s.enterWaking.dlc = s.dlc ∧
    s.enterWaking.sge = s.sge ∧ s.enterWaking.sbs = s.sbs ∧ s.enterWaking.mob = s.mob ∧ s.enterWaking.cal = s.cal ∧
    s.enterWaking.vcp = s.vcp ∧ s.enterWaking.txt = s.txt ∧ s.enterWaking.hlc = s.hlc ∧ s.enterWaking.psc.per = s.psc.per ∧
    s.enterWaking.psc.settleS = s.psc.settleS ∧ s.enterWaking.psc.notedS = s.psc.notedS := by
  simp [State.enterWaking]

@[simp] theorem State.enterDeep_keeps (gap : Option Nat) (s : State) :
    (s.enterDeep gap).pending = s.pending ∧ (s.enterDeep gap).resetHeld = s.resetHeld ∧ (s.enterDeep gap).pins = s.pins ∧
    (s.enterDeep gap).clock = s.clock ∧ (s.enterDeep gap).rpt = s.rpt ∧ (s.enterDeep gap).rta = s.rta ∧
    (s.enterDeep gap).dlc = s.dlc ∧ (s.enterDeep gap).sge = s.sge ∧ (s.enterDeep gap).sbs = s.sbs ∧
    (s.enterDeep gap).mob = s.mob ∧ (s.enterDeep gap).cal = s.cal ∧ (s.enterDeep gap).vcp = s.vcp ∧
    (s.enterDeep gap).txt = s.txt ∧ (s.enterDeep gap).hlc = s.hlc ∧ (s.enterDeep gap).psc.per = s.psc.per ∧
    (s.enterDeep gap).psc.settleS = s.psc.settleS := by
  simp [State.enterDeep]

@[simp] theorem State.enterLight_keeps (back : Frame) (s : State) :
    (s.enterLight back).pending = s.pending ∧ (s.enterLight back).resetHeld = s.resetHeld ∧ (s.enterLight back).pins = s.pins ∧
    (s.enterLight back).clock = s.clock ∧ (s.enterLight back).rpt = s.rpt ∧ (s.enterLight back).rta = s.rta ∧
    (s.enterLight back).dlc = s.dlc ∧ (s.enterLight back).sge = s.sge ∧ (s.enterLight back).sbs = s.sbs ∧
    (s.enterLight back).mob = s.mob ∧ (s.enterLight back).cal = s.cal ∧ (s.enterLight back).vcp = s.vcp ∧
    (s.enterLight back).txt = s.txt ∧ (s.enterLight back).hlc = s.hlc ∧ (s.enterLight back).psc.per = s.psc.per ∧
    (s.enterLight back).psc.settleS = s.psc.settleS ∧ (s.enterLight back).psc.notedS = s.psc.notedS := by
  simp [State.enterLight]

@[simp] theorem State.chooseDepth_keeps (s : State) :
    s.chooseDepth.pending = s.pending ∧ s.chooseDepth.resetHeld = s.resetHeld ∧ s.chooseDepth.pins = s.pins ∧
    s.chooseDepth.clock = s.clock ∧ s.chooseDepth.rpt = s.rpt ∧ s.chooseDepth.rta = s.rta ∧ s.chooseDepth.dlc = s.dlc ∧
    s.chooseDepth.sge = s.sge ∧ s.chooseDepth.sbs = s.sbs ∧ s.chooseDepth.mob = s.mob ∧ s.chooseDepth.cal = s.cal ∧
    s.chooseDepth.vcp = s.vcp ∧ s.chooseDepth.txt = s.txt ∧ s.chooseDepth.hlc = s.hlc ∧ s.chooseDepth.psc.per = s.psc.per ∧
    s.chooseDepth.psc.settleS = s.psc.settleS := by
  unfold State.chooseDepth; dsimp only; (repeat' split) <;> simp

@[simp] theorem State.evaluate_keeps (s : State) :
    s.evaluate.pending = s.pending ∧ s.evaluate.resetHeld = s.resetHeld ∧ s.evaluate.pins = s.pins ∧ s.evaluate.clock = s.clock ∧
    s.evaluate.rpt = s.rpt ∧ s.evaluate.rta = s.rta ∧ s.evaluate.dlc = s.dlc ∧ s.evaluate.sge = s.sge ∧ s.evaluate.sbs = s.sbs ∧
    s.evaluate.mob = s.mob ∧ s.evaluate.cal = s.cal ∧ s.evaluate.vcp = s.vcp ∧ s.evaluate.txt = s.txt ∧ s.evaluate.hlc = s.hlc ∧
    s.evaluate.psc.per = s.psc.per ∧ s.evaluate.psc.settleS = s.psc.settleS := by
  unfold State.evaluate; split <;> simp

@[simp] theorem State.recomputeWake_keeps (s : State) :
    s.recomputeWake.pending = s.pending ∧ s.recomputeWake.resetHeld = s.resetHeld ∧ s.recomputeWake.pins = s.pins ∧
    s.recomputeWake.clock = s.clock ∧ s.recomputeWake.rpt = s.rpt ∧ s.recomputeWake.rta = s.rta ∧ s.recomputeWake.dlc = s.dlc ∧
    s.recomputeWake.sge = s.sge ∧ s.recomputeWake.sbs = s.sbs ∧ s.recomputeWake.mob = s.mob ∧ s.recomputeWake.cal = s.cal ∧
    s.recomputeWake.vcp = s.vcp ∧ s.recomputeWake.txt = s.txt ∧ s.recomputeWake.hlc = s.hlc ∧
    s.recomputeWake.psc.per = s.psc.per ∧ s.recomputeWake.psc.settleS = s.psc.settleS ∧
    s.recomputeWake.psc.notedS = s.psc.notedS := by
  unfold State.recomputeWake; dsimp only; (repeat' split) <;> simp

@[simp] theorem State.elapse_keeps (n : Nat) (s : State) :
    (s.elapse n).pending = s.pending ∧ (s.elapse n).resetHeld = s.resetHeld ∧ (s.elapse n).pins = s.pins ∧
    (s.elapse n).clock = s.clock ∧ (s.elapse n).rpt = s.rpt ∧ (s.elapse n).rta = s.rta ∧ (s.elapse n).dlc = s.dlc ∧
    (s.elapse n).sge = s.sge ∧ (s.elapse n).sbs = s.sbs ∧ (s.elapse n).mob = s.mob ∧ (s.elapse n).cal = s.cal ∧
    (s.elapse n).vcp = s.vcp ∧ (s.elapse n).txt = s.txt ∧ (s.elapse n).hlc = s.hlc ∧ (s.elapse n).psc.per = s.psc.per ∧
    (s.elapse n).psc.settleS = s.psc.settleS ∧ (s.elapse n).psc.power = s.psc.power ∧ (s.elapse n).psc.notedS = s.psc.notedS ∧
    (s.elapse n).psc.lightReturn = s.psc.lightReturn := by
  simp [State.elapse]

@[simp] theorem State.sleepTick_keeps (s : State) :
    s.sleepTick.pending = s.pending ∧ s.sleepTick.resetHeld = s.resetHeld ∧ s.sleepTick.pins = s.pins ∧ s.sleepTick.rpt = s.rpt ∧
    s.sleepTick.rta = s.rta ∧ s.sleepTick.dlc = s.dlc ∧ s.sleepTick.sge = s.sge ∧ s.sleepTick.sbs = s.sbs ∧
    s.sleepTick.mob = s.mob ∧ s.sleepTick.cal = s.cal ∧ s.sleepTick.vcp = s.vcp ∧ s.sleepTick.txt = s.txt ∧
    s.sleepTick.hlc = s.hlc ∧ s.sleepTick.psc.per = s.psc.per ∧ s.sleepTick.psc.settleS = s.psc.settleS ∧
    s.sleepTick.psc.power = s.psc.power ∧ s.sleepTick.psc.notedS = s.psc.notedS ∧
    s.sleepTick.psc.lightReturn = s.psc.lightReturn := by
  unfold State.sleepTick; split <;> simp

/-! ### The host-bound queue, the result queue, the classifier -/

@[simp] theorem State.offerEntry_keeps (e : HostEntry) (s : State) :
    (s.offerEntry e).pending = s.pending ∧ (s.offerEntry e).resetHeld = s.resetHeld ∧ (s.offerEntry e).pins = s.pins ∧
    (s.offerEntry e).clock = s.clock ∧ (s.offerEntry e).rpt = s.rpt ∧ (s.offerEntry e).rta = s.rta ∧
    (s.offerEntry e).dlc = s.dlc ∧ (s.offerEntry e).sge = s.sge ∧ (s.offerEntry e).sbs = s.sbs ∧ (s.offerEntry e).psc = s.psc ∧
    (s.offerEntry e).mob = s.mob ∧ (s.offerEntry e).cal = s.cal ∧ (s.offerEntry e).vcp = s.vcp ∧
    (s.offerEntry e).txt = s.txt := by
  simp [State.offerEntry]

@[simp] theorem State.report_keeps (r : Report) (s : State) :
    (s.report r).pending = s.pending ∧ (s.report r).resetHeld = s.resetHeld ∧ (s.report r).pins = s.pins ∧
    (s.report r).clock = s.clock ∧ (s.report r).rpt = s.rpt ∧ (s.report r).rta = s.rta ∧ (s.report r).dlc = s.dlc ∧
    (s.report r).sge = s.sge ∧ (s.report r).sbs = s.sbs ∧ (s.report r).psc = s.psc ∧ (s.report r).mob = s.mob ∧
    (s.report r).cal = s.cal ∧ (s.report r).vcp = s.vcp ∧ (s.report r).txt = s.txt := by
  simp [State.report]

@[simp] theorem State.reportWake_keeps (r : Report) (s : State) :
    (s.reportWake r).pending = s.pending ∧ (s.reportWake r).resetHeld = s.resetHeld ∧ (s.reportWake r).pins = s.pins ∧
    (s.reportWake r).clock = s.clock ∧ (s.reportWake r).rpt = s.rpt ∧ (s.reportWake r).rta = s.rta ∧
    (s.reportWake r).dlc = s.dlc ∧ (s.reportWake r).sge = s.sge ∧ (s.reportWake r).sbs = s.sbs ∧ (s.reportWake r).psc = s.psc ∧
    (s.reportWake r).mob = s.mob ∧ (s.reportWake r).cal = s.cal ∧ (s.reportWake r).vcp = s.vcp ∧
    (s.reportWake r).txt = s.txt := by
  simp [State.reportWake]

@[simp] theorem State.pushResult_keeps (r : ResultFrame) (s : State) :
    (s.pushResult r).pending = s.pending ∧ (s.pushResult r).resetHeld = s.resetHeld ∧ (s.pushResult r).pins = s.pins ∧
    (s.pushResult r).clock = s.clock ∧ (s.pushResult r).rpt = s.rpt ∧ (s.pushResult r).rta = s.rta ∧
    (s.pushResult r).dlc = s.dlc ∧ (s.pushResult r).sge = s.sge ∧ (s.pushResult r).sbs = s.sbs ∧ (s.pushResult r).psc = s.psc ∧
    (s.pushResult r).mob = s.mob ∧ (s.pushResult r).cal = s.cal ∧ (s.pushResult r).vcp = s.vcp ∧
    (s.pushResult r).txt = s.txt := by
  simp [State.pushResult]

@[simp] theorem State.setFilter_keeps (x : Sub) (isOpen : Bool) (s : State) :
    (s.setFilter x isOpen).pending = s.pending ∧ (s.setFilter x isOpen).resetHeld = s.resetHeld ∧
    (s.setFilter x isOpen).pins = s.pins ∧ (s.setFilter x isOpen).clock = s.clock ∧ (s.setFilter x isOpen).rpt = s.rpt ∧
    (s.setFilter x isOpen).rta = s.rta ∧ (s.setFilter x isOpen).sge = s.sge ∧ (s.setFilter x isOpen).sbs = s.sbs ∧
    (s.setFilter x isOpen).psc = s.psc ∧ (s.setFilter x isOpen).mob = s.mob ∧ (s.setFilter x isOpen).cal = s.cal ∧
    (s.setFilter x isOpen).vcp = s.vcp ∧ (s.setFilter x isOpen).txt = s.txt ∧ (s.setFilter x isOpen).hlc = s.hlc := by
  simp [State.setFilter]

@[simp] theorem State.countFiltered_keeps (x : Sub) (s : State) :
    (s.countFiltered x).pending = s.pending ∧ (s.countFiltered x).resetHeld = s.resetHeld ∧ (s.countFiltered x).pins = s.pins ∧
    (s.countFiltered x).clock = s.clock ∧ (s.countFiltered x).rpt = s.rpt ∧ (s.countFiltered x).rta = s.rta ∧
    (s.countFiltered x).sge = s.sge ∧ (s.countFiltered x).sbs = s.sbs ∧ (s.countFiltered x).psc = s.psc ∧
    (s.countFiltered x).mob = s.mob ∧ (s.countFiltered x).cal = s.cal ∧ (s.countFiltered x).vcp = s.vcp ∧
    (s.countFiltered x).txt = s.txt ∧ (s.countFiltered x).hlc = s.hlc := by
  simp [State.countFiltered]

@[simp] theorem State.countUnattributed_keeps (s : State) :
    s.countUnattributed.pending = s.pending ∧ s.countUnattributed.resetHeld = s.resetHeld ∧ s.countUnattributed.pins = s.pins ∧
    s.countUnattributed.clock = s.clock ∧ s.countUnattributed.rpt = s.rpt ∧ s.countUnattributed.rta = s.rta ∧
    s.countUnattributed.sge = s.sge ∧ s.countUnattributed.sbs = s.sbs ∧ s.countUnattributed.psc = s.psc ∧
    s.countUnattributed.mob = s.mob ∧ s.countUnattributed.cal = s.cal ∧ s.countUnattributed.vcp = s.vcp ∧
    s.countUnattributed.txt = s.txt ∧ s.countUnattributed.hlc = s.hlc := by
  simp [State.countUnattributed]

@[simp] theorem State.countStray_keeps (s : State) :
    s.countStray.pending = s.pending ∧ s.countStray.resetHeld = s.resetHeld ∧ s.countStray.pins = s.pins ∧
    s.countStray.clock = s.clock ∧ s.countStray.rpt = s.rpt ∧ s.countStray.rta = s.rta ∧ s.countStray.dlc = s.dlc ∧
    s.countStray.sbs = s.sbs ∧ s.countStray.psc = s.psc ∧ s.countStray.mob = s.mob ∧ s.countStray.cal = s.cal ∧
    s.countStray.vcp = s.vcp ∧ s.countStray.txt = s.txt ∧ s.countStray.hlc = s.hlc := by
  simp [State.countStray]

@[simp] theorem State.onCtx_keeps (i : Nat) (f : CallContext → CallContext) (s : State) :
    (s.onCtx i f).pending = s.pending ∧ (s.onCtx i f).resetHeld = s.resetHeld ∧ (s.onCtx i f).pins = s.pins ∧
    (s.onCtx i f).clock = s.clock ∧ (s.onCtx i f).rpt = s.rpt ∧ (s.onCtx i f).rta = s.rta ∧ (s.onCtx i f).dlc = s.dlc ∧
    (s.onCtx i f).sge = s.sge ∧ (s.onCtx i f).sbs = s.sbs ∧ (s.onCtx i f).psc = s.psc ∧ (s.onCtx i f).mob = s.mob ∧
    (s.onCtx i f).vcp = s.vcp ∧ (s.onCtx i f).txt = s.txt ∧ (s.onCtx i f).hlc = s.hlc := by
  simp [State.onCtx]

@[simp] theorem State.onTxn_keeps (i : Nat) (f : Txn → Txn) (s : State) :
    (s.onTxn i f).pending = s.pending ∧ (s.onTxn i f).resetHeld = s.resetHeld ∧ (s.onTxn i f).pins = s.pins ∧
    (s.onTxn i f).clock = s.clock ∧ (s.onTxn i f).rpt = s.rpt ∧ (s.onTxn i f).rta = s.rta ∧ (s.onTxn i f).dlc = s.dlc ∧
    (s.onTxn i f).sbs = s.sbs ∧ (s.onTxn i f).psc = s.psc ∧ (s.onTxn i f).mob = s.mob ∧ (s.onTxn i f).cal = s.cal ∧
    (s.onTxn i f).vcp = s.vcp ∧ (s.onTxn i f).txt = s.txt ∧ (s.onTxn i f).hlc = s.hlc := by
  simp [State.onTxn]

/-! ### Claims -/

@[simp] theorem State.onClaim_keeps (i : Nat) (f : Claim → Claim) (s : State) :
    (s.onClaim i f).pending = s.pending ∧ (s.onClaim i f).resetHeld = s.resetHeld ∧ (s.onClaim i f).pins = s.pins ∧
    (s.onClaim i f).clock = s.clock ∧ (s.onClaim i f).rpt = s.rpt ∧ (s.onClaim i f).dlc = s.dlc ∧ (s.onClaim i f).sge = s.sge ∧
    (s.onClaim i f).sbs = s.sbs ∧ (s.onClaim i f).psc = s.psc ∧ (s.onClaim i f).mob = s.mob ∧ (s.onClaim i f).cal = s.cal ∧
    (s.onClaim i f).vcp = s.vcp ∧ (s.onClaim i f).txt = s.txt ∧ (s.onClaim i f).hlc = s.hlc := by
  simp [State.onClaim]

@[simp] theorem State.freeClaim_keeps (i : Nat) (s : State) :
    (s.freeClaim i).pending = s.pending ∧ (s.freeClaim i).resetHeld = s.resetHeld ∧ (s.freeClaim i).pins = s.pins ∧
    (s.freeClaim i).clock = s.clock ∧ (s.freeClaim i).rpt = s.rpt ∧ (s.freeClaim i).dlc = s.dlc ∧ (s.freeClaim i).sge = s.sge ∧
    (s.freeClaim i).sbs = s.sbs ∧ (s.freeClaim i).psc = s.psc ∧ (s.freeClaim i).mob = s.mob ∧ (s.freeClaim i).cal = s.cal ∧
    (s.freeClaim i).vcp = s.vcp ∧ (s.freeClaim i).txt = s.txt ∧ (s.freeClaim i).hlc = s.hlc := by
  simp [State.freeClaim]

@[simp] theorem State.place_keeps (x : Sub) (k : ClaimKind) (w : Window) (s : State) :
    (s.place x k w).2.pending = s.pending ∧ (s.place x k w).2.resetHeld = s.resetHeld ∧ (s.place x k w).2.pins = s.pins ∧
    (s.place x k w).2.clock = s.clock ∧ (s.place x k w).2.rpt = s.rpt ∧ (s.place x k w).2.dlc = s.dlc ∧
    (s.place x k w).2.sge = s.sge ∧ (s.place x k w).2.sbs = s.sbs ∧ (s.place x k w).2.mob = s.mob ∧
    (s.place x k w).2.cal = s.cal ∧ (s.place x k w).2.vcp = s.vcp ∧ (s.place x k w).2.txt = s.txt ∧
    (s.place x k w).2.hlc = s.hlc ∧ (s.place x k w).2.psc.per = s.psc.per ∧ (s.place x k w).2.psc.settleS = s.psc.settleS ∧
    (s.place x k w).2.psc.notedS = s.psc.notedS := by
  unfold State.place; dsimp only; (repeat' split) <;> simp

@[simp] theorem State.markUnitWithdrawn_keeps (s : State) :
    s.markUnitWithdrawn.pending = s.pending ∧ s.markUnitWithdrawn.resetHeld = s.resetHeld ∧ s.markUnitWithdrawn.pins = s.pins ∧
    s.markUnitWithdrawn.clock = s.clock ∧ s.markUnitWithdrawn.rpt = s.rpt ∧ s.markUnitWithdrawn.dlc = s.dlc ∧
    s.markUnitWithdrawn.sge = s.sge ∧ s.markUnitWithdrawn.sbs = s.sbs ∧ s.markUnitWithdrawn.psc = s.psc ∧
    s.markUnitWithdrawn.mob = s.mob ∧ s.markUnitWithdrawn.cal = s.cal ∧ s.markUnitWithdrawn.vcp = s.vcp ∧
    s.markUnitWithdrawn.txt = s.txt ∧ s.markUnitWithdrawn.hlc = s.hlc := by
  unfold State.markUnitWithdrawn; split <;> simp

@[simp] theorem State.dropPurpose_keeps (x : Sub) (k : ClaimKind) (s : State) :
    (s.dropPurpose x k).pending = s.pending ∧ (s.dropPurpose x k).resetHeld = s.resetHeld ∧ (s.dropPurpose x k).pins = s.pins ∧
    (s.dropPurpose x k).clock = s.clock ∧ (s.dropPurpose x k).rpt = s.rpt ∧ (s.dropPurpose x k).rta = s.rta ∧
    (s.dropPurpose x k).dlc = s.dlc ∧ (s.dropPurpose x k).sge = s.sge ∧ (s.dropPurpose x k).sbs = s.sbs ∧
    (s.dropPurpose x k).psc = s.psc ∧ (s.dropPurpose x k).cal = s.cal ∧ (s.dropPurpose x k).vcp = s.vcp ∧
    (s.dropPurpose x k).txt = s.txt ∧ (s.dropPurpose x k).hlc = s.hlc := by
  unfold State.dropPurpose; split <;> simp

@[simp] theorem State.unask_keeps (x : Sub) (k : ClaimKind) (s : State) :
    (s.unask x k).pending = s.pending ∧ (s.unask x k).resetHeld = s.resetHeld ∧ (s.unask x k).pins = s.pins ∧
    (s.unask x k).clock = s.clock ∧ (s.unask x k).rpt = s.rpt ∧ (s.unask x k).dlc = s.dlc ∧ (s.unask x k).sge = s.sge ∧
    (s.unask x k).sbs = s.sbs ∧ (s.unask x k).psc = s.psc ∧ (s.unask x k).mob = s.mob ∧ (s.unask x k).cal = s.cal ∧
    (s.unask x k).vcp = s.vcp ∧ (s.unask x k).txt = s.txt ∧ (s.unask x k).hlc = s.hlc := by
  simp [State.unask]

@[simp] theorem State.setAsked_keeps (l : Option (List (ClaimKind × Sub))) (s : State) :
    (s.setAsked l).pending = s.pending ∧ (s.setAsked l).resetHeld = s.resetHeld ∧ (s.setAsked l).pins = s.pins ∧
    (s.setAsked l).clock = s.clock ∧ (s.setAsked l).rpt = s.rpt ∧ (s.setAsked l).dlc = s.dlc ∧ (s.setAsked l).sge = s.sge ∧
    (s.setAsked l).sbs = s.sbs ∧ (s.setAsked l).psc = s.psc ∧ (s.setAsked l).mob = s.mob ∧ (s.setAsked l).cal = s.cal ∧
    (s.setAsked l).vcp = s.vcp ∧ (s.setAsked l).txt = s.txt ∧ (s.setAsked l).hlc = s.hlc := by
  simp [State.setAsked]

@[simp] theorem State.withdraw_keeps (x : Sub) (k : ClaimKind) (s : State) :
    (s.withdraw x k).pending = s.pending ∧ (s.withdraw x k).resetHeld = s.resetHeld ∧ (s.withdraw x k).pins = s.pins ∧
    (s.withdraw x k).clock = s.clock ∧ (s.withdraw x k).rpt = s.rpt ∧ (s.withdraw x k).dlc = s.dlc ∧
    (s.withdraw x k).sge = s.sge ∧ (s.withdraw x k).sbs = s.sbs ∧ (s.withdraw x k).psc = s.psc ∧ (s.withdraw x k).cal = s.cal ∧
    (s.withdraw x k).vcp = s.vcp ∧ (s.withdraw x k).txt = s.txt ∧ (s.withdraw x k).hlc = s.hlc := by
  unfold State.withdraw; dsimp only; (repeat' split) <;> simp

@[simp] theorem State.suspendClaim_keeps (x : Sub) (k : ClaimKind) (s : State) :
    (s.suspendClaim x k).pending = s.pending ∧ (s.suspendClaim x k).resetHeld = s.resetHeld ∧ (s.suspendClaim x k).pins = s.pins ∧
    (s.suspendClaim x k).clock = s.clock ∧ (s.suspendClaim x k).rpt = s.rpt ∧ (s.suspendClaim x k).dlc = s.dlc ∧
    (s.suspendClaim x k).sge = s.sge ∧ (s.suspendClaim x k).sbs = s.sbs ∧ (s.suspendClaim x k).psc = s.psc ∧
    (s.suspendClaim x k).mob = s.mob ∧ (s.suspendClaim x k).cal = s.cal ∧ (s.suspendClaim x k).vcp = s.vcp ∧
    (s.suspendClaim x k).txt = s.txt ∧ (s.suspendClaim x k).hlc = s.hlc := by
  unfold State.suspendClaim; split <;> simp

@[simp] theorem State.resumeClaim_keeps (x : Sub) (k : ClaimKind) (s : State) :
    (s.resumeClaim x k).pending = s.pending ∧ (s.resumeClaim x k).resetHeld = s.resetHeld ∧ (s.resumeClaim x k).pins = s.pins ∧
    (s.resumeClaim x k).clock = s.clock ∧ (s.resumeClaim x k).rpt = s.rpt ∧ (s.resumeClaim x k).dlc = s.dlc ∧
    (s.resumeClaim x k).sge = s.sge ∧ (s.resumeClaim x k).sbs = s.sbs ∧ (s.resumeClaim x k).mob = s.mob ∧
    (s.resumeClaim x k).cal = s.cal ∧ (s.resumeClaim x k).vcp = s.vcp ∧ (s.resumeClaim x k).txt = s.txt ∧
    (s.resumeClaim x k).hlc = s.hlc ∧ (s.resumeClaim x k).psc.per = s.psc.per ∧ (s.resumeClaim x k).psc.settleS = s.psc.settleS ∧
    (s.resumeClaim x k).psc.notedS = s.psc.notedS := by
  unfold State.resumeClaim; split <;> simp

@[simp] theorem State.withdrawAll_keeps (x : Sub) (s : State) :
    (s.withdrawAll x).pending = s.pending ∧ (s.withdrawAll x).resetHeld = s.resetHeld ∧ (s.withdrawAll x).pins = s.pins ∧
    (s.withdrawAll x).clock = s.clock ∧ (s.withdrawAll x).rpt = s.rpt ∧ (s.withdrawAll x).dlc = s.dlc ∧
    (s.withdrawAll x).sge = s.sge ∧ (s.withdrawAll x).sbs = s.sbs ∧ (s.withdrawAll x).psc = s.psc ∧
    (s.withdrawAll x).cal = s.cal ∧ (s.withdrawAll x).vcp = s.vcp ∧ (s.withdrawAll x).txt = s.txt ∧
    (s.withdrawAll x).hlc = s.hlc := by
  simp [State.withdrawAll]

/-! ### Signalling -/

@[simp] theorem State.enqueue_keeps (x : Sub) (m : Msg) (s : State) :
    (s.enqueue x m).pending = s.pending ∧ (s.enqueue x m).resetHeld = s.resetHeld ∧ (s.enqueue x m).pins = s.pins ∧
    (s.enqueue x m).clock = s.clock ∧ (s.enqueue x m).rpt = s.rpt ∧ (s.enqueue x m).rta = s.rta ∧ (s.enqueue x m).dlc = s.dlc ∧
    (s.enqueue x m).sbs = s.sbs ∧ (s.enqueue x m).psc = s.psc ∧ (s.enqueue x m).mob = s.mob ∧ (s.enqueue x m).cal = s.cal ∧
    (s.enqueue x m).vcp = s.vcp ∧ (s.enqueue x m).txt = s.txt ∧ (s.enqueue x m).hlc = s.hlc := by
  unfold State.enqueue; split <;> simp

@[simp] theorem State.offer_keeps (x : Sub) (o : Offer) (s : State) :
    (s.offer x o).2.pending = s.pending ∧ (s.offer x o).2.resetHeld = s.resetHeld ∧ (s.offer x o).2.pins = s.pins ∧
    (s.offer x o).2.clock = s.clock ∧ (s.offer x o).2.rpt = s.rpt ∧ (s.offer x o).2.rta = s.rta ∧ (s.offer x o).2.dlc = s.dlc ∧
    (s.offer x o).2.sbs = s.sbs ∧ (s.offer x o).2.psc = s.psc ∧ (s.offer x o).2.mob = s.mob ∧ (s.offer x o).2.cal = s.cal ∧
    (s.offer x o).2.vcp = s.vcp ∧ (s.offer x o).2.txt = s.txt ∧ (s.offer x o).2.hlc = s.hlc := by
  unfold State.offer; (repeat' split) <;> simp

@[simp] theorem State.offerPlain_keeps (x : Sub) (owner : Option Owner) (echo : Ident) (body : UpBody) (s : State) :
    (s.offerPlain x owner echo body).pending = s.pending ∧ (s.offerPlain x owner echo body).resetHeld = s.resetHeld ∧
    (s.offerPlain x owner echo body).pins = s.pins ∧ (s.offerPlain x owner echo body).clock = s.clock ∧
    (s.offerPlain x owner echo body).rpt = s.rpt ∧ (s.offerPlain x owner echo body).rta = s.rta ∧
    (s.offerPlain x owner echo body).dlc = s.dlc ∧ (s.offerPlain x owner echo body).sbs = s.sbs ∧
    (s.offerPlain x owner echo body).psc = s.psc ∧ (s.offerPlain x owner echo body).mob = s.mob ∧
    (s.offerPlain x owner echo body).cal = s.cal ∧ (s.offerPlain x owner echo body).vcp = s.vcp ∧
    (s.offerPlain x owner echo body).txt = s.txt ∧ (s.offerPlain x owner echo body).hlc = s.hlc := by
  simp [State.offerPlain]

@[simp] theorem State.beginWait_keeps (w : WaitKind) (x : Sub) (s : State) :
    (s.beginWait w x).pending = s.pending ∧ (s.beginWait w x).resetHeld = s.resetHeld ∧ (s.beginWait w x).pins = s.pins ∧
    (s.beginWait w x).clock = s.clock ∧ (s.beginWait w x).rpt = s.rpt ∧ (s.beginWait w x).rta = s.rta ∧
    (s.beginWait w x).dlc = s.dlc ∧ (s.beginWait w x).sbs = s.sbs ∧ (s.beginWait w x).psc = s.psc ∧
    (s.beginWait w x).mob = s.mob ∧ (s.beginWait w x).cal = s.cal ∧ (s.beginWait w x).vcp = s.vcp ∧
    (s.beginWait w x).txt = s.txt ∧ (s.beginWait w x).hlc = s.hlc := by
  unfold State.beginWait; split <;> simp

@[simp] theorem State.endWait_keeps (w : WaitKind) (x : Sub) (s : State) :
    (s.endWait w x).pending = s.pending ∧ (s.endWait w x).resetHeld = s.resetHeld ∧ (s.endWait w x).pins = s.pins ∧
    (s.endWait w x).clock = s.clock ∧ (s.endWait w x).rpt = s.rpt ∧ (s.endWait w x).rta = s.rta ∧ (s.endWait w x).dlc = s.dlc ∧
    (s.endWait w x).sbs = s.sbs ∧ (s.endWait w x).psc = s.psc ∧ (s.endWait w x).mob = s.mob ∧ (s.endWait w x).cal = s.cal ∧
    (s.endWait w x).vcp = s.vcp ∧ (s.endWait w x).txt = s.txt ∧ (s.endWait w x).hlc = s.hlc := by
  simp [State.endWait]

@[simp] theorem State.markWaiters_keeps (p : Waiter → Bool) (s : State) :
    (s.markWaiters p).pending = s.pending ∧ (s.markWaiters p).resetHeld = s.resetHeld ∧ (s.markWaiters p).pins = s.pins ∧
    (s.markWaiters p).clock = s.clock ∧ (s.markWaiters p).rpt = s.rpt ∧ (s.markWaiters p).rta = s.rta ∧
    (s.markWaiters p).dlc = s.dlc ∧ (s.markWaiters p).sbs = s.sbs ∧ (s.markWaiters p).psc = s.psc ∧
    (s.markWaiters p).mob = s.mob ∧ (s.markWaiters p).cal = s.cal ∧ (s.markWaiters p).vcp = s.vcp ∧
    (s.markWaiters p).txt = s.txt ∧ (s.markWaiters p).hlc = s.hlc := by
  simp [State.markWaiters]

@[simp] theorem State.clearDue_keeps (w : WaitKind) (x : Sub) (s : State) :
    (s.clearDue w x).pending = s.pending ∧ (s.clearDue w x).resetHeld = s.resetHeld ∧ (s.clearDue w x).pins = s.pins ∧
    (s.clearDue w x).clock = s.clock ∧ (s.clearDue w x).rpt = s.rpt ∧ (s.clearDue w x).rta = s.rta ∧
    (s.clearDue w x).dlc = s.dlc ∧ (s.clearDue w x).sbs = s.sbs ∧ (s.clearDue w x).psc = s.psc ∧ (s.clearDue w x).mob = s.mob ∧
    (s.clearDue w x).cal = s.cal ∧ (s.clearDue w x).vcp = s.vcp ∧ (s.clearDue w x).txt = s.txt ∧
    (s.clearDue w x).hlc = s.hlc := by
  simp [State.clearDue]

@[simp] theorem State.forgetHead_keeps (x : Sub) (s : State) :
    (s.forgetHead x).pending = s.pending ∧ (s.forgetHead x).resetHeld = s.resetHeld ∧ (s.forgetHead x).pins = s.pins ∧
    (s.forgetHead x).clock = s.clock ∧ (s.forgetHead x).rta = s.rta ∧ (s.forgetHead x).dlc = s.dlc ∧
    (s.forgetHead x).sge = s.sge ∧ (s.forgetHead x).sbs = s.sbs ∧ (s.forgetHead x).psc = s.psc ∧ (s.forgetHead x).mob = s.mob ∧
    (s.forgetHead x).cal = s.cal ∧ (s.forgetHead x).vcp = s.vcp ∧ (s.forgetHead x).txt = s.txt ∧
    (s.forgetHead x).hlc = s.hlc := by
  simp [State.forgetHead]

@[simp] theorem State.dropQueued_keeps (x : Sub) (pos : Nat) (s : State) :
    (s.dropQueued x pos).pending = s.pending ∧ (s.dropQueued x pos).resetHeld = s.resetHeld ∧ (s.dropQueued x pos).pins = s.pins ∧
    (s.dropQueued x pos).clock = s.clock ∧ (s.dropQueued x pos).rta = s.rta ∧ (s.dropQueued x pos).dlc = s.dlc ∧
    (s.dropQueued x pos).sbs = s.sbs ∧ (s.dropQueued x pos).psc = s.psc ∧ (s.dropQueued x pos).mob = s.mob ∧
    (s.dropQueued x pos).cal = s.cal ∧ (s.dropQueued x pos).vcp = s.vcp ∧ (s.dropQueued x pos).txt = s.txt ∧
    (s.dropQueued x pos).hlc = s.hlc := by
  unfold State.dropQueued; (repeat' split) <;> simp

@[simp] theorem State.removeMessage_keeps (x : Sub) (ident : Ident) (s : State) :
    (s.removeMessage x ident).pending = s.pending ∧ (s.removeMessage x ident).resetHeld = s.resetHeld ∧
    (s.removeMessage x ident).pins = s.pins ∧ (s.removeMessage x ident).clock = s.clock ∧ (s.removeMessage x ident).rta = s.rta ∧
    (s.removeMessage x ident).dlc = s.dlc ∧ (s.removeMessage x ident).sbs = s.sbs ∧ (s.removeMessage x ident).psc = s.psc ∧
    (s.removeMessage x ident).mob = s.mob ∧ (s.removeMessage x ident).cal = s.cal ∧ (s.removeMessage x ident).vcp = s.vcp ∧
    (s.removeMessage x ident).txt = s.txt ∧ (s.removeMessage x ident).hlc = s.hlc := by
  unfold State.removeMessage; split <;> simp

@[simp] theorem State.freeTxn_keeps (i : Nat) (s : State) :
    (s.freeTxn i).pending = s.pending ∧ (s.freeTxn i).resetHeld = s.resetHeld ∧ (s.freeTxn i).pins = s.pins ∧
    (s.freeTxn i).clock = s.clock ∧ (s.freeTxn i).rta = s.rta ∧ (s.freeTxn i).dlc = s.dlc ∧ (s.freeTxn i).sbs = s.sbs ∧
    (s.freeTxn i).psc = s.psc ∧ (s.freeTxn i).mob = s.mob ∧ (s.freeTxn i).cal = s.cal ∧ (s.freeTxn i).vcp = s.vcp ∧
    (s.freeTxn i).txt = s.txt ∧ (s.freeTxn i).hlc = s.hlc := by
  unfold State.freeTxn; split <;> simp

@[simp] theorem State.emptyUplink_keeps (x : Sub) (s : State) :
    (s.emptyUplink x).pending = s.pending ∧ (s.emptyUplink x).resetHeld = s.resetHeld ∧ (s.emptyUplink x).pins = s.pins ∧
    (s.emptyUplink x).clock = s.clock ∧ (s.emptyUplink x).rta = s.rta ∧ (s.emptyUplink x).dlc = s.dlc ∧
    (s.emptyUplink x).sbs = s.sbs ∧ (s.emptyUplink x).psc = s.psc ∧ (s.emptyUplink x).mob = s.mob ∧
    (s.emptyUplink x).cal = s.cal ∧ (s.emptyUplink x).vcp = s.vcp ∧ (s.emptyUplink x).txt = s.txt ∧
    (s.emptyUplink x).hlc = s.hlc := by
  simp [State.emptyUplink]

@[simp] theorem State.placeSignalling_keeps (x : Sub) (s : State) :
    (s.placeSignalling x).pending = s.pending ∧ (s.placeSignalling x).resetHeld = s.resetHeld ∧
    (s.placeSignalling x).pins = s.pins ∧ (s.placeSignalling x).clock = s.clock ∧ (s.placeSignalling x).rpt = s.rpt ∧
    (s.placeSignalling x).dlc = s.dlc ∧ (s.placeSignalling x).sge = s.sge ∧ (s.placeSignalling x).sbs = s.sbs ∧
    (s.placeSignalling x).mob = s.mob ∧ (s.placeSignalling x).cal = s.cal ∧ (s.placeSignalling x).vcp = s.vcp ∧
    (s.placeSignalling x).txt = s.txt ∧ (s.placeSignalling x).hlc = s.hlc ∧ (s.placeSignalling x).psc.per = s.psc.per ∧
    (s.placeSignalling x).psc.settleS = s.psc.settleS ∧ (s.placeSignalling x).psc.notedS = s.psc.notedS := by
  simp [State.placeSignalling]

@[simp] theorem State.reexamine_keeps (x : Sub) (s : State) :
    (s.reexamine x).pending = s.pending ∧ (s.reexamine x).resetHeld = s.resetHeld ∧ (s.reexamine x).pins = s.pins ∧
    (s.reexamine x).clock = s.clock ∧ (s.reexamine x).rpt = s.rpt ∧ (s.reexamine x).dlc = s.dlc ∧ (s.reexamine x).sge = s.sge ∧
    (s.reexamine x).sbs = s.sbs ∧ (s.reexamine x).cal = s.cal ∧ (s.reexamine x).vcp = s.vcp ∧ (s.reexamine x).txt = s.txt ∧
    (s.reexamine x).hlc = s.hlc ∧ (s.reexamine x).psc.per = s.psc.per ∧ (s.reexamine x).psc.settleS = s.psc.settleS ∧
    (s.reexamine x).psc.notedS = s.psc.notedS := by
  unfold State.reexamine State.ask; (repeat' split) <;> simp

@[simp] theorem State.restartLinkIdle_keeps (x : Sub) (s : State) :
    (s.restartLinkIdle x).pending = s.pending ∧ (s.restartLinkIdle x).resetHeld = s.resetHeld ∧ (s.restartLinkIdle x).pins = s.pins ∧
    (s.restartLinkIdle x).clock = s.clock ∧ (s.restartLinkIdle x).rpt = s.rpt ∧ (s.restartLinkIdle x).rta = s.rta ∧
    (s.restartLinkIdle x).dlc = s.dlc ∧ (s.restartLinkIdle x).sbs = s.sbs ∧ (s.restartLinkIdle x).psc = s.psc ∧
    (s.restartLinkIdle x).mob = s.mob ∧ (s.restartLinkIdle x).cal = s.cal ∧ (s.restartLinkIdle x).vcp = s.vcp ∧
    (s.restartLinkIdle x).txt = s.txt ∧ (s.restartLinkIdle x).hlc = s.hlc := by
  simp [State.restartLinkIdle]

@[simp] theorem State.headLeaves_keeps (x : Sub) (s : State) :
    (s.headLeaves x).pending = s.pending ∧ (s.headLeaves x).resetHeld = s.resetHeld ∧ (s.headLeaves x).pins = s.pins ∧
    (s.headLeaves x).clock = s.clock ∧ (s.headLeaves x).rta = s.rta ∧ (s.headLeaves x).dlc = s.dlc ∧
    (s.headLeaves x).sbs = s.sbs ∧ (s.headLeaves x).psc = s.psc ∧ (s.headLeaves x).mob = s.mob ∧ (s.headLeaves x).cal = s.cal ∧
    (s.headLeaves x).vcp = s.vcp ∧ (s.headLeaves x).txt = s.txt ∧ (s.headLeaves x).hlc = s.hlc := by
  unfold State.headLeaves; dsimp only; (repeat' split) <;> simp

/-! ### Voice -/

@[simp] theorem State.sendSpeech_keeps (f : DownSpeech) (s : State) :
    (s.sendSpeech f).pending = s.pending ∧ (s.sendSpeech f).resetHeld = s.resetHeld ∧ (s.sendSpeech f).pins = s.pins ∧
    (s.sendSpeech f).clock = s.clock ∧ (s.sendSpeech f).rpt = s.rpt ∧ (s.sendSpeech f).rta = s.rta ∧
    (s.sendSpeech f).dlc = s.dlc ∧ (s.sendSpeech f).sge = s.sge ∧ (s.sendSpeech f).sbs = s.sbs ∧ (s.sendSpeech f).psc = s.psc ∧
    (s.sendSpeech f).mob = s.mob ∧ (s.sendSpeech f).cal = s.cal ∧ (s.sendSpeech f).vcp = s.vcp ∧
    (s.sendSpeech f).txt = s.txt := by
  simp [State.sendSpeech]

@[simp] theorem State.voiceStart_keeps (x : Sub) (i : Nat) (s : State) :
    (s.voiceStart x i).pending = s.pending ∧ (s.voiceStart x i).resetHeld = s.resetHeld ∧ (s.voiceStart x i).pins = s.pins ∧
    (s.voiceStart x i).clock = s.clock ∧ (s.voiceStart x i).rpt = s.rpt ∧ (s.voiceStart x i).rta = s.rta ∧
    (s.voiceStart x i).dlc = s.dlc ∧ (s.voiceStart x i).sge = s.sge ∧ (s.voiceStart x i).sbs = s.sbs ∧
    (s.voiceStart x i).psc = s.psc ∧ (s.voiceStart x i).mob = s.mob ∧ (s.voiceStart x i).cal = s.cal ∧
    (s.voiceStart x i).txt = s.txt ∧ (s.voiceStart x i).hlc = s.hlc := by
  simp [State.voiceStart]

@[simp] theorem State.voiceStop_keeps (s : State) :
    s.voiceStop.pending = s.pending ∧ s.voiceStop.resetHeld = s.resetHeld ∧ s.voiceStop.pins = s.pins ∧ s.voiceStop.clock = s.clock ∧
    s.voiceStop.rpt = s.rpt ∧ s.voiceStop.rta = s.rta ∧ s.voiceStop.dlc = s.dlc ∧ s.voiceStop.sge = s.sge ∧
    s.voiceStop.sbs = s.sbs ∧ s.voiceStop.psc = s.psc ∧ s.voiceStop.mob = s.mob ∧ s.voiceStop.cal = s.cal ∧
    s.voiceStop.txt = s.txt := by
  simp [State.voiceStop]

@[simp] theorem State.trafficEnded_keeps (code : EndCode) (s : State) :
    (s.trafficEnded code).pending = s.pending ∧ (s.trafficEnded code).resetHeld = s.resetHeld ∧ (s.trafficEnded code).pins = s.pins ∧
    (s.trafficEnded code).clock = s.clock ∧ (s.trafficEnded code).rpt = s.rpt ∧ (s.trafficEnded code).rta = s.rta ∧
    (s.trafficEnded code).dlc = s.dlc ∧ (s.trafficEnded code).sge = s.sge ∧ (s.trafficEnded code).sbs = s.sbs ∧
    (s.trafficEnded code).psc = s.psc ∧ (s.trafficEnded code).mob = s.mob ∧ (s.trafficEnded code).cal = s.cal ∧
    (s.trafficEnded code).txt = s.txt ∧ (s.trafficEnded code).hlc = s.hlc := by
  unfold State.trafficEnded; split <;> simp

@[simp] theorem State.fillHole_keeps (x : Sub) (i : Nat) (position : Seq) (s : State) :
    (s.fillHole x i position).pending = s.pending ∧ (s.fillHole x i position).resetHeld = s.resetHeld ∧
    (s.fillHole x i position).pins = s.pins ∧ (s.fillHole x i position).clock = s.clock ∧ (s.fillHole x i position).rpt = s.rpt ∧
    (s.fillHole x i position).rta = s.rta ∧ (s.fillHole x i position).dlc = s.dlc ∧ (s.fillHole x i position).sge = s.sge ∧
    (s.fillHole x i position).sbs = s.sbs ∧ (s.fillHole x i position).psc = s.psc ∧ (s.fillHole x i position).mob = s.mob ∧
    (s.fillHole x i position).cal = s.cal ∧ (s.fillHole x i position).txt = s.txt := by
  unfold State.fillHole; split <;> simp

@[simp] theorem State.playoutBoundary_keeps (s : State) :
    s.playoutBoundary.pending = s.pending ∧ s.playoutBoundary.resetHeld = s.resetHeld ∧ s.playoutBoundary.pins = s.pins ∧
    s.playoutBoundary.clock = s.clock ∧ s.playoutBoundary.rpt = s.rpt ∧ s.playoutBoundary.rta = s.rta ∧
    s.playoutBoundary.dlc = s.dlc ∧ s.playoutBoundary.sge = s.sge ∧ s.playoutBoundary.sbs = s.sbs ∧
    s.playoutBoundary.psc = s.psc ∧ s.playoutBoundary.mob = s.mob ∧ s.playoutBoundary.cal = s.cal ∧
    s.playoutBoundary.txt = s.txt := by
  unfold State.playoutBoundary; dsimp only; (repeat' split) <;> simp

/-! ### Paging -/

@[simp] theorem State.replaceMeasure_keeps (x : Sub) (s : State) :
    (s.replaceMeasure x).pending = s.pending ∧ (s.replaceMeasure x).resetHeld = s.resetHeld ∧ (s.replaceMeasure x).pins = s.pins ∧
    (s.replaceMeasure x).clock = s.clock ∧ (s.replaceMeasure x).rpt = s.rpt ∧ (s.replaceMeasure x).dlc = s.dlc ∧
    (s.replaceMeasure x).sge = s.sge ∧ (s.replaceMeasure x).sbs = s.sbs ∧ (s.replaceMeasure x).mob = s.mob ∧
    (s.replaceMeasure x).cal = s.cal ∧ (s.replaceMeasure x).vcp = s.vcp ∧ (s.replaceMeasure x).txt = s.txt ∧
    (s.replaceMeasure x).hlc = s.hlc ∧ (s.replaceMeasure x).psc.per = s.psc.per ∧
    (s.replaceMeasure x).psc.settleS = s.psc.settleS ∧ (s.replaceMeasure x).psc.notedS = s.psc.notedS := by
  unfold State.replaceMeasure; (repeat' split) <;> simp

@[simp] theorem State.withRelax_keeps (x : Sub) (f : PscSub → PscSub) (s : State) :
    (s.withRelax x f).pending = s.pending ∧ (s.withRelax x f).resetHeld = s.resetHeld ∧ (s.withRelax x f).pins = s.pins ∧
    (s.withRelax x f).clock = s.clock ∧ (s.withRelax x f).rpt = s.rpt ∧ (s.withRelax x f).dlc = s.dlc ∧
    (s.withRelax x f).sge = s.sge ∧ (s.withRelax x f).sbs = s.sbs ∧ (s.withRelax x f).mob = s.mob ∧
    (s.withRelax x f).cal = s.cal ∧ (s.withRelax x f).vcp = s.vcp ∧ (s.withRelax x f).txt = s.txt ∧
    (s.withRelax x f).hlc = s.hlc ∧ (s.withRelax x f).psc.settleS = s.psc.settleS ∧
    (s.withRelax x f).psc.notedS = s.psc.notedS := by
  unfold State.withRelax; dsimp only; (repeat' split) <;> simp

@[simp] theorem State.clearRelax_keeps (x : Sub) (s : State) :
    (s.clearRelax x).pending = s.pending ∧ (s.clearRelax x).resetHeld = s.resetHeld ∧ (s.clearRelax x).pins = s.pins ∧
    (s.clearRelax x).clock = s.clock ∧ (s.clearRelax x).rpt = s.rpt ∧ (s.clearRelax x).dlc = s.dlc ∧
    (s.clearRelax x).sge = s.sge ∧ (s.clearRelax x).sbs = s.sbs ∧ (s.clearRelax x).mob = s.mob ∧ (s.clearRelax x).cal = s.cal ∧
    (s.clearRelax x).vcp = s.vcp ∧ (s.clearRelax x).txt = s.txt ∧ (s.clearRelax x).hlc = s.hlc ∧
    (s.clearRelax x).psc.settleS = s.psc.settleS ∧ (s.clearRelax x).psc.notedS = s.psc.notedS := by
  simp [State.clearRelax]

@[simp] theorem State.giveLevel_keeps (x : Sub) (level : Option Int) (qmin : Int) (s : State) :
    (s.giveLevel x level qmin).pending = s.pending ∧ (s.giveLevel x level qmin).resetHeld = s.resetHeld ∧
    (s.giveLevel x level qmin).pins = s.pins ∧ (s.giveLevel x level qmin).clock = s.clock ∧
    (s.giveLevel x level qmin).rpt = s.rpt ∧ (s.giveLevel x level qmin).dlc = s.dlc ∧ (s.giveLevel x level qmin).sge = s.sge ∧
    (s.giveLevel x level qmin).sbs = s.sbs ∧ (s.giveLevel x level qmin).mob = s.mob ∧ (s.giveLevel x level qmin).cal = s.cal ∧
    (s.giveLevel x level qmin).vcp = s.vcp ∧ (s.giveLevel x level qmin).txt = s.txt ∧ (s.giveLevel x level qmin).hlc = s.hlc ∧
    (s.giveLevel x level qmin).psc.settleS = s.psc.settleS ∧ (s.giveLevel x level qmin).psc.notedS = s.psc.notedS := by
  simp [State.giveLevel]

@[simp] theorem State.giveServingLevel_keeps (x : Sub) (s : State) :
    (s.giveServingLevel x).pending = s.pending ∧ (s.giveServingLevel x).resetHeld = s.resetHeld ∧
    (s.giveServingLevel x).pins = s.pins ∧ (s.giveServingLevel x).clock = s.clock ∧ (s.giveServingLevel x).rpt = s.rpt ∧
    (s.giveServingLevel x).dlc = s.dlc ∧ (s.giveServingLevel x).sge = s.sge ∧ (s.giveServingLevel x).sbs = s.sbs ∧
    (s.giveServingLevel x).mob = s.mob ∧ (s.giveServingLevel x).cal = s.cal ∧ (s.giveServingLevel x).vcp = s.vcp ∧
    (s.giveServingLevel x).txt = s.txt ∧ (s.giveServingLevel x).hlc = s.hlc ∧
    (s.giveServingLevel x).psc.settleS = s.psc.settleS ∧ (s.giveServingLevel x).psc.notedS = s.psc.notedS := by
  unfold State.giveServingLevel; split <;> simp

@[simp] theorem State.clearRun_keeps (x : Sub) (s : State) :
    (s.clearRun x).pending = s.pending ∧ (s.clearRun x).resetHeld = s.resetHeld ∧ (s.clearRun x).pins = s.pins ∧
    (s.clearRun x).clock = s.clock ∧ (s.clearRun x).rpt = s.rpt ∧ (s.clearRun x).rta = s.rta ∧ (s.clearRun x).dlc = s.dlc ∧
    (s.clearRun x).sge = s.sge ∧ (s.clearRun x).sbs = s.sbs ∧ (s.clearRun x).mob = s.mob ∧ (s.clearRun x).cal = s.cal ∧
    (s.clearRun x).vcp = s.vcp ∧ (s.clearRun x).txt = s.txt ∧ (s.clearRun x).hlc = s.hlc ∧
    (s.clearRun x).psc.settleS = s.psc.settleS ∧ (s.clearRun x).psc.notedS = s.psc.notedS ∧
    (s.clearRun x).psc.power = s.psc.power := by
  simp [State.clearRun]

@[simp] theorem State.lostOccasion_keeps (x : Sub) (wasMissed : Bool) (s : State) :
    (s.lostOccasion x wasMissed).pending = s.pending ∧ (s.lostOccasion x wasMissed).resetHeld = s.resetHeld ∧
    (s.lostOccasion x wasMissed).pins = s.pins ∧ (s.lostOccasion x wasMissed).clock = s.clock ∧
    (s.lostOccasion x wasMissed).rpt = s.rpt ∧ (s.lostOccasion x wasMissed).rta = s.rta ∧
    (s.lostOccasion x wasMissed).dlc = s.dlc ∧ (s.lostOccasion x wasMissed).sge = s.sge ∧
    (s.lostOccasion x wasMissed).sbs = s.sbs ∧ (s.lostOccasion x wasMissed).mob = s.mob ∧
    (s.lostOccasion x wasMissed).cal = s.cal ∧ (s.lostOccasion x wasMissed).vcp = s.vcp ∧
    (s.lostOccasion x wasMissed).txt = s.txt ∧ (s.lostOccasion x wasMissed).psc.settleS = s.psc.settleS ∧
    (s.lostOccasion x wasMissed).psc.notedS = s.psc.notedS ∧ (s.lostOccasion x wasMissed).psc.power = s.psc.power := by
  unfold State.lostOccasion; dsimp only; (repeat' split) <;> simp

@[simp] theorem State.tryPaging_keeps (x : Sub) (s : State) :
    (s.tryPaging x).pending = s.pending ∧ (s.tryPaging x).resetHeld = s.resetHeld ∧ (s.tryPaging x).pins = s.pins ∧
    (s.tryPaging x).clock = s.clock ∧ (s.tryPaging x).rpt = s.rpt ∧ (s.tryPaging x).dlc = s.dlc ∧ (s.tryPaging x).sge = s.sge ∧
    (s.tryPaging x).sbs = s.sbs ∧ (s.tryPaging x).mob = s.mob ∧ (s.tryPaging x).cal = s.cal ∧ (s.tryPaging x).vcp = s.vcp ∧
    (s.tryPaging x).txt = s.txt ∧ (s.tryPaging x).psc.settleS = s.psc.settleS ∧ (s.tryPaging x).psc.notedS = s.psc.notedS := by
  unfold State.tryPaging; split
  · simp
  · rename_i d _; have h := State.place_keeps x .pagingListen (s.pagingWindow d) s
    split <;> rename_i heq <;> simp_all

@[simp] theorem State.placePaging_keeps (x : Sub) (s : State) :
    (s.placePaging x).pending = s.pending ∧ (s.placePaging x).resetHeld = s.resetHeld ∧ (s.placePaging x).pins = s.pins ∧
    (s.placePaging x).clock = s.clock ∧ (s.placePaging x).rpt = s.rpt ∧ (s.placePaging x).dlc = s.dlc ∧
    (s.placePaging x).sge = s.sge ∧ (s.placePaging x).sbs = s.sbs ∧ (s.placePaging x).mob = s.mob ∧
    (s.placePaging x).cal = s.cal ∧ (s.placePaging x).vcp = s.vcp ∧ (s.placePaging x).txt = s.txt ∧
    (s.placePaging x).psc.settleS = s.psc.settleS ∧ (s.placePaging x).psc.notedS = s.psc.notedS := by
  unfold State.placePaging State.ask; (repeat' split) <;> simp

@[simp] theorem State.withdrawPaging_keeps (x : Sub) (s : State) :
    (s.withdrawPaging x).pending = s.pending ∧ (s.withdrawPaging x).resetHeld = s.resetHeld ∧ (s.withdrawPaging x).pins = s.pins ∧
    (s.withdrawPaging x).clock = s.clock ∧ (s.withdrawPaging x).rpt = s.rpt ∧ (s.withdrawPaging x).dlc = s.dlc ∧
    (s.withdrawPaging x).sge = s.sge ∧ (s.withdrawPaging x).sbs = s.sbs ∧ (s.withdrawPaging x).cal = s.cal ∧
    (s.withdrawPaging x).vcp = s.vcp ∧ (s.withdrawPaging x).txt = s.txt ∧ (s.withdrawPaging x).hlc = s.hlc ∧
    (s.withdrawPaging x).psc.settleS = s.psc.settleS ∧ (s.withdrawPaging x).psc.notedS = s.psc.notedS ∧
    (s.withdrawPaging x).psc.power = s.psc.power := by
  simp [State.withdrawPaging]

@[simp] theorem State.replacePaging_keeps (x : Sub) (s : State) :
    (s.replacePaging x).pending = s.pending ∧ (s.replacePaging x).resetHeld = s.resetHeld ∧ (s.replacePaging x).pins = s.pins ∧
    (s.replacePaging x).clock = s.clock ∧ (s.replacePaging x).rpt = s.rpt ∧ (s.replacePaging x).dlc = s.dlc ∧
    (s.replacePaging x).sge = s.sge ∧ (s.replacePaging x).sbs = s.sbs ∧ (s.replacePaging x).mob = s.mob ∧
    (s.replacePaging x).cal = s.cal ∧ (s.replacePaging x).vcp = s.vcp ∧ (s.replacePaging x).txt = s.txt ∧
    (s.replacePaging x).hlc = s.hlc ∧ (s.replacePaging x).psc.settleS = s.psc.settleS ∧
    (s.replacePaging x).psc.notedS = s.psc.notedS := by
  unfold State.replacePaging; (repeat' split) <;> simp

@[simp] theorem State.recomputeSchedule_keeps (x : Sub) (s : State) :
    (s.recomputeSchedule x).pending = s.pending ∧ (s.recomputeSchedule x).resetHeld = s.resetHeld ∧
    (s.recomputeSchedule x).pins = s.pins ∧ (s.recomputeSchedule x).clock = s.clock ∧ (s.recomputeSchedule x).rpt = s.rpt ∧
    (s.recomputeSchedule x).dlc = s.dlc ∧ (s.recomputeSchedule x).sge = s.sge ∧ (s.recomputeSchedule x).sbs = s.sbs ∧
    (s.recomputeSchedule x).mob = s.mob ∧ (s.recomputeSchedule x).cal = s.cal ∧ (s.recomputeSchedule x).vcp = s.vcp ∧
    (s.recomputeSchedule x).txt = s.txt ∧ (s.recomputeSchedule x).hlc = s.hlc ∧
    (s.recomputeSchedule x).psc.settleS = s.psc.settleS ∧ (s.recomputeSchedule x).psc.notedS = s.psc.notedS := by
  unfold State.recomputeSchedule; dsimp only; (repeat' split) <;> simp

@[simp] theorem State.quietListen_keeps (x : Sub) (h : Listen) (s : State) :
    (s.quietListen x h).pending = s.pending ∧ (s.quietListen x h).resetHeld = s.resetHeld ∧ (s.quietListen x h).pins = s.pins ∧
    (s.quietListen x h).clock = s.clock ∧ (s.quietListen x h).rpt = s.rpt ∧ (s.quietListen x h).dlc = s.dlc ∧
    (s.quietListen x h).sge = s.sge ∧ (s.quietListen x h).sbs = s.sbs ∧ (s.quietListen x h).mob = s.mob ∧
    (s.quietListen x h).cal = s.cal ∧ (s.quietListen x h).vcp = s.vcp ∧ (s.quietListen x h).txt = s.txt ∧
    (s.quietListen x h).hlc = s.hlc ∧ (s.quietListen x h).psc.settleS = s.psc.settleS ∧
    (s.quietListen x h).psc.notedS = s.psc.notedS := by
  unfold State.quietListen; split <;> simp

@[simp] theorem State.listenEnded_keeps (x : Sub) (code : EndCode) (first : Option Frame) (s : State) :
    (s.listenEnded x code first).pending = s.pending ∧ (s.listenEnded x code first).resetHeld = s.resetHeld ∧
    (s.listenEnded x code first).pins = s.pins ∧ (s.listenEnded x code first).clock = s.clock ∧
    (s.listenEnded x code first).rpt = s.rpt ∧ (s.listenEnded x code first).dlc = s.dlc ∧
    (s.listenEnded x code first).sge = s.sge ∧ (s.listenEnded x code first).sbs = s.sbs ∧
    (s.listenEnded x code first).mob = s.mob ∧ (s.listenEnded x code first).cal = s.cal ∧
    (s.listenEnded x code first).vcp = s.vcp ∧ (s.listenEnded x code first).txt = s.txt ∧
    (s.listenEnded x code first).psc.settleS = s.psc.settleS ∧ (s.listenEnded x code first).psc.notedS = s.psc.notedS := by
  unfold State.listenEnded; (repeat' split) <;> simp

/-! ### Subscriber Store -/

@[simp] theorem State.updateStanding_keeps (x : Sub) (s : State) :
    (s.updateStanding x).pending = s.pending ∧ (s.updateStanding x).resetHeld = s.resetHeld ∧ (s.updateStanding x).pins = s.pins ∧
    (s.updateStanding x).clock = s.clock ∧ (s.updateStanding x).rpt = s.rpt ∧ (s.updateStanding x).rta = s.rta ∧
    (s.updateStanding x).dlc = s.dlc ∧ (s.updateStanding x).sge = s.sge ∧ (s.updateStanding x).psc = s.psc ∧
    (s.updateStanding x).mob = s.mob ∧ (s.updateStanding x).cal = s.cal ∧ (s.updateStanding x).vcp = s.vcp ∧
    (s.updateStanding x).txt = s.txt := by
  unfold State.updateStanding; dsimp only; (repeat' split) <;> simp

@[simp] theorem State.pendUpdate_keeps (x : Sub) (byPage : Bool) (s : State) :
    (s.pendUpdate x byPage).pending = s.pending ∧ (s.pendUpdate x byPage).resetHeld = s.resetHeld ∧
    (s.pendUpdate x byPage).pins = s.pins ∧ (s.pendUpdate x byPage).clock = s.clock ∧ (s.pendUpdate x byPage).rpt = s.rpt ∧
    (s.pendUpdate x byPage).rta = s.rta ∧ (s.pendUpdate x byPage).dlc = s.dlc ∧ (s.pendUpdate x byPage).psc = s.psc ∧
    (s.pendUpdate x byPage).mob = s.mob ∧ (s.pendUpdate x byPage).cal = s.cal ∧ (s.pendUpdate x byPage).vcp = s.vcp ∧
    (s.pendUpdate x byPage).txt = s.txt ∧ (s.pendUpdate x byPage).hlc = s.hlc := by
  simp [State.pendUpdate]

@[simp] theorem State.dropUpdate_keeps (x : Sub) (s : State) :
    (s.dropUpdate x).pending = s.pending ∧ (s.dropUpdate x).resetHeld = s.resetHeld ∧ (s.dropUpdate x).pins = s.pins ∧
    (s.dropUpdate x).clock = s.clock ∧ (s.dropUpdate x).rpt = s.rpt ∧ (s.dropUpdate x).rta = s.rta ∧
    (s.dropUpdate x).dlc = s.dlc ∧ (s.dropUpdate x).psc = s.psc ∧ (s.dropUpdate x).mob = s.mob ∧ (s.dropUpdate x).cal = s.cal ∧
    (s.dropUpdate x).vcp = s.vcp ∧ (s.dropUpdate x).txt = s.txt ∧ (s.dropUpdate x).hlc = s.hlc := by
  simp [State.dropUpdate]

@[simp] theorem State.openUpdate_keeps (x : Sub) (byPage : Bool) (s : State) :
    (s.openUpdate x byPage).pending = s.pending ∧ (s.openUpdate x byPage).resetHeld = s.resetHeld ∧
    (s.openUpdate x byPage).pins = s.pins ∧ (s.openUpdate x byPage).clock = s.clock ∧ (s.openUpdate x byPage).rpt = s.rpt ∧
    (s.openUpdate x byPage).rta = s.rta ∧ (s.openUpdate x byPage).dlc = s.dlc ∧ (s.openUpdate x byPage).psc = s.psc ∧
    (s.openUpdate x byPage).mob = s.mob ∧ (s.openUpdate x byPage).cal = s.cal ∧ (s.openUpdate x byPage).vcp = s.vcp ∧
    (s.openUpdate x byPage).txt = s.txt ∧ (s.openUpdate x byPage).hlc = s.hlc := by
  unfold State.openUpdate; split
  · simp
  · rename_i v _; have h := State.offer_keeps x (s.areaOffer x v.area) s
    (repeat' split) <;> simp_all

@[simp] theorem State.areaPassed_keeps (x : Sub) (s : State) :
    (s.areaPassed x).pending = s.pending ∧ (s.areaPassed x).resetHeld = s.resetHeld ∧ (s.areaPassed x).pins = s.pins ∧
    (s.areaPassed x).clock = s.clock ∧ (s.areaPassed x).rpt = s.rpt ∧ (s.areaPassed x).rta = s.rta ∧
    (s.areaPassed x).dlc = s.dlc ∧ (s.areaPassed x).psc = s.psc ∧ (s.areaPassed x).mob = s.mob ∧ (s.areaPassed x).cal = s.cal ∧
    (s.areaPassed x).vcp = s.vcp ∧ (s.areaPassed x).txt = s.txt ∧ (s.areaPassed x).hlc = s.hlc := by
  unfold State.areaPassed; (repeat' split) <;> simp

@[simp] theorem State.retryUpdate_keeps (x : Sub) (s : State) :
    (s.retryUpdate x).pending = s.pending ∧ (s.retryUpdate x).resetHeld = s.resetHeld ∧ (s.retryUpdate x).pins = s.pins ∧
    (s.retryUpdate x).clock = s.clock ∧ (s.retryUpdate x).rpt = s.rpt ∧ (s.retryUpdate x).rta = s.rta ∧
    (s.retryUpdate x).dlc = s.dlc ∧ (s.retryUpdate x).psc = s.psc ∧ (s.retryUpdate x).mob = s.mob ∧
    (s.retryUpdate x).cal = s.cal ∧ (s.retryUpdate x).vcp = s.vcp ∧ (s.retryUpdate x).txt = s.txt ∧
    (s.retryUpdate x).hlc = s.hlc := by
  unfold State.retryUpdate; (repeat' split) <;> simp

@[simp] theorem State.reject_keeps (x : Sub) (item : RejectItem) (s : State) :
    (s.reject x item).pending = s.pending ∧ (s.reject x item).resetHeld = s.resetHeld ∧ (s.reject x item).pins = s.pins ∧
    (s.reject x item).clock = s.clock ∧ (s.reject x item).rpt = s.rpt ∧ (s.reject x item).dlc = s.dlc ∧
    (s.reject x item).sge = s.sge ∧ (s.reject x item).cal = s.cal ∧ (s.reject x item).vcp = s.vcp ∧
    (s.reject x item).txt = s.txt ∧ (s.reject x item).hlc = s.hlc ∧ (s.reject x item).psc.settleS = s.psc.settleS ∧
    (s.reject x item).psc.notedS = s.psc.notedS ∧ (s.reject x item).psc.power = s.psc.power := by
  simp [State.reject]

@[simp] theorem State.areaAccepted_keeps (x : Sub) (area : Nat) (newAlias : Option AliasValue) (s : State) :
    (s.areaAccepted x area newAlias).pending = s.pending ∧ (s.areaAccepted x area newAlias).resetHeld = s.resetHeld ∧
    (s.areaAccepted x area newAlias).pins = s.pins ∧ (s.areaAccepted x area newAlias).clock = s.clock ∧
    (s.areaAccepted x area newAlias).rpt = s.rpt ∧ (s.areaAccepted x area newAlias).dlc = s.dlc ∧
    (s.areaAccepted x area newAlias).sge = s.sge ∧ (s.areaAccepted x area newAlias).mob = s.mob ∧
    (s.areaAccepted x area newAlias).cal = s.cal ∧ (s.areaAccepted x area newAlias).vcp = s.vcp ∧
    (s.areaAccepted x area newAlias).txt = s.txt ∧ (s.areaAccepted x area newAlias).hlc = s.hlc ∧
    (s.areaAccepted x area newAlias).psc.settleS = s.psc.settleS ∧
    (s.areaAccepted x area newAlias).psc.notedS = s.psc.notedS := by
  unfold State.areaAccepted; split <;> simp

@[simp] theorem State.areaEnded_keeps (x : Sub) (outcome : TxnOutcome) (accept : Option (Nat × Option AliasValue)) (s : State) :
    (s.areaEnded x outcome accept).pending = s.pending ∧ (s.areaEnded x outcome accept).resetHeld = s.resetHeld ∧
    (s.areaEnded x outcome accept).pins = s.pins ∧ (s.areaEnded x outcome accept).clock = s.clock ∧
    (s.areaEnded x outcome accept).rpt = s.rpt ∧ (s.areaEnded x outcome accept).dlc = s.dlc ∧
    (s.areaEnded x outcome accept).cal = s.cal ∧ (s.areaEnded x outcome accept).vcp = s.vcp ∧
    (s.areaEnded x outcome accept).txt = s.txt ∧ (s.areaEnded x outcome accept).psc.settleS = s.psc.settleS ∧
    (s.areaEnded x outcome accept).psc.notedS = s.psc.notedS := by
  unfold State.areaEnded; split <;> simp

/-! ### Calls -/

@[simp] theorem State.moveCtx_keeps (i : Nat) (st : CallState) (s : State) :
    (s.moveCtx i st).pending = s.pending ∧ (s.moveCtx i st).resetHeld = s.resetHeld ∧ (s.moveCtx i st).pins = s.pins ∧
    (s.moveCtx i st).clock = s.clock ∧ (s.moveCtx i st).rpt = s.rpt ∧ (s.moveCtx i st).rta = s.rta ∧
    (s.moveCtx i st).dlc = s.dlc ∧ (s.moveCtx i st).sge = s.sge ∧ (s.moveCtx i st).sbs = s.sbs ∧ (s.moveCtx i st).psc = s.psc ∧
    (s.moveCtx i st).mob = s.mob ∧ (s.moveCtx i st).txt = s.txt := by
  unfold State.moveCtx; dsimp only; (repeat' split) <;> simp

@[simp] theorem State.recordCause_keeps (i : Nat) (new : Cause) (s : State) :
    (s.recordCause i new).pending = s.pending ∧ (s.recordCause i new).resetHeld = s.resetHeld ∧ (s.recordCause i new).pins = s.pins ∧
    (s.recordCause i new).clock = s.clock ∧ (s.recordCause i new).rpt = s.rpt ∧ (s.recordCause i new).rta = s.rta ∧
    (s.recordCause i new).dlc = s.dlc ∧ (s.recordCause i new).sge = s.sge ∧ (s.recordCause i new).sbs = s.sbs ∧
    (s.recordCause i new).psc = s.psc ∧ (s.recordCause i new).mob = s.mob ∧ (s.recordCause i new).vcp = s.vcp ∧
    (s.recordCause i new).txt = s.txt ∧ (s.recordCause i new).hlc = s.hlc := by
  simp [State.recordCause]

@[simp] theorem State.reportEnded_keeps (i : Nat) (item : Option ErrorItem) (s : State) :
    (s.reportEnded i item).pending = s.pending ∧ (s.reportEnded i item).resetHeld = s.resetHeld ∧
    (s.reportEnded i item).pins = s.pins ∧ (s.reportEnded i item).clock = s.clock ∧ (s.reportEnded i item).rpt = s.rpt ∧
    (s.reportEnded i item).rta = s.rta ∧ (s.reportEnded i item).dlc = s.dlc ∧ (s.reportEnded i item).sge = s.sge ∧
    (s.reportEnded i item).sbs = s.sbs ∧ (s.reportEnded i item).psc = s.psc ∧ (s.reportEnded i item).mob = s.mob ∧
    (s.reportEnded i item).cal = s.cal ∧ (s.reportEnded i item).vcp = s.vcp ∧ (s.reportEnded i item).txt = s.txt := by
  unfold State.reportEnded; dsimp only; (repeat' split) <;> simp

@[simp] theorem State.dropTraffic_keeps (x : Sub) (s : State) :
    (s.dropTraffic x).pending = s.pending ∧ (s.dropTraffic x).resetHeld = s.resetHeld ∧ (s.dropTraffic x).pins = s.pins ∧
    (s.dropTraffic x).clock = s.clock ∧ (s.dropTraffic x).rpt = s.rpt ∧ (s.dropTraffic x).dlc = s.dlc ∧
    (s.dropTraffic x).sge = s.sge ∧ (s.dropTraffic x).sbs = s.sbs ∧ (s.dropTraffic x).psc = s.psc ∧
    (s.dropTraffic x).vcp = s.vcp ∧ (s.dropTraffic x).txt = s.txt ∧ (s.dropTraffic x).hlc = s.hlc := by
  unfold State.dropTraffic; split <;> simp

@[simp] theorem State.endCtx_keeps (i : Nat) (item : Option ErrorItem) (s : State) :
    (s.endCtx i item).pending = s.pending ∧ (s.endCtx i item).resetHeld = s.resetHeld ∧ (s.endCtx i item).pins = s.pins ∧
    (s.endCtx i item).clock = s.clock ∧ (s.endCtx i item).rpt = s.rpt ∧ (s.endCtx i item).dlc = s.dlc ∧
    (s.endCtx i item).sge = s.sge ∧ (s.endCtx i item).sbs = s.sbs ∧ (s.endCtx i item).psc = s.psc ∧
    (s.endCtx i item).txt = s.txt := by
  simp [State.endCtx]

@[simp] theorem State.answerPending_keeps (code : ResultCode) (s : State) :
    (s.answerPending code).pending = s.pending ∧ (s.answerPending code).resetHeld = s.resetHeld ∧
    (s.answerPending code).pins = s.pins ∧ (s.answerPending code).clock = s.clock ∧ (s.answerPending code).rpt = s.rpt ∧
    (s.answerPending code).rta = s.rta ∧ (s.answerPending code).dlc = s.dlc ∧ (s.answerPending code).sge = s.sge ∧
    (s.answerPending code).sbs = s.sbs ∧ (s.answerPending code).psc = s.psc ∧ (s.answerPending code).mob = s.mob ∧
    (s.answerPending code).vcp = s.vcp ∧ (s.answerPending code).txt = s.txt := by
  unfold State.answerPending; split <;> simp

@[simp] theorem State.ctxOffer_keeps (i : Nat) (k : TxnKind) (body : UpBody) (s : State) :
    (s.ctxOffer i k body).2.pending = s.pending ∧ (s.ctxOffer i k body).2.resetHeld = s.resetHeld ∧
    (s.ctxOffer i k body).2.pins = s.pins ∧ (s.ctxOffer i k body).2.clock = s.clock ∧ (s.ctxOffer i k body).2.rpt = s.rpt ∧
    (s.ctxOffer i k body).2.rta = s.rta ∧ (s.ctxOffer i k body).2.dlc = s.dlc ∧ (s.ctxOffer i k body).2.sbs = s.sbs ∧
    (s.ctxOffer i k body).2.psc = s.psc ∧ (s.ctxOffer i k body).2.mob = s.mob ∧ (s.ctxOffer i k body).2.cal = s.cal ∧
    (s.ctxOffer i k body).2.vcp = s.vcp ∧ (s.ctxOffer i k body).2.txt = s.txt ∧ (s.ctxOffer i k body).2.hlc = s.hlc := by
  simp [State.ctxOffer]

@[simp] theorem State.connectAnswered_keeps (j : Nat) (s : State) :
    (s.connectAnswered j).pending = s.pending ∧ (s.connectAnswered j).resetHeld = s.resetHeld ∧ (s.connectAnswered j).pins = s.pins ∧
    (s.connectAnswered j).clock = s.clock ∧ (s.connectAnswered j).rpt = s.rpt ∧ (s.connectAnswered j).rta = s.rta ∧
    (s.connectAnswered j).dlc = s.dlc ∧ (s.connectAnswered j).sbs = s.sbs ∧ (s.connectAnswered j).psc = s.psc ∧
    (s.connectAnswered j).mob = s.mob ∧ (s.connectAnswered j).txt = s.txt := by
  have h := State.ctxOffer_keeps j .connect (.connect (s.ctx j).callRef) s
  unfold State.connectAnswered; dsimp only; (repeat' split) <;> simp_all

@[simp] theorem State.unanswer_keeps (j : Nat) (s : State) :
    (s.unanswer j).pending = s.pending ∧ (s.unanswer j).resetHeld = s.resetHeld ∧ (s.unanswer j).pins = s.pins ∧
    (s.unanswer j).clock = s.clock ∧ (s.unanswer j).rpt = s.rpt ∧ (s.unanswer j).rta = s.rta ∧ (s.unanswer j).dlc = s.dlc ∧
    (s.unanswer j).sge = s.sge ∧ (s.unanswer j).sbs = s.sbs ∧ (s.unanswer j).psc = s.psc ∧ (s.unanswer j).mob = s.mob ∧
    (s.unanswer j).vcp = s.vcp ∧ (s.unanswer j).txt = s.txt ∧ (s.unanswer j).hlc = s.hlc := by
  unfold State.unanswer; split <;> simp

@[simp] theorem State.pendingLeft_keeps (i : Nat) (s : State) :
    (s.pendingLeft i).pending = s.pending ∧ (s.pendingLeft i).resetHeld = s.resetHeld ∧ (s.pendingLeft i).pins = s.pins ∧
    (s.pendingLeft i).clock = s.clock ∧ (s.pendingLeft i).rpt = s.rpt ∧ (s.pendingLeft i).rta = s.rta ∧
    (s.pendingLeft i).dlc = s.dlc ∧ (s.pendingLeft i).sbs = s.sbs ∧ (s.pendingLeft i).psc = s.psc ∧
    (s.pendingLeft i).mob = s.mob ∧ (s.pendingLeft i).txt = s.txt := by
  unfold State.pendingLeft; (repeat' split) <;> simp

@[simp] theorem State.failPending_keeps (x : Sub) (s : State) :
    (s.failPending x).pending = s.pending ∧ (s.failPending x).resetHeld = s.resetHeld ∧ (s.failPending x).pins = s.pins ∧
    (s.failPending x).clock = s.clock ∧ (s.failPending x).rpt = s.rpt ∧ (s.failPending x).rta = s.rta ∧
    (s.failPending x).dlc = s.dlc ∧ (s.failPending x).sge = s.sge ∧ (s.failPending x).sbs = s.sbs ∧
    (s.failPending x).psc = s.psc ∧ (s.failPending x).mob = s.mob ∧ (s.failPending x).vcp = s.vcp ∧
    (s.failPending x).txt = s.txt := by
  unfold State.failPending; (repeat' split) <;> simp

@[simp] theorem State.releaseCtx_keeps (i : Nat) (cause : Cause) (s : State) :
    (s.releaseCtx i cause).pending = s.pending ∧ (s.releaseCtx i cause).resetHeld = s.resetHeld ∧
    (s.releaseCtx i cause).pins = s.pins ∧ (s.releaseCtx i cause).clock = s.clock ∧ (s.releaseCtx i cause).rpt = s.rpt ∧
    (s.releaseCtx i cause).dlc = s.dlc ∧ (s.releaseCtx i cause).sbs = s.sbs ∧ (s.releaseCtx i cause).psc = s.psc ∧
    (s.releaseCtx i cause).txt = s.txt := by
  unfold State.releaseCtx; dsimp only; (repeat' split) <;>
    (have h := congrArg Prod.snd ‹_ = (_, _)›; dsimp only at h; subst h; simp)

@[simp] theorem State.endAllCtxs_keeps (x : Sub) (cause : Cause) (s : State) :
    (s.endAllCtxs x cause).pending = s.pending ∧ (s.endAllCtxs x cause).resetHeld = s.resetHeld ∧
    (s.endAllCtxs x cause).pins = s.pins ∧ (s.endAllCtxs x cause).clock = s.clock ∧ (s.endAllCtxs x cause).rpt = s.rpt ∧
    (s.endAllCtxs x cause).dlc = s.dlc ∧ (s.endAllCtxs x cause).sge = s.sge ∧ (s.endAllCtxs x cause).sbs = s.sbs ∧
    (s.endAllCtxs x cause).psc = s.psc ∧ (s.endAllCtxs x cause).txt = s.txt := by
  have key : ∀ (l : List (Nat)) (t : State), (l.foldl (fun s i => (s.recordCause i cause).endCtx i none) t).pending = t.pending ∧ (l.foldl (fun s i => (s.recordCause i cause).endCtx i none) t).resetHeld = t.resetHeld ∧ (l.foldl (fun s i => (s.recordCause i cause).endCtx i none) t).pins = t.pins ∧ (l.foldl (fun s i => (s.recordCause i cause).endCtx i none) t).clock = t.clock ∧ (l.foldl (fun s i => (s.recordCause i cause).endCtx i none) t).rpt = t.rpt ∧ (l.foldl (fun s i => (s.recordCause i cause).endCtx i none) t).dlc = t.dlc ∧ (l.foldl (fun s i => (s.recordCause i cause).endCtx i none) t).sge = t.sge ∧ (l.foldl (fun s i => (s.recordCause i cause).endCtx i none) t).sbs = t.sbs ∧ (l.foldl (fun s i => (s.recordCause i cause).endCtx i none) t).psc = t.psc ∧ (l.foldl (fun s i => (s.recordCause i cause).endCtx i none) t).txt = t.txt := by
    intro l; induction l with
    | nil => simp
    | cons a l ih => intro t; simp [ih]
  unfold State.endAllCtxs; dsimp only; split <;> simp [key]

@[simp] theorem State.placeTraffic_keeps (x : Sub) (s : State) :
    (s.placeTraffic x).pending = s.pending ∧ (s.placeTraffic x).resetHeld = s.resetHeld ∧ (s.placeTraffic x).pins = s.pins ∧
    (s.placeTraffic x).clock = s.clock ∧ (s.placeTraffic x).rpt = s.rpt ∧ (s.placeTraffic x).dlc = s.dlc ∧
    (s.placeTraffic x).sge = s.sge ∧ (s.placeTraffic x).sbs = s.sbs ∧ (s.placeTraffic x).mob = s.mob ∧
    (s.placeTraffic x).vcp = s.vcp ∧ (s.placeTraffic x).txt = s.txt ∧ (s.placeTraffic x).hlc = s.hlc ∧
    (s.placeTraffic x).psc.per = s.psc.per ∧ (s.placeTraffic x).psc.settleS = s.psc.settleS ∧
    (s.placeTraffic x).psc.notedS = s.psc.notedS := by
  unfold State.placeTraffic; split
  · simp
  · split <;> (rename_i t heq; have h : _ = t := congrArg Prod.snd heq; subst h) <;> (try dsimp only) <;> (try split) <;> simp

@[simp] theorem State.becomeActive_keeps (i : Nat) (s : State) :
    (s.becomeActive i).pending = s.pending ∧ (s.becomeActive i).resetHeld = s.resetHeld ∧ (s.becomeActive i).pins = s.pins ∧
    (s.becomeActive i).clock = s.clock ∧ (s.becomeActive i).rpt = s.rpt ∧ (s.becomeActive i).dlc = s.dlc ∧
    (s.becomeActive i).sge = s.sge ∧ (s.becomeActive i).sbs = s.sbs ∧ (s.becomeActive i).mob = s.mob ∧
    (s.becomeActive i).txt = s.txt ∧ (s.becomeActive i).psc.settleS = s.psc.settleS ∧
    (s.becomeActive i).psc.notedS = s.psc.notedS := by
  simp [State.becomeActive]

@[simp] theorem State.callConnected_keeps (i : Nat) (s : State) :
    (s.callConnected i).pending = s.pending ∧ (s.callConnected i).resetHeld = s.resetHeld ∧ (s.callConnected i).pins = s.pins ∧
    (s.callConnected i).clock = s.clock ∧ (s.callConnected i).rpt = s.rpt ∧ (s.callConnected i).dlc = s.dlc ∧
    (s.callConnected i).sge = s.sge ∧ (s.callConnected i).sbs = s.sbs ∧ (s.callConnected i).mob = s.mob ∧
    (s.callConnected i).txt = s.txt ∧ (s.callConnected i).psc.settleS = s.psc.settleS ∧
    (s.callConnected i).psc.notedS = s.psc.notedS := by
  unfold State.callConnected; split <;> simp

@[simp] theorem State.moveActive_keeps (i : Nat) (s : State) :
    (s.moveActive i).pending = s.pending ∧ (s.moveActive i).resetHeld = s.resetHeld ∧ (s.moveActive i).pins = s.pins ∧
    (s.moveActive i).clock = s.clock ∧ (s.moveActive i).rpt = s.rpt ∧ (s.moveActive i).dlc = s.dlc ∧
    (s.moveActive i).sge = s.sge ∧ (s.moveActive i).sbs = s.sbs ∧ (s.moveActive i).mob = s.mob ∧ (s.moveActive i).txt = s.txt ∧
    (s.moveActive i).psc.settleS = s.psc.settleS ∧ (s.moveActive i).psc.notedS = s.psc.notedS := by
  simp [State.moveActive]

@[simp] theorem State.holdEnded_keeps (i : Nat) (ok : Bool) (s : State) :
    (s.holdEnded i ok).pending = s.pending ∧ (s.holdEnded i ok).resetHeld = s.resetHeld ∧ (s.holdEnded i ok).pins = s.pins ∧
    (s.holdEnded i ok).clock = s.clock ∧ (s.holdEnded i ok).rpt = s.rpt ∧ (s.holdEnded i ok).dlc = s.dlc ∧
    (s.holdEnded i ok).sbs = s.sbs ∧ (s.holdEnded i ok).mob = s.mob ∧ (s.holdEnded i ok).txt = s.txt ∧
    (s.holdEnded i ok).psc.settleS = s.psc.settleS ∧ (s.holdEnded i ok).psc.notedS = s.psc.notedS := by
  unfold State.holdEnded; dsimp only; (repeat' split) <;> simp

@[simp] theorem State.resumeEnded_keeps (i : Nat) (ok : Bool) (s : State) :
    (s.resumeEnded i ok).pending = s.pending ∧ (s.resumeEnded i ok).resetHeld = s.resetHeld ∧ (s.resumeEnded i ok).pins = s.pins ∧
    (s.resumeEnded i ok).clock = s.clock ∧ (s.resumeEnded i ok).rpt = s.rpt ∧ (s.resumeEnded i ok).dlc = s.dlc ∧
    (s.resumeEnded i ok).sge = s.sge ∧ (s.resumeEnded i ok).sbs = s.sbs ∧ (s.resumeEnded i ok).mob = s.mob ∧
    (s.resumeEnded i ok).txt = s.txt ∧ (s.resumeEnded i ok).psc.settleS = s.psc.settleS ∧
    (s.resumeEnded i ok).psc.notedS = s.psc.notedS := by
  unfold State.resumeEnded; split <;> simp

@[simp] theorem State.ctxOutcome_keeps (i : Nat) (k : TxnKind) (o : TxnOutcome) (s : State) :
    (s.ctxOutcome i k o).pending = s.pending ∧ (s.ctxOutcome i k o).resetHeld = s.resetHeld ∧ (s.ctxOutcome i k o).pins = s.pins ∧
    (s.ctxOutcome i k o).clock = s.clock ∧ (s.ctxOutcome i k o).rpt = s.rpt ∧ (s.ctxOutcome i k o).dlc = s.dlc ∧
    (s.ctxOutcome i k o).sbs = s.sbs ∧ (s.ctxOutcome i k o).txt = s.txt ∧ (s.ctxOutcome i k o).psc.settleS = s.psc.settleS ∧
    (s.ctxOutcome i k o).psc.notedS = s.psc.notedS := by
  unfold State.ctxOutcome; (repeat' split) <;> simp

@[simp] theorem State.ctxProgress_keeps (i : Nat) (alert : Bool) (s : State) :
    (s.ctxProgress i alert).pending = s.pending ∧ (s.ctxProgress i alert).resetHeld = s.resetHeld ∧
    (s.ctxProgress i alert).pins = s.pins ∧ (s.ctxProgress i alert).clock = s.clock ∧ (s.ctxProgress i alert).rpt = s.rpt ∧
    (s.ctxProgress i alert).rta = s.rta ∧ (s.ctxProgress i alert).dlc = s.dlc ∧ (s.ctxProgress i alert).sge = s.sge ∧
    (s.ctxProgress i alert).sbs = s.sbs ∧ (s.ctxProgress i alert).psc = s.psc ∧ (s.ctxProgress i alert).mob = s.mob ∧
    (s.ctxProgress i alert).vcp = s.vcp ∧ (s.ctxProgress i alert).txt = s.txt := by
  unfold State.ctxProgress; dsimp only; (repeat' split) <;> simp

@[simp] theorem State.takeSetup_keeps (x : Sub) (i ref : Nat) (ident : Ident) (number : Digits) (s : State) :
    (s.takeSetup x i ref ident number).pending = s.pending ∧ (s.takeSetup x i ref ident number).resetHeld = s.resetHeld ∧
    (s.takeSetup x i ref ident number).pins = s.pins ∧ (s.takeSetup x i ref ident number).clock = s.clock ∧
    (s.takeSetup x i ref ident number).rpt = s.rpt ∧ (s.takeSetup x i ref ident number).dlc = s.dlc ∧
    (s.takeSetup x i ref ident number).sbs = s.sbs ∧ (s.takeSetup x i ref ident number).psc = s.psc ∧
    (s.takeSetup x i ref ident number).txt = s.txt := by
  unfold State.takeSetup; dsimp only; (repeat' split) <;> simp

@[simp] theorem State.setupIn_keeps (x : Sub) (ident : Ident) (ref : Nat) (type : NumberType) (digits : Digits) (s : State) :
    (s.setupIn x ident ref type digits).pending = s.pending ∧ (s.setupIn x ident ref type digits).resetHeld = s.resetHeld ∧
    (s.setupIn x ident ref type digits).pins = s.pins ∧ (s.setupIn x ident ref type digits).clock = s.clock ∧
    (s.setupIn x ident ref type digits).rpt = s.rpt ∧ (s.setupIn x ident ref type digits).dlc = s.dlc ∧
    (s.setupIn x ident ref type digits).sbs = s.sbs ∧ (s.setupIn x ident ref type digits).psc = s.psc ∧
    (s.setupIn x ident ref type digits).txt = s.txt := by
  unfold State.setupIn; (repeat' split) <;> simp

@[simp] theorem State.networkRelease_keeps (x : Sub) (ident : Ident) (ref : Nat) (item : Option ErrorItem) (s : State) :
    (s.networkRelease x ident ref item).pending = s.pending ∧ (s.networkRelease x ident ref item).resetHeld = s.resetHeld ∧
    (s.networkRelease x ident ref item).pins = s.pins ∧ (s.networkRelease x ident ref item).clock = s.clock ∧
    (s.networkRelease x ident ref item).rpt = s.rpt ∧ (s.networkRelease x ident ref item).dlc = s.dlc ∧
    (s.networkRelease x ident ref item).sbs = s.sbs ∧ (s.networkRelease x ident ref item).psc = s.psc ∧
    (s.networkRelease x ident ref item).txt = s.txt := by
  unfold State.networkRelease; dsimp only; (repeat' split) <;> simp

/-! ### Texts -/

@[simp] theorem State.onText_keeps (i : Nat) (f : TextEntry → TextEntry) (s : State) :
    (s.onText i f).pending = s.pending ∧ (s.onText i f).resetHeld = s.resetHeld ∧ (s.onText i f).pins = s.pins ∧
    (s.onText i f).clock = s.clock ∧ (s.onText i f).rpt = s.rpt ∧ (s.onText i f).rta = s.rta ∧ (s.onText i f).dlc = s.dlc ∧
    (s.onText i f).sge = s.sge ∧ (s.onText i f).sbs = s.sbs ∧ (s.onText i f).psc = s.psc ∧ (s.onText i f).mob = s.mob ∧
    (s.onText i f).cal = s.cal ∧ (s.onText i f).vcp = s.vcp ∧ (s.onText i f).hlc = s.hlc := by
  simp [State.onText]

@[simp] theorem State.freeText_keeps (i : Nat) (s : State) :
    (s.freeText i).pending = s.pending ∧ (s.freeText i).resetHeld = s.resetHeld ∧ (s.freeText i).pins = s.pins ∧
    (s.freeText i).clock = s.clock ∧ (s.freeText i).rpt = s.rpt ∧ (s.freeText i).rta = s.rta ∧ (s.freeText i).dlc = s.dlc ∧
    (s.freeText i).sge = s.sge ∧ (s.freeText i).sbs = s.sbs ∧ (s.freeText i).psc = s.psc ∧ (s.freeText i).mob = s.mob ∧
    (s.freeText i).cal = s.cal ∧ (s.freeText i).vcp = s.vcp ∧ (s.freeText i).hlc = s.hlc := by
  unfold State.freeText; split <;> simp

@[simp] theorem State.offerText_keeps (i : Nat) (s : State) :
    (s.offerText i).pending = s.pending ∧ (s.offerText i).resetHeld = s.resetHeld ∧ (s.offerText i).pins = s.pins ∧
    (s.offerText i).clock = s.clock ∧ (s.offerText i).rpt = s.rpt ∧ (s.offerText i).rta = s.rta ∧ (s.offerText i).dlc = s.dlc ∧
    (s.offerText i).sge = s.sge ∧ (s.offerText i).sbs = s.sbs ∧ (s.offerText i).psc = s.psc ∧ (s.offerText i).mob = s.mob ∧
    (s.offerText i).cal = s.cal ∧ (s.offerText i).vcp = s.vcp := by
  unfold State.offerText; (repeat' split) <;> simp

@[simp] theorem State.offerTexts_keeps (s : State) :
    s.offerTexts.pending = s.pending ∧ s.offerTexts.resetHeld = s.resetHeld ∧ s.offerTexts.pins = s.pins ∧
    s.offerTexts.clock = s.clock ∧ s.offerTexts.rpt = s.rpt ∧ s.offerTexts.rta = s.rta ∧ s.offerTexts.dlc = s.dlc ∧
    s.offerTexts.sge = s.sge ∧ s.offerTexts.sbs = s.sbs ∧ s.offerTexts.psc = s.psc ∧ s.offerTexts.mob = s.mob ∧
    s.offerTexts.cal = s.cal ∧ s.offerTexts.vcp = s.vcp := by
  have key : ∀ (l : List (Nat)) (t : State), (l.foldl (fun s i => s.offerText i) t).pending = t.pending ∧ (l.foldl (fun s i => s.offerText i) t).resetHeld = t.resetHeld ∧ (l.foldl (fun s i => s.offerText i) t).pins = t.pins ∧ (l.foldl (fun s i => s.offerText i) t).clock = t.clock ∧ (l.foldl (fun s i => s.offerText i) t).rpt = t.rpt ∧ (l.foldl (fun s i => s.offerText i) t).rta = t.rta ∧ (l.foldl (fun s i => s.offerText i) t).dlc = t.dlc ∧ (l.foldl (fun s i => s.offerText i) t).sge = t.sge ∧ (l.foldl (fun s i => s.offerText i) t).sbs = t.sbs ∧ (l.foldl (fun s i => s.offerText i) t).psc = t.psc ∧ (l.foldl (fun s i => s.offerText i) t).mob = t.mob ∧ (l.foldl (fun s i => s.offerText i) t).cal = t.cal ∧ (l.foldl (fun s i => s.offerText i) t).vcp = t.vcp := by
    intro l; induction l with
    | nil => simp
    | cons a l ih => intro t; simp [ih]
  simp [State.offerTexts, key]

@[simp] theorem State.completeText_keeps (i : Nat) (d : Delivery) (s : State) :
    (s.completeText i d).pending = s.pending ∧ (s.completeText i d).resetHeld = s.resetHeld ∧ (s.completeText i d).pins = s.pins ∧
    (s.completeText i d).clock = s.clock ∧ (s.completeText i d).rpt = s.rpt ∧ (s.completeText i d).rta = s.rta ∧
    (s.completeText i d).dlc = s.dlc ∧ (s.completeText i d).sge = s.sge ∧ (s.completeText i d).sbs = s.sbs ∧
    (s.completeText i d).psc = s.psc ∧ (s.completeText i d).mob = s.mob ∧ (s.completeText i d).cal = s.cal ∧
    (s.completeText i d).vcp = s.vcp := by
  simp [State.completeText]

@[simp] theorem State.ackText_keeps (x : Sub) (ident : Ident) (s : State) :
    (s.ackText x ident).pending = s.pending ∧ (s.ackText x ident).resetHeld = s.resetHeld ∧ (s.ackText x ident).pins = s.pins ∧
    (s.ackText x ident).clock = s.clock ∧ (s.ackText x ident).rpt = s.rpt ∧ (s.ackText x ident).rta = s.rta ∧
    (s.ackText x ident).dlc = s.dlc ∧ (s.ackText x ident).sbs = s.sbs ∧ (s.ackText x ident).psc = s.psc ∧
    (s.ackText x ident).mob = s.mob ∧ (s.ackText x ident).cal = s.cal ∧ (s.ackText x ident).vcp = s.vcp ∧
    (s.ackText x ident).txt = s.txt ∧ (s.ackText x ident).hlc = s.hlc := by
  simp [State.ackText]

@[simp] theorem State.nakText_keeps (x : Sub) (ident : Ident) (item : ErrorItem) (s : State) :
    (s.nakText x ident item).pending = s.pending ∧ (s.nakText x ident item).resetHeld = s.resetHeld ∧
    (s.nakText x ident item).pins = s.pins ∧ (s.nakText x ident item).clock = s.clock ∧ (s.nakText x ident item).rpt = s.rpt ∧
    (s.nakText x ident item).rta = s.rta ∧ (s.nakText x ident item).dlc = s.dlc ∧ (s.nakText x ident item).sbs = s.sbs ∧
    (s.nakText x ident item).psc = s.psc ∧ (s.nakText x ident item).mob = s.mob ∧ (s.nakText x ident item).cal = s.cal ∧
    (s.nakText x ident item).vcp = s.vcp ∧ (s.nakText x ident item).txt = s.txt ∧ (s.nakText x ident item).hlc = s.hlc := by
  simp [State.nakText]

@[simp] theorem State.congested_keeps (x : Sub) (ident : Ident) (s : State) :
    (s.congested x ident).pending = s.pending ∧ (s.congested x ident).resetHeld = s.resetHeld ∧ (s.congested x ident).pins = s.pins ∧
    (s.congested x ident).clock = s.clock ∧ (s.congested x ident).rpt = s.rpt ∧ (s.congested x ident).rta = s.rta ∧
    (s.congested x ident).dlc = s.dlc ∧ (s.congested x ident).sbs = s.sbs ∧ (s.congested x ident).psc = s.psc ∧
    (s.congested x ident).mob = s.mob ∧ (s.congested x ident).cal = s.cal ∧ (s.congested x ident).vcp = s.vcp ∧
    (s.congested x ident).hlc = s.hlc := by
  simp [State.congested]

@[simp] theorem State.checkWhole_keeps (i : Nat) (s : State) :
    (s.checkWhole i).pending = s.pending ∧ (s.checkWhole i).resetHeld = s.resetHeld ∧ (s.checkWhole i).pins = s.pins ∧
    (s.checkWhole i).clock = s.clock ∧ (s.checkWhole i).rpt = s.rpt ∧ (s.checkWhole i).rta = s.rta ∧
    (s.checkWhole i).dlc = s.dlc ∧ (s.checkWhole i).sge = s.sge ∧ (s.checkWhole i).sbs = s.sbs ∧ (s.checkWhole i).psc = s.psc ∧
    (s.checkWhole i).mob = s.mob ∧ (s.checkWhole i).cal = s.cal ∧ (s.checkWhole i).vcp = s.vcp := by
  unfold State.checkWhole; (repeat' split) <;> simp

@[simp] theorem State.firstSegment_keeps (x : Sub) (ident : Ident) (g : Segment) (s : State) :
    (s.firstSegment x ident g).pending = s.pending ∧ (s.firstSegment x ident g).resetHeld = s.resetHeld ∧
    (s.firstSegment x ident g).pins = s.pins ∧ (s.firstSegment x ident g).clock = s.clock ∧
    (s.firstSegment x ident g).rpt = s.rpt ∧ (s.firstSegment x ident g).rta = s.rta ∧ (s.firstSegment x ident g).dlc = s.dlc ∧
    (s.firstSegment x ident g).sbs = s.sbs ∧ (s.firstSegment x ident g).psc = s.psc ∧ (s.firstSegment x ident g).mob = s.mob ∧
    (s.firstSegment x ident g).cal = s.cal ∧ (s.firstSegment x ident g).vcp = s.vcp := by
  unfold State.firstSegment; dsimp only; (repeat' split) <;> simp

@[simp] theorem State.laterSegment_keeps (x : Sub) (ident : Ident) (i : Nat) (e : TextEntry) (g : Segment) (s : State) :
    (s.laterSegment x ident i e g).pending = s.pending ∧ (s.laterSegment x ident i e g).resetHeld = s.resetHeld ∧
    (s.laterSegment x ident i e g).pins = s.pins ∧ (s.laterSegment x ident i e g).clock = s.clock ∧
    (s.laterSegment x ident i e g).rpt = s.rpt ∧ (s.laterSegment x ident i e g).rta = s.rta ∧
    (s.laterSegment x ident i e g).dlc = s.dlc ∧ (s.laterSegment x ident i e g).sbs = s.sbs ∧
    (s.laterSegment x ident i e g).psc = s.psc ∧ (s.laterSegment x ident i e g).mob = s.mob ∧
    (s.laterSegment x ident i e g).cal = s.cal ∧ (s.laterSegment x ident i e g).vcp = s.vcp := by
  unfold State.laterSegment; (repeat' split) <;> simp

@[simp] theorem State.textSegment_keeps (x : Sub) (ident : Ident) (g : Segment) (s : State) :
    (s.textSegment x ident g).pending = s.pending ∧ (s.textSegment x ident g).resetHeld = s.resetHeld ∧
    (s.textSegment x ident g).pins = s.pins ∧ (s.textSegment x ident g).clock = s.clock ∧ (s.textSegment x ident g).rpt = s.rpt ∧
    (s.textSegment x ident g).rta = s.rta ∧ (s.textSegment x ident g).dlc = s.dlc ∧ (s.textSegment x ident g).sbs = s.sbs ∧
    (s.textSegment x ident g).psc = s.psc ∧ (s.textSegment x ident g).mob = s.mob ∧ (s.textSegment x ident g).cal = s.cal ∧
    (s.textSegment x ident g).vcp = s.vcp := by
  unfold State.textSegment; split <;> simp

@[simp] theorem State.textDeadline_keeps (i : Nat) (s : State) :
    (s.textDeadline i).pending = s.pending ∧ (s.textDeadline i).resetHeld = s.resetHeld ∧ (s.textDeadline i).pins = s.pins ∧
    (s.textDeadline i).clock = s.clock ∧ (s.textDeadline i).rpt = s.rpt ∧ (s.textDeadline i).rta = s.rta ∧
    (s.textDeadline i).dlc = s.dlc ∧ (s.textDeadline i).sge = s.sge ∧ (s.textDeadline i).sbs = s.sbs ∧
    (s.textDeadline i).psc = s.psc ∧ (s.textDeadline i).mob = s.mob ∧ (s.textDeadline i).cal = s.cal ∧
    (s.textDeadline i).vcp = s.vcp := by
  unfold State.textDeadline; (repeat' split) <;> simp

@[simp] theorem State.setOutgoing_keeps (x : Sub) (o : Option Outgoing) (s : State) :
    (s.setOutgoing x o).pending = s.pending ∧ (s.setOutgoing x o).resetHeld = s.resetHeld ∧ (s.setOutgoing x o).pins = s.pins ∧
    (s.setOutgoing x o).clock = s.clock ∧ (s.setOutgoing x o).rpt = s.rpt ∧ (s.setOutgoing x o).rta = s.rta ∧
    (s.setOutgoing x o).dlc = s.dlc ∧ (s.setOutgoing x o).sge = s.sge ∧ (s.setOutgoing x o).sbs = s.sbs ∧
    (s.setOutgoing x o).psc = s.psc ∧ (s.setOutgoing x o).mob = s.mob ∧ (s.setOutgoing x o).cal = s.cal ∧
    (s.setOutgoing x o).vcp = s.vcp ∧ (s.setOutgoing x o).hlc = s.hlc := by
  simp [State.setOutgoing]

@[simp] theorem State.offerSegment_keeps (x : Sub) (s : State) :
    (s.offerSegment x).2.pending = s.pending ∧ (s.offerSegment x).2.resetHeld = s.resetHeld ∧ (s.offerSegment x).2.pins = s.pins ∧
    (s.offerSegment x).2.clock = s.clock ∧ (s.offerSegment x).2.rpt = s.rpt ∧ (s.offerSegment x).2.rta = s.rta ∧
    (s.offerSegment x).2.dlc = s.dlc ∧ (s.offerSegment x).2.sbs = s.sbs ∧ (s.offerSegment x).2.psc = s.psc ∧
    (s.offerSegment x).2.mob = s.mob ∧ (s.offerSegment x).2.cal = s.cal ∧ (s.offerSegment x).2.vcp = s.vcp ∧
    (s.offerSegment x).2.hlc = s.hlc := by
  unfold State.offerSegment; split
  · simp
  · dsimp only; split <;> (have h := congrArg Prod.snd ‹_ = (_, _)›; dsimp only at h; subst h; simp)

@[simp] theorem State.sendSegment_keeps (x : Sub) (s : State) :
    (s.sendSegment x).pending = s.pending ∧ (s.sendSegment x).resetHeld = s.resetHeld ∧ (s.sendSegment x).pins = s.pins ∧
    (s.sendSegment x).clock = s.clock ∧ (s.sendSegment x).rpt = s.rpt ∧ (s.sendSegment x).rta = s.rta ∧
    (s.sendSegment x).dlc = s.dlc ∧ (s.sendSegment x).sbs = s.sbs ∧ (s.sendSegment x).psc = s.psc ∧
    (s.sendSegment x).mob = s.mob ∧ (s.sendSegment x).cal = s.cal ∧ (s.sendSegment x).vcp = s.vcp ∧
    (s.sendSegment x).hlc = s.hlc := by
  unfold State.sendSegment; split <;> (have h := congrArg Prod.snd ‹_ = (_, _)›; dsimp only at h; subst h) <;> (try split) <;> simp

@[simp] theorem State.dropOutgoing_keeps (x : Sub) (s : State) :
    (s.dropOutgoing x).pending = s.pending ∧ (s.dropOutgoing x).resetHeld = s.resetHeld ∧ (s.dropOutgoing x).pins = s.pins ∧
    (s.dropOutgoing x).clock = s.clock ∧ (s.dropOutgoing x).rpt = s.rpt ∧ (s.dropOutgoing x).rta = s.rta ∧
    (s.dropOutgoing x).dlc = s.dlc ∧ (s.dropOutgoing x).sbs = s.sbs ∧ (s.dropOutgoing x).psc = s.psc ∧
    (s.dropOutgoing x).mob = s.mob ∧ (s.dropOutgoing x).cal = s.cal ∧ (s.dropOutgoing x).vcp = s.vcp ∧
    (s.dropOutgoing x).hlc = s.hlc := by
  unfold State.dropOutgoing; split <;> simp

@[simp] theorem State.failText_keeps (x : Sub) (cause : TextFailCause) (s : State) :
    (s.failText x cause).pending = s.pending ∧ (s.failText x cause).resetHeld = s.resetHeld ∧ (s.failText x cause).pins = s.pins ∧
    (s.failText x cause).clock = s.clock ∧ (s.failText x cause).rpt = s.rpt ∧ (s.failText x cause).rta = s.rta ∧
    (s.failText x cause).dlc = s.dlc ∧ (s.failText x cause).sbs = s.sbs ∧ (s.failText x cause).psc = s.psc ∧
    (s.failText x cause).mob = s.mob ∧ (s.failText x cause).cal = s.cal ∧ (s.failText x cause).vcp = s.vcp := by
  unfold State.failText; split <;> simp

@[simp] theorem State.segmentAcked_keeps (x : Sub) (s : State) :
    (s.segmentAcked x).pending = s.pending ∧ (s.segmentAcked x).resetHeld = s.resetHeld ∧ (s.segmentAcked x).pins = s.pins ∧
    (s.segmentAcked x).clock = s.clock ∧ (s.segmentAcked x).rpt = s.rpt ∧ (s.segmentAcked x).rta = s.rta ∧
    (s.segmentAcked x).dlc = s.dlc ∧ (s.segmentAcked x).sbs = s.sbs ∧ (s.segmentAcked x).psc = s.psc ∧
    (s.segmentAcked x).mob = s.mob ∧ (s.segmentAcked x).cal = s.cal ∧ (s.segmentAcked x).vcp = s.vcp := by
  unfold State.segmentAcked; (repeat' split) <;> simp

@[simp] theorem State.textOutEnded_keeps (x : Sub) (outcome : TxnOutcome) (s : State) :
    (s.textOutEnded x outcome).pending = s.pending ∧ (s.textOutEnded x outcome).resetHeld = s.resetHeld ∧
    (s.textOutEnded x outcome).pins = s.pins ∧ (s.textOutEnded x outcome).clock = s.clock ∧
    (s.textOutEnded x outcome).rpt = s.rpt ∧ (s.textOutEnded x outcome).rta = s.rta ∧ (s.textOutEnded x outcome).dlc = s.dlc ∧
    (s.textOutEnded x outcome).sbs = s.sbs ∧ (s.textOutEnded x outcome).psc = s.psc ∧ (s.textOutEnded x outcome).mob = s.mob ∧
    (s.textOutEnded x outcome).cal = s.cal ∧ (s.textOutEnded x outcome).vcp = s.vcp := by
  unfold State.textOutEnded; split <;> simp

@[simp] theorem State.detachTexts_keeps (x : Sub) (s : State) :
    (s.detachTexts x).pending = s.pending ∧ (s.detachTexts x).resetHeld = s.resetHeld ∧ (s.detachTexts x).pins = s.pins ∧
    (s.detachTexts x).clock = s.clock ∧ (s.detachTexts x).rpt = s.rpt ∧ (s.detachTexts x).rta = s.rta ∧
    (s.detachTexts x).dlc = s.dlc ∧ (s.detachTexts x).sge = s.sge ∧ (s.detachTexts x).sbs = s.sbs ∧
    (s.detachTexts x).psc = s.psc ∧ (s.detachTexts x).mob = s.mob ∧ (s.detachTexts x).cal = s.cal ∧
    (s.detachTexts x).vcp = s.vcp := by
  have key : ∀ (l : List (Nat)) (t : State), (l.foldl (fun s i => s.freeText i) t).pending = t.pending ∧ (l.foldl (fun s i => s.freeText i) t).resetHeld = t.resetHeld ∧ (l.foldl (fun s i => s.freeText i) t).pins = t.pins ∧ (l.foldl (fun s i => s.freeText i) t).clock = t.clock ∧ (l.foldl (fun s i => s.freeText i) t).rpt = t.rpt ∧ (l.foldl (fun s i => s.freeText i) t).rta = t.rta ∧ (l.foldl (fun s i => s.freeText i) t).dlc = t.dlc ∧ (l.foldl (fun s i => s.freeText i) t).sge = t.sge ∧ (l.foldl (fun s i => s.freeText i) t).sbs = t.sbs ∧ (l.foldl (fun s i => s.freeText i) t).psc = t.psc ∧ (l.foldl (fun s i => s.freeText i) t).mob = t.mob ∧ (l.foldl (fun s i => s.freeText i) t).cal = t.cal ∧ (l.foldl (fun s i => s.freeText i) t).vcp = t.vcp ∧ (l.foldl (fun s i => s.freeText i) t).hlc = t.hlc := by
    intro l; induction l with
    | nil => simp
    | cons a l ih => intro t; simp [ih]
  simp [State.detachTexts, key]

/-! ### Mobility -/

@[simp] theorem State.onServing_keeps (x : Sub) (f : Serving → Serving) (s : State) :
    (s.onServing x f).pending = s.pending ∧ (s.onServing x f).resetHeld = s.resetHeld ∧ (s.onServing x f).pins = s.pins ∧
    (s.onServing x f).clock = s.clock ∧ (s.onServing x f).rpt = s.rpt ∧ (s.onServing x f).rta = s.rta ∧
    (s.onServing x f).dlc = s.dlc ∧ (s.onServing x f).sge = s.sge ∧ (s.onServing x f).sbs = s.sbs ∧
    (s.onServing x f).psc = s.psc ∧ (s.onServing x f).cal = s.cal ∧ (s.onServing x f).vcp = s.vcp ∧
    (s.onServing x f).txt = s.txt ∧ (s.onServing x f).hlc = s.hlc := by
  simp [State.onServing]

@[simp] theorem State.setCopy_keeps (x : Sub) (s : State) :
    (s.setCopy x).pending = s.pending ∧ (s.setCopy x).resetHeld = s.resetHeld ∧ (s.setCopy x).pins = s.pins ∧
    (s.setCopy x).clock = s.clock ∧ (s.setCopy x).rpt = s.rpt ∧ (s.setCopy x).dlc = s.dlc ∧ (s.setCopy x).sge = s.sge ∧
    (s.setCopy x).sbs = s.sbs ∧ (s.setCopy x).psc = s.psc ∧ (s.setCopy x).mob = s.mob ∧ (s.setCopy x).cal = s.cal ∧
    (s.setCopy x).vcp = s.vcp ∧ (s.setCopy x).txt = s.txt ∧ (s.setCopy x).hlc = s.hlc := by
  unfold State.setCopy; split <;> simp

@[simp] theorem State.servingSet_keeps (x : Sub) (s : State) :
    (s.servingSet x).pending = s.pending ∧ (s.servingSet x).resetHeld = s.resetHeld ∧ (s.servingSet x).pins = s.pins ∧
    (s.servingSet x).clock = s.clock ∧ (s.servingSet x).rpt = s.rpt ∧ (s.servingSet x).dlc = s.dlc ∧
    (s.servingSet x).sge = s.sge ∧ (s.servingSet x).sbs = s.sbs ∧ (s.servingSet x).cal = s.cal ∧ (s.servingSet x).vcp = s.vcp ∧
    (s.servingSet x).txt = s.txt ∧ (s.servingSet x).hlc = s.hlc ∧ (s.servingSet x).psc.settleS = s.psc.settleS ∧
    (s.servingSet x).psc.notedS = s.psc.notedS := by
  simp [State.servingSet]

@[simp] theorem State.tryMeasure_keeps (x : Sub) (s : State) :
    (s.tryMeasure x).pending = s.pending ∧ (s.tryMeasure x).resetHeld = s.resetHeld ∧ (s.tryMeasure x).pins = s.pins ∧
    (s.tryMeasure x).clock = s.clock ∧ (s.tryMeasure x).rpt = s.rpt ∧ (s.tryMeasure x).dlc = s.dlc ∧
    (s.tryMeasure x).sge = s.sge ∧ (s.tryMeasure x).sbs = s.sbs ∧ (s.tryMeasure x).cal = s.cal ∧ (s.tryMeasure x).vcp = s.vcp ∧
    (s.tryMeasure x).txt = s.txt ∧ (s.tryMeasure x).hlc = s.hlc ∧ (s.tryMeasure x).psc.settleS = s.psc.settleS ∧
    (s.tryMeasure x).psc.notedS = s.psc.notedS := by
  unfold State.tryMeasure; dsimp only; split <;> (have h := congrArg Prod.snd ‹_ = (_, _)›; dsimp only at h; subst h; simp)

@[simp] theorem State.placeMeasure_keeps (x : Sub) (s : State) :
    (s.placeMeasure x).pending = s.pending ∧ (s.placeMeasure x).resetHeld = s.resetHeld ∧ (s.placeMeasure x).pins = s.pins ∧
    (s.placeMeasure x).clock = s.clock ∧ (s.placeMeasure x).rpt = s.rpt ∧ (s.placeMeasure x).dlc = s.dlc ∧
    (s.placeMeasure x).sge = s.sge ∧ (s.placeMeasure x).sbs = s.sbs ∧ (s.placeMeasure x).cal = s.cal ∧
    (s.placeMeasure x).vcp = s.vcp ∧ (s.placeMeasure x).txt = s.txt ∧ (s.placeMeasure x).hlc = s.hlc ∧
    (s.placeMeasure x).psc.settleS = s.psc.settleS ∧ (s.placeMeasure x).psc.notedS = s.psc.notedS := by
  unfold State.placeMeasure State.ask; (repeat' split) <;> simp

@[simp] theorem State.trySearch_keeps (x : Sub) (s : State) :
    (s.trySearch x).pending = s.pending ∧ (s.trySearch x).resetHeld = s.resetHeld ∧ (s.trySearch x).pins = s.pins ∧
    (s.trySearch x).clock = s.clock ∧ (s.trySearch x).rpt = s.rpt ∧ (s.trySearch x).dlc = s.dlc ∧ (s.trySearch x).sge = s.sge ∧
    (s.trySearch x).sbs = s.sbs ∧ (s.trySearch x).cal = s.cal ∧ (s.trySearch x).vcp = s.vcp ∧ (s.trySearch x).txt = s.txt ∧
    (s.trySearch x).hlc = s.hlc ∧ (s.trySearch x).psc.per = s.psc.per ∧ (s.trySearch x).psc.settleS = s.psc.settleS ∧
    (s.trySearch x).psc.notedS = s.psc.notedS := by
  unfold State.trySearch; dsimp only; split <;> (have h := congrArg Prod.snd ‹_ = (_, _)›; dsimp only at h; subst h; simp)

@[simp] theorem State.placeSearch_keeps (x : Sub) (s : State) :
    (s.placeSearch x).pending = s.pending ∧ (s.placeSearch x).resetHeld = s.resetHeld ∧ (s.placeSearch x).pins = s.pins ∧
    (s.placeSearch x).clock = s.clock ∧ (s.placeSearch x).rpt = s.rpt ∧ (s.placeSearch x).dlc = s.dlc ∧
    (s.placeSearch x).sge = s.sge ∧ (s.placeSearch x).sbs = s.sbs ∧ (s.placeSearch x).cal = s.cal ∧
    (s.placeSearch x).vcp = s.vcp ∧ (s.placeSearch x).txt = s.txt ∧ (s.placeSearch x).hlc = s.hlc ∧
    (s.placeSearch x).psc.per = s.psc.per ∧ (s.placeSearch x).psc.settleS = s.psc.settleS ∧
    (s.placeSearch x).psc.notedS = s.psc.notedS := by
  unfold State.placeSearch State.ask; (repeat' split) <;> simp

@[simp] theorem State.readFailed_keeps (x : Sub) (i cellId : Nat) (s : State) :
    (s.readFailed x i cellId).pending = s.pending ∧ (s.readFailed x i cellId).resetHeld = s.resetHeld ∧
    (s.readFailed x i cellId).pins = s.pins ∧ (s.readFailed x i cellId).clock = s.clock ∧
    (s.readFailed x i cellId).rpt = s.rpt ∧ (s.readFailed x i cellId).dlc = s.dlc ∧ (s.readFailed x i cellId).sge = s.sge ∧
    (s.readFailed x i cellId).sbs = s.sbs ∧ (s.readFailed x i cellId).psc = s.psc ∧ (s.readFailed x i cellId).cal = s.cal ∧
    (s.readFailed x i cellId).vcp = s.vcp ∧ (s.readFailed x i cellId).txt = s.txt ∧ (s.readFailed x i cellId).hlc = s.hlc ∧
    (s.readFailed x i cellId).rta = s.rta := by
  simp [State.readFailed]

@[simp] theorem State.readRefused_keeps (x : Sub) (s : State) :
    (s.readRefused x).pending = s.pending ∧ (s.readRefused x).resetHeld = s.resetHeld ∧ (s.readRefused x).pins = s.pins ∧
    (s.readRefused x).clock = s.clock ∧ (s.readRefused x).rpt = s.rpt ∧ (s.readRefused x).dlc = s.dlc ∧
    (s.readRefused x).sge = s.sge ∧ (s.readRefused x).sbs = s.sbs ∧ (s.readRefused x).psc = s.psc ∧
    (s.readRefused x).cal = s.cal ∧ (s.readRefused x).vcp = s.vcp ∧ (s.readRefused x).txt = s.txt ∧
    (s.readRefused x).hlc = s.hlc ∧ (s.readRefused x).rta = s.rta := by
  unfold State.readRefused; dsimp only; (repeat' split) <;> simp

@[simp] theorem State.tryRead_keeps (x : Sub) (s : State) :
    (s.tryRead x).pending = s.pending ∧ (s.tryRead x).resetHeld = s.resetHeld ∧ (s.tryRead x).pins = s.pins ∧
    (s.tryRead x).clock = s.clock ∧ (s.tryRead x).rpt = s.rpt ∧ (s.tryRead x).dlc = s.dlc ∧ (s.tryRead x).sge = s.sge ∧
    (s.tryRead x).sbs = s.sbs ∧ (s.tryRead x).cal = s.cal ∧ (s.tryRead x).vcp = s.vcp ∧ (s.tryRead x).txt = s.txt ∧
    (s.tryRead x).hlc = s.hlc ∧ (s.tryRead x).psc.per = s.psc.per ∧ (s.tryRead x).psc.settleS = s.psc.settleS ∧
    (s.tryRead x).psc.notedS = s.psc.notedS := by
  unfold State.tryRead; split <;> (have h := congrArg Prod.snd ‹_ = (_, _)›; dsimp only at h; subst h; simp)

@[simp] theorem State.placeRead_keeps (x : Sub) (purpose : ReadPurpose) (s : State) :
    (s.placeRead x purpose).pending = s.pending ∧ (s.placeRead x purpose).resetHeld = s.resetHeld ∧
    (s.placeRead x purpose).pins = s.pins ∧ (s.placeRead x purpose).clock = s.clock ∧ (s.placeRead x purpose).rpt = s.rpt ∧
    (s.placeRead x purpose).dlc = s.dlc ∧ (s.placeRead x purpose).sge = s.sge ∧ (s.placeRead x purpose).sbs = s.sbs ∧
    (s.placeRead x purpose).cal = s.cal ∧ (s.placeRead x purpose).vcp = s.vcp ∧ (s.placeRead x purpose).txt = s.txt ∧
    (s.placeRead x purpose).hlc = s.hlc ∧ (s.placeRead x purpose).psc.per = s.psc.per ∧
    (s.placeRead x purpose).psc.settleS = s.psc.settleS ∧ (s.placeRead x purpose).psc.notedS = s.psc.notedS := by
  unfold State.placeRead State.ask; (repeat' split) <;> simp

@[simp] theorem State.refreshRead_keeps (x : Sub) (s : State) :
    (s.refreshRead x).pending = s.pending ∧ (s.refreshRead x).resetHeld = s.resetHeld ∧ (s.refreshRead x).pins = s.pins ∧
    (s.refreshRead x).clock = s.clock ∧ (s.refreshRead x).rpt = s.rpt ∧ (s.refreshRead x).dlc = s.dlc ∧
    (s.refreshRead x).sge = s.sge ∧ (s.refreshRead x).sbs = s.sbs ∧ (s.refreshRead x).cal = s.cal ∧
    (s.refreshRead x).vcp = s.vcp ∧ (s.refreshRead x).txt = s.txt ∧ (s.refreshRead x).hlc = s.hlc ∧
    (s.refreshRead x).psc.per = s.psc.per ∧ (s.refreshRead x).psc.settleS = s.psc.settleS ∧
    (s.refreshRead x).psc.notedS = s.psc.notedS := by
  unfold State.refreshRead; (repeat' split) <;> simp

@[simp] theorem State.passOutcome_keeps (t : Txn) (o : TxnOutcome) (s : State) :
    (s.passOutcome t o).pending = s.pending ∧ (s.passOutcome t o).resetHeld = s.resetHeld ∧ (s.passOutcome t o).pins = s.pins ∧
    (s.passOutcome t o).clock = s.clock ∧ (s.passOutcome t o).rpt = s.rpt ∧ (s.passOutcome t o).rta = s.rta ∧
    (s.passOutcome t o).dlc = s.dlc ∧ (s.passOutcome t o).sge = s.sge ∧ (s.passOutcome t o).sbs = s.sbs ∧
    (s.passOutcome t o).psc = s.psc ∧ (s.passOutcome t o).mob = s.mob ∧ (s.passOutcome t o).cal = s.cal ∧
    (s.passOutcome t o).vcp = s.vcp ∧ (s.passOutcome t o).txt = s.txt := by
  unfold State.passOutcome; split <;> simp

@[simp] theorem State.teardownOutcome_keeps (t : Txn) (o : TxnOutcome) (s : State) :
    (s.teardownOutcome t o).pending = s.pending ∧ (s.teardownOutcome t o).resetHeld = s.resetHeld ∧
    (s.teardownOutcome t o).pins = s.pins ∧ (s.teardownOutcome t o).clock = s.clock ∧ (s.teardownOutcome t o).rpt = s.rpt ∧
    (s.teardownOutcome t o).dlc = s.dlc ∧ (s.teardownOutcome t o).cal = s.cal ∧ (s.teardownOutcome t o).vcp = s.vcp ∧
    (s.teardownOutcome t o).psc.settleS = s.psc.settleS ∧ (s.teardownOutcome t o).psc.notedS = s.psc.notedS := by
  unfold State.teardownOutcome; split <;> simp

@[simp] theorem State.teardownSge_keeps (x : Sub) (o : TxnOutcome) (s : State) :
    (s.teardownSge x o).pending = s.pending ∧ (s.teardownSge x o).resetHeld = s.resetHeld ∧ (s.teardownSge x o).pins = s.pins ∧
    (s.teardownSge x o).clock = s.clock ∧ (s.teardownSge x o).dlc = s.dlc ∧ (s.teardownSge x o).cal = s.cal ∧
    (s.teardownSge x o).vcp = s.vcp := by
  have key : ∀ (l : List (Nat × Txn)) (t : State), (l.foldl (fun s e => (s.freeTxn e.1).teardownOutcome e.2 o) t).pending = t.pending ∧ (l.foldl (fun s e => (s.freeTxn e.1).teardownOutcome e.2 o) t).resetHeld = t.resetHeld ∧ (l.foldl (fun s e => (s.freeTxn e.1).teardownOutcome e.2 o) t).pins = t.pins ∧ (l.foldl (fun s e => (s.freeTxn e.1).teardownOutcome e.2 o) t).clock = t.clock ∧ (l.foldl (fun s e => (s.freeTxn e.1).teardownOutcome e.2 o) t).dlc = t.dlc ∧ (l.foldl (fun s e => (s.freeTxn e.1).teardownOutcome e.2 o) t).cal = t.cal ∧ (l.foldl (fun s e => (s.freeTxn e.1).teardownOutcome e.2 o) t).vcp = t.vcp := by
    intro l; induction l with
    | nil => simp
    | cons a l ih => intro t; simp [ih]
  simp [State.teardownSge, key]

@[simp] theorem State.writeActivity_keeps (x : Sub) (a : Activity) (s : State) :
    (s.writeActivity x a).pending = s.pending ∧ (s.writeActivity x a).resetHeld = s.resetHeld ∧ (s.writeActivity x a).pins = s.pins ∧
    (s.writeActivity x a).clock = s.clock ∧ (s.writeActivity x a).rpt = s.rpt ∧ (s.writeActivity x a).rta = s.rta ∧
    (s.writeActivity x a).dlc = s.dlc ∧ (s.writeActivity x a).psc = s.psc ∧ (s.writeActivity x a).mob = s.mob ∧
    (s.writeActivity x a).cal = s.cal ∧ (s.writeActivity x a).vcp = s.vcp ∧ (s.writeActivity x a).txt = s.txt ∧
    (s.writeActivity x a).hlc = s.hlc := by
  unfold State.writeActivity; dsimp only; (repeat' split) <;> simp

@[simp] theorem State.loseService_keeps (x : Sub) (s : State) :
    (s.loseService x).pending = s.pending ∧ (s.loseService x).resetHeld = s.resetHeld ∧ (s.loseService x).pins = s.pins ∧
    (s.loseService x).clock = s.clock := by
  unfold State.loseService; split <;> simp

@[simp] theorem State.enterCamped_keeps (x : Sub) (s : State) :
    (s.enterCamped x).pending = s.pending ∧ (s.enterCamped x).resetHeld = s.resetHeld ∧ (s.enterCamped x).pins = s.pins ∧
    (s.enterCamped x).clock = s.clock := by
  unfold State.enterCamped; dsimp only; (repeat' split) <;> simp

@[simp] theorem State.enterBusy_keeps (x : Sub) (s : State) :
    (s.enterBusy x).pending = s.pending ∧ (s.enterBusy x).resetHeld = s.resetHeld ∧ (s.enterBusy x).pins = s.pins ∧
    (s.enterBusy x).clock = s.clock ∧ (s.enterBusy x).rpt = s.rpt ∧ (s.enterBusy x).sge = s.sge ∧ (s.enterBusy x).sbs = s.sbs ∧
    (s.enterBusy x).cal = s.cal ∧ (s.enterBusy x).vcp = s.vcp ∧ (s.enterBusy x).txt = s.txt ∧ (s.enterBusy x).hlc = s.hlc ∧
    (s.enterBusy x).psc.settleS = s.psc.settleS ∧ (s.enterBusy x).psc.notedS = s.psc.notedS := by
  simp [State.enterBusy]

@[simp] theorem State.derive_keeps (x : Sub) (s : State) :
    (s.derive x).pending = s.pending ∧ (s.derive x).resetHeld = s.resetHeld ∧ (s.derive x).pins = s.pins ∧
    (s.derive x).clock = s.clock := by
  unfold State.derive; dsimp only; (repeat' split) <;> simp

@[simp] theorem State.settleAlone_keeps (x : Sub) (s : State) :
    (s.settleAlone x).pending = s.pending ∧ (s.settleAlone x).resetHeld = s.resetHeld ∧ (s.settleAlone x).pins = s.pins ∧
    (s.settleAlone x).clock = s.clock := by
  simp [State.settleAlone]

@[simp] theorem State.tryOnce_keeps (w : WaitKind) (x : Sub) (s : State) :
    (s.tryOnce w x).pending = s.pending ∧ (s.tryOnce w x).resetHeld = s.resetHeld ∧ (s.tryOnce w x).pins = s.pins ∧
    (s.tryOnce w x).clock = s.clock ∧ (s.tryOnce w x).rpt = s.rpt ∧ (s.tryOnce w x).rta = s.rta ∧ (s.tryOnce w x).dlc = s.dlc ∧
    (s.tryOnce w x).psc = s.psc ∧ (s.tryOnce w x).mob = s.mob ∧ (s.tryOnce w x).cal = s.cal ∧ (s.tryOnce w x).vcp = s.vcp ∧
    (s.tryOnce w x).hlc = s.hlc := by
  unfold State.tryOnce; (repeat' split) <;> simp

@[simp] theorem State.tryWaiter_keeps (hold : Option Sub) (e : Waiter) (s : State) :
    (State.tryWaiter hold s e).pending = s.pending ∧ (State.tryWaiter hold s e).resetHeld = s.resetHeld ∧
    (State.tryWaiter hold s e).pins = s.pins ∧ (State.tryWaiter hold s e).clock = s.clock := by
  unfold State.tryWaiter; split <;> simp

@[simp] theorem State.tryWaiters_keeps (hold : Option Sub) (s : State) :
    (s.tryWaiters hold).pending = s.pending ∧ (s.tryWaiters hold).resetHeld = s.resetHeld ∧ (s.tryWaiters hold).pins = s.pins ∧
    (s.tryWaiters hold).clock = s.clock := by
  have key : ∀ (l : List (Waiter)) (t : State), (l.foldl (State.tryWaiter hold) t).pending = t.pending ∧ (l.foldl (State.tryWaiter hold) t).resetHeld = t.resetHeld ∧ (l.foldl (State.tryWaiter hold) t).pins = t.pins ∧ (l.foldl (State.tryWaiter hold) t).clock = t.clock := by
    intro l; induction l with
    | nil => simp
    | cons a l ih => intro t; simp [ih]
  simp [State.tryWaiters, key]

@[simp] theorem State.settle_keeps (x : Sub) (s : State) :
    (s.settle x).pending = s.pending ∧ (s.settle x).resetHeld = s.resetHeld ∧ (s.settle x).pins = s.pins ∧
    (s.settle x).clock = s.clock := by
  unfold State.settle; dsimp only; (repeat' split) <;> simp

@[simp] theorem State.lose_keeps (x : Sub) (s : State) :
    (s.lose x).pending = s.pending ∧ (s.lose x).resetHeld = s.resetHeld ∧ (s.lose x).pins = s.pins ∧ (s.lose x).clock = s.clock := by
  simp [State.lose]

/-! ### Reselection -/

@[simp] theorem State.notActedOn_keeps (x : Sub) (s : State) :
    (s.notActedOn x).pending = s.pending ∧ (s.notActedOn x).resetHeld = s.resetHeld ∧ (s.notActedOn x).pins = s.pins ∧
    (s.notActedOn x).clock = s.clock ∧ (s.notActedOn x).rpt = s.rpt ∧ (s.notActedOn x).rta = s.rta ∧
    (s.notActedOn x).dlc = s.dlc ∧ (s.notActedOn x).sge = s.sge ∧ (s.notActedOn x).sbs = s.sbs ∧ (s.notActedOn x).psc = s.psc ∧
    (s.notActedOn x).cal = s.cal ∧ (s.notActedOn x).vcp = s.vcp ∧ (s.notActedOn x).txt = s.txt ∧
    (s.notActedOn x).hlc = s.hlc := by
  simp [State.notActedOn]

@[simp] theorem State.offerReport_keeps (x : Sub) (s : State) :
    (s.offerReport x).pending = s.pending ∧ (s.offerReport x).resetHeld = s.resetHeld ∧ (s.offerReport x).pins = s.pins ∧
    (s.offerReport x).clock = s.clock := by
  unfold State.offerReport; split <;> (have h := congrArg Prod.snd ‹_ = (_, _)›; dsimp only at h; subst h; simp)

@[simp] theorem State.actOnFiring_keeps (x : Sub) (i : Nat) (s : State) :
    (s.actOnFiring x i).pending = s.pending ∧ (s.actOnFiring x i).resetHeld = s.resetHeld ∧ (s.actOnFiring x i).pins = s.pins ∧
    (s.actOnFiring x i).clock = s.clock := by
  unfold State.actOnFiring; (repeat' split) <;> simp

@[simp] theorem State.afterResult_keeps (x : Sub) (fires : Option Nat) (s : State) :
    (s.afterResult x fires).pending = s.pending ∧ (s.afterResult x fires).resetHeld = s.resetHeld ∧
    (s.afterResult x fires).pins = s.pins ∧ (s.afterResult x fires).clock = s.clock := by
  unfold State.afterResult; split <;> simp

@[simp] theorem State.processResult_keeps (x : Sub) (cells : List ListedCell) (result : List (Option Int)) (s : State) :
    (s.processResult x cells result).pending = s.pending ∧ (s.processResult x cells result).resetHeld = s.resetHeld ∧
    (s.processResult x cells result).pins = s.pins ∧ (s.processResult x cells result).clock = s.clock := by
  unfold State.processResult; dsimp only; (repeat' split) <;> simp

@[simp] theorem State.measureEnded_keeps (x : Sub) (code : EndCode) (cells : List ListedCell) (result : Option (List (Option Int))) (s : State) :
    (s.measureEnded x code cells result).pending = s.pending ∧ (s.measureEnded x code cells result).resetHeld = s.resetHeld ∧
    (s.measureEnded x code cells result).pins = s.pins ∧ (s.measureEnded x code cells result).clock = s.clock := by
  unfold State.measureEnded; split <;> simp

@[simp] theorem State.reselect_keeps (x : Sub) (i : Nat) (v : Serving) (n : Neighbour) (b : BeaconBlock) (s : State) :
    (s.reselect x i v n b).pending = s.pending ∧ (s.reselect x i v n b).resetHeld = s.resetHeld ∧
    (s.reselect x i v n b).pins = s.pins ∧ (s.reselect x i v n b).clock = s.clock := by
  simp [State.reselect]

@[simp] theorem State.readEnded_keeps (x : Sub) (code : EndCode) (kept : Option BeaconBlock) (s : State) :
    (s.readEnded x code kept).pending = s.pending ∧ (s.readEnded x code kept).resetHeld = s.resetHeld ∧
    (s.readEnded x code kept).pins = s.pins ∧ (s.readEnded x code kept).clock = s.clock := by
  unfold State.readEnded; dsimp only; (repeat' split) <;> simp

@[simp] theorem State.searchEnded_keeps (x : Sub) (code : EndCode) (freq : Nat) (kept : Option BeaconBlock) (s : State) :
    (s.searchEnded x code freq kept).pending = s.pending ∧ (s.searchEnded x code freq kept).resetHeld = s.resetHeld ∧
    (s.searchEnded x code freq kept).pins = s.pins ∧ (s.searchEnded x code freq kept).clock = s.clock := by
  unfold State.searchEnded; (repeat' split) <;> simp

@[simp] theorem State.refreshServing_keeps (x : Sub) (v : Serving) (b : BeaconBlock) (s : State) :
    (s.refreshServing x v b).pending = s.pending ∧ (s.refreshServing x v b).resetHeld = s.resetHeld ∧
    (s.refreshServing x v b).pins = s.pins ∧ (s.refreshServing x v b).clock = s.clock := by
  unfold State.refreshServing; dsimp only; (repeat' split) <;> simp

@[simp] theorem State.keepBeacon_keeps (x : Sub) (kind : ClaimKind) (first : Frame) (b : BeaconBlock) (s : State) :
    (s.keepBeacon x kind first b).pending = s.pending ∧ (s.keepBeacon x kind first b).resetHeld = s.resetHeld ∧
    (s.keepBeacon x kind first b).pins = s.pins ∧ (s.keepBeacon x kind first b).clock = s.clock ∧
    (s.keepBeacon x kind first b).rpt = s.rpt ∧ (s.keepBeacon x kind first b).dlc = s.dlc ∧
    (s.keepBeacon x kind first b).sge = s.sge ∧ (s.keepBeacon x kind first b).sbs = s.sbs ∧
    (s.keepBeacon x kind first b).psc = s.psc ∧ (s.keepBeacon x kind first b).mob = s.mob ∧
    (s.keepBeacon x kind first b).cal = s.cal ∧ (s.keepBeacon x kind first b).vcp = s.vcp ∧
    (s.keepBeacon x kind first b).txt = s.txt ∧ (s.keepBeacon x kind first b).hlc = s.hlc := by
  simp [State.keepBeacon]

@[simp] theorem State.beaconDelivered_keeps (x : Sub) (kind : ClaimKind) (first : Frame) (b : BeaconBlock) (s : State) :
    (s.beaconDelivered x kind first b).pending = s.pending ∧ (s.beaconDelivered x kind first b).resetHeld = s.resetHeld ∧
    (s.beaconDelivered x kind first b).pins = s.pins ∧ (s.beaconDelivered x kind first b).clock = s.clock := by
  unfold State.beaconDelivered; dsimp only; (repeat' split) <;> simp

/-! ### Handover -/

@[simp] theorem State.voiceHandover_keeps (s : State) :
    s.voiceHandover.pending = s.pending ∧ s.voiceHandover.resetHeld = s.resetHeld ∧ s.voiceHandover.pins = s.pins ∧
    s.voiceHandover.clock = s.clock ∧ s.voiceHandover.rpt = s.rpt ∧ s.voiceHandover.rta = s.rta ∧ s.voiceHandover.dlc = s.dlc ∧
    s.voiceHandover.sge = s.sge ∧ s.voiceHandover.sbs = s.sbs ∧ s.voiceHandover.psc = s.psc ∧ s.voiceHandover.mob = s.mob ∧
    s.voiceHandover.cal = s.cal ∧ s.voiceHandover.txt = s.txt ∧ s.voiceHandover.hlc = s.hlc := by
  simp [State.voiceHandover]

@[simp] theorem State.voiceHandoverEnded_keeps (s : State) :
    s.voiceHandoverEnded.pending = s.pending ∧ s.voiceHandoverEnded.resetHeld = s.resetHeld ∧ s.voiceHandoverEnded.pins = s.pins ∧
    s.voiceHandoverEnded.clock = s.clock ∧ s.voiceHandoverEnded.rpt = s.rpt ∧ s.voiceHandoverEnded.rta = s.rta ∧
    s.voiceHandoverEnded.dlc = s.dlc ∧ s.voiceHandoverEnded.sge = s.sge ∧ s.voiceHandoverEnded.sbs = s.sbs ∧
    s.voiceHandoverEnded.psc = s.psc ∧ s.voiceHandoverEnded.mob = s.mob ∧ s.voiceHandoverEnded.cal = s.cal ∧
    s.voiceHandoverEnded.txt = s.txt ∧ s.voiceHandoverEnded.hlc = s.hlc := by
  simp [State.voiceHandoverEnded]

@[simp] theorem State.accessOver_keeps (x : Sub) (s : State) :
    (s.accessOver x).pending = s.pending ∧ (s.accessOver x).resetHeld = s.resetHeld ∧ (s.accessOver x).pins = s.pins ∧
    (s.accessOver x).clock = s.clock ∧ (s.accessOver x).rpt = s.rpt ∧ (s.accessOver x).dlc = s.dlc ∧
    (s.accessOver x).sge = s.sge ∧ (s.accessOver x).sbs = s.sbs ∧ (s.accessOver x).mob = s.mob ∧ (s.accessOver x).cal = s.cal ∧
    (s.accessOver x).txt = s.txt ∧ (s.accessOver x).hlc = s.hlc ∧ (s.accessOver x).psc.per = s.psc.per ∧
    (s.accessOver x).psc.settleS = s.psc.settleS ∧ (s.accessOver x).psc.notedS = s.psc.notedS := by
  simp [State.accessOver]

@[simp] theorem State.accessSucceeded_keeps (x : Sub) (r : ReturnRecord) (cmd : HoCommand) (s : State) :
    (s.accessSucceeded x r cmd).pending = s.pending ∧ (s.accessSucceeded x r cmd).resetHeld = s.resetHeld ∧
    (s.accessSucceeded x r cmd).pins = s.pins ∧ (s.accessSucceeded x r cmd).clock = s.clock := by
  simp [State.accessSucceeded]

@[simp] theorem State.accessFailed_keeps (x : Sub) (r : ReturnRecord) (cmd : HoCommand) (s : State) :
    (s.accessFailed x r cmd).pending = s.pending ∧ (s.accessFailed x r cmd).resetHeld = s.resetHeld ∧
    (s.accessFailed x r cmd).pins = s.pins ∧ (s.accessFailed x r cmd).clock = s.clock := by
  simp [State.accessFailed]

@[simp] theorem State.accessEnded_keeps (x : Sub) (code : EndCode) (goodNotice : Bool) (s : State) :
    (s.accessEnded x code goodNotice).pending = s.pending ∧ (s.accessEnded x code goodNotice).resetHeld = s.resetHeld ∧
    (s.accessEnded x code goodNotice).pins = s.pins ∧ (s.accessEnded x code goodNotice).clock = s.clock := by
  unfold State.accessEnded; (repeat' split) <;> simp

@[simp] theorem State.takeCommand_keeps (x : Sub) (v : Serving) (t : HoTarget) (s : State) :
    (s.takeCommand x v t).pending = s.pending ∧ (s.takeCommand x v t).resetHeld = s.resetHeld ∧ (s.takeCommand x v t).pins = s.pins ∧
    (s.takeCommand x v t).clock = s.clock := by
  unfold State.takeCommand; dsimp only; split <;> (have h := congrArg Prod.snd ‹_ = (_, _)›; dsimp only at h; subst h; simp)

@[simp] theorem State.hoCommand_keeps (x : Sub) (t : HoTarget) (s : State) :
    (s.hoCommand x t).pending = s.pending ∧ (s.hoCommand x t).resetHeld = s.resetHeld ∧ (s.hoCommand x t).pins = s.pins ∧
    (s.hoCommand x t).clock = s.clock := by
  unfold State.hoCommand; (repeat' split) <;> simp

@[simp] theorem State.trafficNotice_keeps (x : Sub) (s : State) :
    (s.trafficNotice x).pending = s.pending ∧ (s.trafficNotice x).resetHeld = s.resetHeld ∧ (s.trafficNotice x).pins = s.pins ∧
    (s.trafficNotice x).clock = s.clock ∧ (s.trafficNotice x).rpt = s.rpt ∧ (s.trafficNotice x).rta = s.rta ∧
    (s.trafficNotice x).dlc = s.dlc ∧ (s.trafficNotice x).sge = s.sge ∧ (s.trafficNotice x).sbs = s.sbs ∧
    (s.trafficNotice x).psc = s.psc ∧ (s.trafficNotice x).cal = s.cal ∧ (s.trafficNotice x).vcp = s.vcp ∧
    (s.trafficNotice x).txt = s.txt ∧ (s.trafficNotice x).hlc = s.hlc := by
  simp [State.trafficNotice]

@[simp] theorem State.secondFailure_keeps (x : Sub) (s : State) :
    (s.secondFailure x).pending = s.pending ∧ (s.secondFailure x).resetHeld = s.resetHeld ∧ (s.secondFailure x).pins = s.pins ∧
    (s.secondFailure x).clock = s.clock := by
  simp [State.secondFailure]

/-! ### Answers -/

@[simp] theorem State.linkEnded_keeps (t : Txn) (o : TxnOutcome) (s : State) :
    (s.linkEnded t o).pending = s.pending ∧ (s.linkEnded t o).resetHeld = s.resetHeld ∧ (s.linkEnded t o).pins = s.pins ∧
    (s.linkEnded t o).clock = s.clock ∧ (s.linkEnded t o).rpt = s.rpt ∧ (s.linkEnded t o).rta = s.rta ∧
    (s.linkEnded t o).dlc = s.dlc ∧ (s.linkEnded t o).sge = s.sge ∧ (s.linkEnded t o).sbs = s.sbs ∧
    (s.linkEnded t o).psc = s.psc ∧ (s.linkEnded t o).mob = s.mob ∧ (s.linkEnded t o).cal = s.cal ∧
    (s.linkEnded t o).vcp = s.vcp ∧ (s.linkEnded t o).txt = s.txt := by
  unfold State.linkEnded; split <;> simp

@[simp] theorem State.reportEndedTxn_keeps (x : Sub) (o : TxnOutcome) (s : State) :
    (s.reportEndedTxn x o).pending = s.pending ∧ (s.reportEndedTxn x o).resetHeld = s.resetHeld ∧
    (s.reportEndedTxn x o).pins = s.pins ∧ (s.reportEndedTxn x o).clock = s.clock ∧ (s.reportEndedTxn x o).rpt = s.rpt ∧
    (s.reportEndedTxn x o).rta = s.rta ∧ (s.reportEndedTxn x o).dlc = s.dlc ∧ (s.reportEndedTxn x o).sge = s.sge ∧
    (s.reportEndedTxn x o).sbs = s.sbs ∧ (s.reportEndedTxn x o).psc = s.psc ∧ (s.reportEndedTxn x o).cal = s.cal ∧
    (s.reportEndedTxn x o).vcp = s.vcp ∧ (s.reportEndedTxn x o).txt = s.txt ∧ (s.reportEndedTxn x o).hlc = s.hlc := by
  unfold State.reportEndedTxn; split <;> simp

@[simp] theorem State.tellOwner_keeps (t : Txn) (o : TxnOutcome) (accept : Option (Nat × Option AliasValue)) (s : State) :
    (s.tellOwner t o accept).pending = s.pending ∧ (s.tellOwner t o accept).resetHeld = s.resetHeld ∧
    (s.tellOwner t o accept).pins = s.pins ∧ (s.tellOwner t o accept).clock = s.clock := by
  unfold State.tellOwner; (repeat' split) <;> simp

@[simp] theorem State.endTxnWith_keeps (i : Nat) (o : TxnOutcome) (accept : Option (Nat × Option AliasValue)) (s : State) :
    (s.endTxnWith i o accept).pending = s.pending ∧ (s.endTxnWith i o accept).resetHeld = s.resetHeld ∧
    (s.endTxnWith i o accept).pins = s.pins ∧ (s.endTxnWith i o accept).clock = s.clock := by
  unfold State.endTxnWith; split <;> simp

@[simp] theorem State.endTxn_keeps (i : Nat) (o : TxnOutcome) (s : State) :
    (s.endTxn i o).pending = s.pending ∧ (s.endTxn i o).resetHeld = s.resetHeld ∧ (s.endTxn i o).pins = s.pins ∧
    (s.endTxn i o).clock = s.clock := by
  simp [State.endTxn]

@[simp] theorem State.linkGranted_keeps (i : Nat) (s : State) :
    (s.linkGranted i).pending = s.pending ∧ (s.linkGranted i).resetHeld = s.resetHeld ∧ (s.linkGranted i).pins = s.pins ∧
    (s.linkGranted i).clock = s.clock ∧ (s.linkGranted i).rpt = s.rpt ∧ (s.linkGranted i).rta = s.rta ∧
    (s.linkGranted i).dlc = s.dlc ∧ (s.linkGranted i).sbs = s.sbs ∧ (s.linkGranted i).psc = s.psc ∧
    (s.linkGranted i).mob = s.mob ∧ (s.linkGranted i).cal = s.cal ∧ (s.linkGranted i).vcp = s.vcp ∧
    (s.linkGranted i).txt = s.txt ∧ (s.linkGranted i).hlc = s.hlc := by
  simp [State.linkGranted]

@[simp] theorem State.provisional_keeps (i : Nat) (t : Txn) (alert : Bool) (s : State) :
    (s.provisional i t alert).pending = s.pending ∧ (s.provisional i t alert).resetHeld = s.resetHeld ∧
    (s.provisional i t alert).pins = s.pins ∧ (s.provisional i t alert).clock = s.clock ∧ (s.provisional i t alert).rpt = s.rpt ∧
    (s.provisional i t alert).rta = s.rta ∧ (s.provisional i t alert).dlc = s.dlc ∧ (s.provisional i t alert).sbs = s.sbs ∧
    (s.provisional i t alert).psc = s.psc ∧ (s.provisional i t alert).mob = s.mob ∧ (s.provisional i t alert).vcp = s.vcp ∧
    (s.provisional i t alert).txt = s.txt := by
  unfold State.provisional; split <;> simp

@[simp] theorem State.answered_keeps (i : Nat) (t : Txn) (b : SignalBlock) (s : State) :
    (s.answered i t b).pending = s.pending ∧ (s.answered i t b).resetHeld = s.resetHeld ∧ (s.answered i t b).pins = s.pins ∧
    (s.answered i t b).clock = s.clock := by
  unfold State.answered; split <;> simp

@[simp] theorem State.answerCode_keeps (x : Sub) (b : SignalBlock) (s : State) :
    (s.answerCode x b).pending = s.pending ∧ (s.answerCode x b).resetHeld = s.resetHeld ∧ (s.answerCode x b).pins = s.pins ∧
    (s.answerCode x b).clock = s.clock := by
  unfold State.answerCode; (repeat' split) <;> simp

@[simp] theorem State.freeTxns_keeps (x : Sub) (p : Txn → Bool) (s : State) :
    (s.freeTxns x p).pending = s.pending ∧ (s.freeTxns x p).resetHeld = s.resetHeld ∧ (s.freeTxns x p).pins = s.pins ∧
    (s.freeTxns x p).clock = s.clock ∧ (s.freeTxns x p).rta = s.rta ∧ (s.freeTxns x p).dlc = s.dlc ∧
    (s.freeTxns x p).sbs = s.sbs ∧ (s.freeTxns x p).psc = s.psc ∧ (s.freeTxns x p).mob = s.mob ∧ (s.freeTxns x p).cal = s.cal ∧
    (s.freeTxns x p).vcp = s.vcp ∧ (s.freeTxns x p).txt = s.txt ∧ (s.freeTxns x p).hlc = s.hlc := by
  have key : ∀ (l : List (Nat × Txn)) (t : State), (l.foldl (fun s e => s.freeTxn e.1) t).pending = t.pending ∧ (l.foldl (fun s e => s.freeTxn e.1) t).resetHeld = t.resetHeld ∧ (l.foldl (fun s e => s.freeTxn e.1) t).pins = t.pins ∧ (l.foldl (fun s e => s.freeTxn e.1) t).clock = t.clock ∧ (l.foldl (fun s e => s.freeTxn e.1) t).rta = t.rta ∧ (l.foldl (fun s e => s.freeTxn e.1) t).dlc = t.dlc ∧ (l.foldl (fun s e => s.freeTxn e.1) t).sbs = t.sbs ∧ (l.foldl (fun s e => s.freeTxn e.1) t).psc = t.psc ∧ (l.foldl (fun s e => s.freeTxn e.1) t).mob = t.mob ∧ (l.foldl (fun s e => s.freeTxn e.1) t).cal = t.cal ∧ (l.foldl (fun s e => s.freeTxn e.1) t).vcp = t.vcp ∧ (l.foldl (fun s e => s.freeTxn e.1) t).txt = t.txt ∧ (l.foldl (fun s e => s.freeTxn e.1) t).hlc = t.hlc := by
    intro l; induction l with
    | nil => simp
    | cons a l ih => intro t; simp [ih]
  simp [State.freeTxns, key]

@[simp] theorem State.releaseFrom_keeps (x : Sub) (b : SignalBlock) (s : State) :
    (s.releaseFrom x b).pending = s.pending ∧ (s.releaseFrom x b).resetHeld = s.resetHeld ∧ (s.releaseFrom x b).pins = s.pins ∧
    (s.releaseFrom x b).clock = s.clock := by
  unfold State.releaseFrom; (repeat' split) <;> simp

@[simp] theorem State.releaseDone_keeps (x : Sub) (b : SignalBlock) (s : State) :
    (s.releaseDone x b).pending = s.pending ∧ (s.releaseDone x b).resetHeld = s.resetHeld ∧ (s.releaseDone x b).pins = s.pins ∧
    (s.releaseDone x b).clock = s.clock := by
  unfold State.releaseDone; dsimp only; (repeat' split) <;> simp

@[simp] theorem State.hoCommandFrom_keeps (x : Sub) (b : SignalBlock) (s : State) :
    (s.hoCommandFrom x b).pending = s.pending ∧ (s.hoCommandFrom x b).resetHeld = s.resetHeld ∧ (s.hoCommandFrom x b).pins = s.pins ∧
    (s.hoCommandFrom x b).clock = s.clock := by
  unfold State.hoCommandFrom; (repeat' split) <;> simp

@[simp] theorem State.setupFrom_keeps (x : Sub) (b : SignalBlock) (s : State) :
    (s.setupFrom x b).pending = s.pending ∧ (s.setupFrom x b).resetHeld = s.resetHeld ∧ (s.setupFrom x b).pins = s.pins ∧
    (s.setupFrom x b).clock = s.clock := by
  unfold State.setupFrom; split <;> simp

@[simp] theorem State.textFrom_keeps (x : Sub) (b : SignalBlock) (s : State) :
    (s.textFrom x b).pending = s.pending ∧ (s.textFrom x b).resetHeld = s.resetHeld ∧ (s.textFrom x b).pins = s.pins ∧
    (s.textFrom x b).clock = s.clock := by
  unfold State.textFrom; split <;> simp

@[simp] theorem State.passAnswer_keeps (x : Sub) (b : SignalBlock) (s : State) :
    (s.passAnswer x b).pending = s.pending ∧ (s.passAnswer x b).resetHeld = s.resetHeld ∧ (s.passAnswer x b).pins = s.pins ∧
    (s.passAnswer x b).clock = s.clock := by
  unfold State.passAnswer; (repeat' split) <;> simp

@[simp] theorem State.sgeTakes_keeps (x : Sub) (b : SignalBlock) (s : State) :
    (s.sgeTakes x b).pending = s.pending ∧ (s.sgeTakes x b).resetHeld = s.resetHeld ∧ (s.sgeTakes x b).pins = s.pins ∧
    (s.sgeTakes x b).clock = s.clock := by
  unfold State.sgeTakes; (repeat' split) <;> simp

/-! ### The arbiter and the orders -/

@[simp] theorem State.settleClaim_keeps (i : Nat) (code : EndCode) (s : State) :
    (s.settleClaim i code).pending = s.pending ∧ (s.settleClaim i code).resetHeld = s.resetHeld ∧
    (s.settleClaim i code).pins = s.pins ∧ (s.settleClaim i code).clock = s.clock ∧ (s.settleClaim i code).rpt = s.rpt ∧
    (s.settleClaim i code).dlc = s.dlc ∧ (s.settleClaim i code).sge = s.sge ∧ (s.settleClaim i code).sbs = s.sbs ∧
    (s.settleClaim i code).psc = s.psc ∧ (s.settleClaim i code).mob = s.mob ∧ (s.settleClaim i code).cal = s.cal ∧
    (s.settleClaim i code).vcp = s.vcp ∧ (s.settleClaim i code).txt = s.txt ∧ (s.settleClaim i code).hlc = s.hlc := by
  simp [State.settleClaim]

@[simp] theorem State.tellClaimOwner_keeps (x : Sub) (k : ClaimKind) (code : EndCode) (u : Option RadioUnit) (s : State) :
    (s.tellClaimOwner x k code u).pending = s.pending ∧ (s.tellClaimOwner x k code u).resetHeld = s.resetHeld ∧
    (s.tellClaimOwner x k code u).pins = s.pins ∧ (s.tellClaimOwner x k code u).clock = s.clock := by
  unfold State.tellClaimOwner; split <;> simp

@[simp] theorem State.endUnit_keeps (faulted : Bool) (s : State) :
    (s.endUnit faulted).pending = s.pending ∧ (s.endUnit faulted).resetHeld = s.resetHeld ∧ (s.endUnit faulted).pins = s.pins ∧
    (s.endUnit faulted).clock = s.clock := by
  unfold State.endUnit; dsimp only; (repeat' split) <;> simp

@[simp] theorem State.faultOrder_keeps (errors : List OrderError) (s : State) :
    (s.faultOrder errors).pending = s.pending ∧ (s.faultOrder errors).resetHeld = s.resetHeld ∧ (s.faultOrder errors).pins = s.pins ∧
    (s.faultOrder errors).clock = s.clock := by
  unfold State.faultOrder; dsimp only; (repeat' split) <;> simp

@[simp] theorem State.cleanAck_keeps (o : Order) (s : State) :
    (s.cleanAck o).pending = s.pending ∧ (s.cleanAck o).resetHeld = s.resetHeld ∧ (s.cleanAck o).pins = s.pins ∧
    (s.cleanAck o).clock = s.clock ∧ (s.cleanAck o).dlc = s.dlc ∧ (s.cleanAck o).sbs = s.sbs ∧ (s.cleanAck o).cal = s.cal ∧
    (s.cleanAck o).vcp = s.vcp ∧ (s.cleanAck o).txt = s.txt ∧ (s.cleanAck o).hlc = s.hlc ∧ (s.cleanAck o).psc.per = s.psc.per ∧
    (s.cleanAck o).psc.settleS = s.psc.settleS ∧ (s.cleanAck o).psc.notedS = s.psc.notedS := by
  unfold State.cleanAck; split <;> simp

@[simp] theorem State.sendOrder_keeps (o : Order) (s : State) :
    (s.sendOrder o).pending = s.pending ∧ (s.sendOrder o).resetHeld = s.resetHeld ∧ (s.sendOrder o).pins = s.pins ∧
    (s.sendOrder o).clock = s.clock ∧ (s.sendOrder o).rta = s.rta ∧ (s.sendOrder o).dlc = s.dlc ∧ (s.sendOrder o).sge = s.sge ∧
    (s.sendOrder o).sbs = s.sbs ∧ (s.sendOrder o).psc = s.psc ∧ (s.sendOrder o).mob = s.mob ∧ (s.sendOrder o).cal = s.cal ∧
    (s.sendOrder o).vcp = s.vcp ∧ (s.sendOrder o).txt = s.txt ∧ (s.sendOrder o).hlc = s.hlc := by
  simp [State.sendOrder]

@[simp] theorem State.uplinkBlock_keeps (x : Sub) (k : ClaimKind) (s : State) :
    (s.uplinkBlock x k).2.2.pending = s.pending ∧ (s.uplinkBlock x k).2.2.resetHeld = s.resetHeld ∧
    (s.uplinkBlock x k).2.2.pins = s.pins ∧ (s.uplinkBlock x k).2.2.clock = s.clock ∧ (s.uplinkBlock x k).2.2.rpt = s.rpt ∧
    (s.uplinkBlock x k).2.2.rta = s.rta ∧ (s.uplinkBlock x k).2.2.dlc = s.dlc ∧ (s.uplinkBlock x k).2.2.sge = s.sge ∧
    (s.uplinkBlock x k).2.2.sbs = s.sbs ∧ (s.uplinkBlock x k).2.2.psc = s.psc ∧ (s.uplinkBlock x k).2.2.mob = s.mob ∧
    (s.uplinkBlock x k).2.2.cal = s.cal ∧ (s.uplinkBlock x k).2.2.txt = s.txt ∧ (s.uplinkBlock x k).2.2.hlc = s.hlc := by
  unfold State.uplinkBlock; dsimp only; (repeat' split) <;> simp

@[simp] theorem State.orderCell_keeps (x : Sub) (k : ClaimKind) (s : State) :
    (s.orderCell x k).2.pending = s.pending ∧ (s.orderCell x k).2.resetHeld = s.resetHeld ∧ (s.orderCell x k).2.pins = s.pins ∧
    (s.orderCell x k).2.clock = s.clock ∧ (s.orderCell x k).2.rpt = s.rpt ∧ (s.orderCell x k).2.rta = s.rta ∧
    (s.orderCell x k).2.dlc = s.dlc ∧ (s.orderCell x k).2.sge = s.sge ∧ (s.orderCell x k).2.sbs = s.sbs ∧
    (s.orderCell x k).2.psc = s.psc ∧ (s.orderCell x k).2.cal = s.cal ∧ (s.orderCell x k).2.vcp = s.vcp ∧
    (s.orderCell x k).2.txt = s.txt ∧ (s.orderCell x k).2.hlc = s.hlc := by
  unfold State.orderCell; split <;> simp

@[simp] theorem State.orderContent_keeps (x : Sub) (k : ClaimKind) (s : State) :
    (s.orderContent x k).2.2.pending = s.pending ∧ (s.orderContent x k).2.2.resetHeld = s.resetHeld ∧
    (s.orderContent x k).2.2.pins = s.pins ∧ (s.orderContent x k).2.2.clock = s.clock ∧ (s.orderContent x k).2.2.rpt = s.rpt ∧
    (s.orderContent x k).2.2.rta = s.rta ∧ (s.orderContent x k).2.2.dlc = s.dlc ∧ (s.orderContent x k).2.2.sge = s.sge ∧
    (s.orderContent x k).2.2.sbs = s.sbs ∧ (s.orderContent x k).2.2.psc = s.psc ∧ (s.orderContent x k).2.2.mob = s.mob ∧
    (s.orderContent x k).2.2.cal = s.cal ∧ (s.orderContent x k).2.2.txt = s.txt ∧ (s.orderContent x k).2.2.hlc = s.hlc := by
  unfold State.orderContent; split <;> simp

@[simp] theorem State.beginListen_keeps (x : Sub) (k : ClaimKind) (s : State) :
    (s.beginListen x k).pending = s.pending ∧ (s.beginListen x k).resetHeld = s.resetHeld ∧ (s.beginListen x k).pins = s.pins ∧
    (s.beginListen x k).clock = s.clock ∧ (s.beginListen x k).rpt = s.rpt ∧ (s.beginListen x k).rta = s.rta ∧
    (s.beginListen x k).dlc = s.dlc ∧ (s.beginListen x k).sge = s.sge ∧ (s.beginListen x k).sbs = s.sbs ∧
    (s.beginListen x k).mob = s.mob ∧ (s.beginListen x k).cal = s.cal ∧ (s.beginListen x k).vcp = s.vcp ∧
    (s.beginListen x k).txt = s.txt ∧ (s.beginListen x k).hlc = s.hlc ∧ (s.beginListen x k).psc.settleS = s.psc.settleS ∧
    (s.beginListen x k).psc.notedS = s.psc.notedS ∧ (s.beginListen x k).psc.power = s.psc.power := by
  unfold State.beginListen; split <;> simp

@[simp] theorem State.startUnit_keeps (i : Nat) (c : Claim) (s : State) :
    (s.startUnit i c).pending = s.pending ∧ (s.startUnit i c).resetHeld = s.resetHeld ∧ (s.startUnit i c).pins = s.pins ∧
    (s.startUnit i c).clock = s.clock ∧ (s.startUnit i c).dlc = s.dlc ∧ (s.startUnit i c).sge = s.sge ∧
    (s.startUnit i c).sbs = s.sbs ∧ (s.startUnit i c).cal = s.cal ∧ (s.startUnit i c).txt = s.txt ∧
    (s.startUnit i c).hlc = s.hlc ∧ (s.startUnit i c).psc.settleS = s.psc.settleS ∧ (s.startUnit i c).psc.notedS = s.psc.notedS ∧
    (s.startUnit i c).psc.power = s.psc.power := by
  simp [State.startUnit]

@[simp] theorem State.passOver_keeps (code : EndCode) (e : Nat × Claim) (s : State) :
    (s.passOver code e).pending = s.pending ∧ (s.passOver code e).resetHeld = s.resetHeld ∧ (s.passOver code e).pins = s.pins ∧
    (s.passOver code e).clock = s.clock := by
  unfold State.passOver; split <;> simp

@[simp] theorem State.grant_keeps (recovery : Bool) (s : State) :
    (s.grant recovery).pending = s.pending ∧ (s.grant recovery).resetHeld = s.resetHeld ∧ (s.grant recovery).pins = s.pins ∧
    (s.grant recovery).clock = s.clock := by
  have key : ∀ (code : EndCode) (l : List (Nat × Claim)) (t : State), (l.foldl (State.passOver code) t).pending = t.pending ∧ (l.foldl (State.passOver code) t).resetHeld = t.resetHeld ∧ (l.foldl (State.passOver code) t).pins = t.pins ∧ (l.foldl (State.passOver code) t).clock = t.clock := by
    intro code l; induction l with
    | nil => simp
    | cons a l ih => intro t; simp [ih]
  unfold State.grant; (repeat' (first | split | (dsimp only; split))) <;> simp [key]

@[simp] theorem State.expireWindow_keeps (e : Nat × Claim) (s : State) :
    (s.expireWindow e).pending = s.pending ∧ (s.expireWindow e).resetHeld = s.resetHeld ∧ (s.expireWindow e).pins = s.pins ∧
    (s.expireWindow e).clock = s.clock := by
  unfold State.expireWindow; (repeat' split) <;> simp

@[simp] theorem State.expireWindows_keeps (s : State) :
    s.expireWindows.pending = s.pending ∧ s.expireWindows.resetHeld = s.resetHeld ∧ s.expireWindows.pins = s.pins ∧
    s.expireWindows.clock = s.clock := by
  have key : ∀ (l : List (Nat × Claim)) (t : State), (l.foldl State.expireWindow t).pending = t.pending ∧ (l.foldl State.expireWindow t).resetHeld = t.resetHeld ∧ (l.foldl State.expireWindow t).pins = t.pins ∧ (l.foldl State.expireWindow t).clock = t.clock := by
    intro l; induction l with
    | nil => simp
    | cons a l ih => intro t; simp [ih]
  simp [State.expireWindows, key]

@[simp] theorem State.recordHolder_keeps (s : State) :
    s.recordHolder.pending = s.pending ∧ s.recordHolder.resetHeld = s.resetHeld ∧ s.recordHolder.pins = s.pins ∧
    s.recordHolder.clock = s.clock ∧ s.recordHolder.rpt = s.rpt ∧ s.recordHolder.dlc = s.dlc ∧ s.recordHolder.sge = s.sge ∧
    s.recordHolder.sbs = s.sbs ∧ s.recordHolder.psc = s.psc ∧ s.recordHolder.mob = s.mob ∧ s.recordHolder.cal = s.cal ∧
    s.recordHolder.vcp = s.vcp ∧ s.recordHolder.txt = s.txt ∧ s.recordHolder.hlc = s.hlc := by
  simp [State.recordHolder]

/-! ### Placements in the order of their ranks -/

@[simp] theorem State.placeNow_keeps (k : ClaimKind) (x : Sub) (s : State) :
    (s.placeNow k x).pending = s.pending ∧ (s.placeNow k x).resetHeld = s.resetHeld ∧ (s.placeNow k x).pins = s.pins ∧
    (s.placeNow k x).clock = s.clock ∧ (s.placeNow k x).rpt = s.rpt ∧ (s.placeNow k x).dlc = s.dlc ∧
    (s.placeNow k x).sge = s.sge ∧ (s.placeNow k x).sbs = s.sbs ∧ (s.placeNow k x).vcp = s.vcp ∧ (s.placeNow k x).txt = s.txt ∧
    (s.placeNow k x).psc.settleS = s.psc.settleS ∧ (s.placeNow k x).psc.notedS = s.psc.notedS := by
  unfold State.placeNow; split <;> simp

@[simp] theorem State.takeTurn_keeps (e : ClaimKind × Sub) (s : State) :
    (s.takeTurn e).pending = s.pending ∧ (s.takeTurn e).resetHeld = s.resetHeld ∧ (s.takeTurn e).pins = s.pins ∧
    (s.takeTurn e).clock = s.clock ∧ (s.takeTurn e).rpt = s.rpt ∧ (s.takeTurn e).dlc = s.dlc ∧ (s.takeTurn e).sge = s.sge ∧
    (s.takeTurn e).sbs = s.sbs ∧ (s.takeTurn e).vcp = s.vcp ∧ (s.takeTurn e).txt = s.txt ∧
    (s.takeTurn e).psc.settleS = s.psc.settleS ∧ (s.takeTurn e).psc.notedS = s.psc.notedS := by
  unfold State.takeTurn; (repeat' split) <;> simp

@[simp] theorem State.takeTurns_keeps (l : List (ClaimKind × Sub)) (s : State) :
    (l.foldl State.takeTurn s).pending = s.pending ∧ (l.foldl State.takeTurn s).resetHeld = s.resetHeld ∧
    (l.foldl State.takeTurn s).pins = s.pins ∧ (l.foldl State.takeTurn s).clock = s.clock ∧
    (l.foldl State.takeTurn s).rpt = s.rpt ∧ (l.foldl State.takeTurn s).dlc = s.dlc ∧ (l.foldl State.takeTurn s).sge = s.sge ∧
    (l.foldl State.takeTurn s).sbs = s.sbs ∧ (l.foldl State.takeTurn s).vcp = s.vcp ∧ (l.foldl State.takeTurn s).txt = s.txt ∧
    (l.foldl State.takeTurn s).psc.settleS = s.psc.settleS ∧ (l.foldl State.takeTurn s).psc.notedS = s.psc.notedS := by
  induction l generalizing s with
  | nil => simp
  | cons e l ih => simp [ih]

@[simp] theorem State.takeStanding_keeps (s : State) :
    s.takeStanding.pending = s.pending ∧ s.takeStanding.resetHeld = s.resetHeld ∧ s.takeStanding.pins = s.pins ∧
    s.takeStanding.clock = s.clock ∧ s.takeStanding.rpt = s.rpt ∧ s.takeStanding.dlc = s.dlc ∧ s.takeStanding.sge = s.sge ∧
    s.takeStanding.sbs = s.sbs ∧ s.takeStanding.vcp = s.vcp ∧ s.takeStanding.txt = s.txt ∧
    s.takeStanding.psc.settleS = s.psc.settleS ∧ s.takeStanding.psc.notedS = s.psc.notedS := by
  simp [State.takeStanding]

/-- A step whose placements are taken in order: what its action makes of a state in which nothing is asked for yet, then the placements. -/
theorem State.inRankOrder_keeps (act : State → State) (s : State) :
    (s.inRankOrder act).pending = (act (s.setAsked (some []))).pending ∧
    (s.inRankOrder act).resetHeld = (act (s.setAsked (some []))).resetHeld ∧
    (s.inRankOrder act).pins = (act (s.setAsked (some []))).pins ∧ (s.inRankOrder act).clock = (act (s.setAsked (some []))).clock ∧
    (s.inRankOrder act).rpt = (act (s.setAsked (some []))).rpt ∧ (s.inRankOrder act).dlc = (act (s.setAsked (some []))).dlc ∧
    (s.inRankOrder act).sge = (act (s.setAsked (some []))).sge ∧ (s.inRankOrder act).sbs = (act (s.setAsked (some []))).sbs ∧
    (s.inRankOrder act).vcp = (act (s.setAsked (some []))).vcp ∧ (s.inRankOrder act).txt = (act (s.setAsked (some []))).txt ∧
    (s.inRankOrder act).rta.asked = s.rta.asked := by
  simp [State.inRankOrder, State.setAsked]

@[simp] theorem State.decide_keeps (s : State) :
    s.decide.pending = s.pending ∧ s.decide.resetHeld = s.resetHeld ∧ s.decide.pins = s.pins ∧ s.decide.clock = s.clock := by
  unfold State.decide; dsimp only; (repeat' split) <;> simp

@[simp] theorem State.arbitrate_keeps (s : State) :
    s.arbitrate.pending = s.pending ∧ s.arbitrate.resetHeld = s.resetHeld ∧ s.arbitrate.pins = s.pins ∧
    s.arbitrate.clock = s.clock := by
  unfold State.arbitrate; dsimp only; split <;> simp

@[simp] theorem State.countTimers_keeps (s : State) :
    s.countTimers.pending = s.pending ∧ s.countTimers.resetHeld = s.resetHeld ∧ s.countTimers.pins = s.pins ∧
    s.countTimers.clock = s.clock ∧ s.countTimers.rpt = s.rpt ∧ s.countTimers.rta = s.rta ∧ s.countTimers.dlc = s.dlc ∧
    s.countTimers.sbs = s.sbs ∧ s.countTimers.vcp = s.vcp ∧ s.countTimers.hlc = s.hlc ∧
    s.countTimers.psc.settleS = s.psc.settleS ∧ s.countTimers.psc.notedS = s.psc.notedS ∧
    s.countTimers.psc.power = s.psc.power := by
  simp [State.countTimers]

@[simp] theorem State.openWindows_keeps (s : State) :
    s.openWindows.pending = s.pending ∧ s.openWindows.resetHeld = s.resetHeld ∧ s.openWindows.pins = s.pins ∧
    s.openWindows.clock = s.clock ∧ s.openWindows.rpt = s.rpt ∧ s.openWindows.dlc = s.dlc ∧ s.openWindows.sge = s.sge ∧
    s.openWindows.sbs = s.sbs ∧ s.openWindows.psc = s.psc ∧ s.openWindows.mob = s.mob ∧ s.openWindows.cal = s.cal ∧
    s.openWindows.vcp = s.vcp ∧ s.openWindows.txt = s.txt ∧ s.openWindows.hlc = s.hlc := by
  simp [State.openWindows]

@[simp] theorem State.deadlinePasses_keeps (s : State) :
    s.deadlinePasses.pending = s.pending ∧ s.deadlinePasses.resetHeld = s.resetHeld ∧ s.deadlinePasses.pins = s.pins ∧
    s.deadlinePasses.clock = s.clock := by
  simp [State.deadlinePasses, State.inRankOrder_keeps]

/-! ### Blocks -/

@[simp] theorem State.accessNotice_keeps (h : Holder) (good : Bool) (s : State) :
    (s.accessNotice h good).pending = s.pending ∧ (s.accessNotice h good).resetHeld = s.resetHeld ∧
    (s.accessNotice h good).pins = s.pins ∧ (s.accessNotice h good).clock = s.clock ∧ (s.accessNotice h good).rpt = s.rpt ∧
    (s.accessNotice h good).dlc = s.dlc ∧ (s.accessNotice h good).sge = s.sge ∧ (s.accessNotice h good).sbs = s.sbs ∧
    (s.accessNotice h good).psc = s.psc ∧ (s.accessNotice h good).mob = s.mob ∧ (s.accessNotice h good).cal = s.cal ∧
    (s.accessNotice h good).vcp = s.vcp ∧ (s.accessNotice h good).txt = s.txt ∧ (s.accessNotice h good).hlc = s.hlc := by
  unfold State.accessNotice; split <;> simp

@[simp] theorem State.pageResponse_keeps (x : Sub) (frame : Frame) (i : PageItem) (s : State) :
    (s.pageResponse x frame i).pending = s.pending ∧ (s.pageResponse x frame i).resetHeld = s.resetHeld ∧
    (s.pageResponse x frame i).pins = s.pins ∧ (s.pageResponse x frame i).clock = s.clock := by
  unfold State.pageResponse; split
  · simp
  · split <;> (have h := congrArg Prod.snd ‹_ = (_, _)›; dsimp only at h; subst h; simp)

@[simp] theorem State.pageUpdate_keeps (x : Sub) (s : State) :
    (s.pageUpdate x).pending = s.pending ∧ (s.pageUpdate x).resetHeld = s.resetHeld ∧ (s.pageUpdate x).pins = s.pins ∧
    (s.pageUpdate x).clock = s.clock := by
  unfold State.pageUpdate; dsimp only; (repeat' split) <;> simp

@[simp] theorem State.pageMatched_keeps (x : Sub) (frame : Frame) (i : PageItem) (s : State) :
    (s.pageMatched x frame i).pending = s.pending ∧ (s.pageMatched x frame i).resetHeld = s.resetHeld ∧
    (s.pageMatched x frame i).pins = s.pins ∧ (s.pageMatched x frame i).clock = s.clock := by
  unfold State.pageMatched; split <;> simp

@[simp] theorem State.onListen_keeps (x : Sub) (first : Frame) (f : Listen → Listen) (s : State) :
    (s.onListen x first f).pending = s.pending ∧ (s.onListen x first f).resetHeld = s.resetHeld ∧
    (s.onListen x first f).pins = s.pins ∧ (s.onListen x first f).clock = s.clock ∧ (s.onListen x first f).rpt = s.rpt ∧
    (s.onListen x first f).rta = s.rta ∧ (s.onListen x first f).dlc = s.dlc ∧ (s.onListen x first f).sge = s.sge ∧
    (s.onListen x first f).sbs = s.sbs ∧ (s.onListen x first f).mob = s.mob ∧ (s.onListen x first f).cal = s.cal ∧
    (s.onListen x first f).vcp = s.vcp ∧ (s.onListen x first f).txt = s.txt ∧ (s.onListen x first f).hlc = s.hlc ∧
    (s.onListen x first f).psc.settleS = s.psc.settleS ∧ (s.onListen x first f).psc.notedS = s.psc.notedS ∧
    (s.onListen x first f).psc.power = s.psc.power := by
  simp [State.onListen]

@[simp] theorem State.pageDelivered_keeps (h : Holder) (frame : Frame) (b : PageBlock) (s : State) :
    (s.pageDelivered h frame b).pending = s.pending ∧ (s.pageDelivered h frame b).resetHeld = s.resetHeld ∧
    (s.pageDelivered h frame b).pins = s.pins ∧ (s.pageDelivered h frame b).clock = s.clock := by
  unfold State.pageDelivered; dsimp only; (repeat' split) <;> simp

@[simp] theorem State.route_keeps (x : Sub) (frame : Frame) (b : SignalBlock) (s : State) :
    (s.route x frame b).pending = s.pending ∧ (s.route x frame b).resetHeld = s.resetHeld ∧ (s.route x frame b).pins = s.pins ∧
    (s.route x frame b).clock = s.clock ∧ (s.route x frame b).rpt = s.rpt ∧ (s.route x frame b).rta = s.rta ∧
    (s.route x frame b).dlc = s.dlc ∧ (s.route x frame b).sge = s.sge ∧ (s.route x frame b).sbs = s.sbs ∧
    (s.route x frame b).psc = s.psc ∧ (s.route x frame b).mob = s.mob ∧ (s.route x frame b).cal = s.cal ∧
    (s.route x frame b).vcp = s.vcp ∧ (s.route x frame b).txt = s.txt := by
  unfold State.route; (repeat' split) <;> simp

@[simp] theorem State.noticeTraffic_keeps (h : Holder) (s : State) :
    (s.noticeTraffic h).pending = s.pending ∧ (s.noticeTraffic h).resetHeld = s.resetHeld ∧ (s.noticeTraffic h).pins = s.pins ∧
    (s.noticeTraffic h).clock = s.clock ∧ (s.noticeTraffic h).rpt = s.rpt ∧ (s.noticeTraffic h).rta = s.rta ∧
    (s.noticeTraffic h).dlc = s.dlc ∧ (s.noticeTraffic h).sge = s.sge ∧ (s.noticeTraffic h).sbs = s.sbs ∧
    (s.noticeTraffic h).psc = s.psc ∧ (s.noticeTraffic h).cal = s.cal ∧ (s.noticeTraffic h).vcp = s.vcp ∧
    (s.noticeTraffic h).txt = s.txt ∧ (s.noticeTraffic h).hlc = s.hlc := by
  unfold State.noticeTraffic; split <;> simp

@[simp] theorem State.signalDelivered_keeps (h : Holder) (frame : Frame) (good : Bool) (b : SignalBlock) (s : State) :
    (s.signalDelivered h frame good b).pending = s.pending ∧ (s.signalDelivered h frame good b).resetHeld = s.resetHeld ∧
    (s.signalDelivered h frame good b).pins = s.pins ∧ (s.signalDelivered h frame good b).clock = s.clock := by
  unfold State.signalDelivered; split <;> simp

@[simp] theorem State.voiceDelivered_keeps (h : Holder) (good : Bool) (b : VoiceBlock) (s : State) :
    (s.voiceDelivered h good b).pending = s.pending ∧ (s.voiceDelivered h good b).resetHeld = s.resetHeld ∧
    (s.voiceDelivered h good b).pins = s.pins ∧ (s.voiceDelivered h good b).clock = s.clock ∧
    (s.voiceDelivered h good b).rpt = s.rpt ∧ (s.voiceDelivered h good b).rta = s.rta ∧ (s.voiceDelivered h good b).dlc = s.dlc ∧
    (s.voiceDelivered h good b).sge = s.sge ∧ (s.voiceDelivered h good b).sbs = s.sbs ∧ (s.voiceDelivered h good b).psc = s.psc ∧
    (s.voiceDelivered h good b).cal = s.cal ∧ (s.voiceDelivered h good b).txt = s.txt ∧
    (s.voiceDelivered h good b).hlc = s.hlc := by
  unfold State.voiceDelivered; split <;> simp

@[simp] theorem State.holdResult_keeps (entries : List (Option Int)) (s : State) :
    (s.holdResult entries).pending = s.pending ∧ (s.holdResult entries).resetHeld = s.resetHeld ∧
    (s.holdResult entries).pins = s.pins ∧ (s.holdResult entries).clock = s.clock ∧ (s.holdResult entries).rpt = s.rpt ∧
    (s.holdResult entries).dlc = s.dlc ∧ (s.holdResult entries).sge = s.sge ∧ (s.holdResult entries).sbs = s.sbs ∧
    (s.holdResult entries).psc = s.psc ∧ (s.holdResult entries).mob = s.mob ∧ (s.holdResult entries).cal = s.cal ∧
    (s.holdResult entries).vcp = s.vcp ∧ (s.holdResult entries).txt = s.txt ∧ (s.holdResult entries).hlc = s.hlc := by
  simp [State.holdResult]

/-! ### The host link -/

@[simp] theorem State.chooseOutbound_keeps (s : State) :
    s.chooseOutbound.pending = s.pending ∧ s.chooseOutbound.resetHeld = s.resetHeld ∧ s.chooseOutbound.pins = s.pins ∧
    s.chooseOutbound.clock = s.clock ∧ s.chooseOutbound.rpt = s.rpt ∧ s.chooseOutbound.rta = s.rta ∧
    s.chooseOutbound.dlc = s.dlc ∧ s.chooseOutbound.sge = s.sge ∧ s.chooseOutbound.sbs = s.sbs ∧ s.chooseOutbound.psc = s.psc ∧
    s.chooseOutbound.mob = s.mob ∧ s.chooseOutbound.cal = s.cal ∧ s.chooseOutbound.vcp = s.vcp ∧
    s.chooseOutbound.txt = s.txt := by
  unfold State.chooseOutbound; (repeat' split) <;> simp

@[simp] theorem State.hostAwake_keeps (s : State) :
    s.hostAwake.pending = s.pending ∧ s.hostAwake.resetHeld = s.resetHeld ∧ s.hostAwake.pins = s.pins ∧ s.hostAwake.clock = s.clock ∧
    s.hostAwake.rpt = s.rpt ∧ s.hostAwake.rta = s.rta ∧ s.hostAwake.dlc = s.dlc ∧ s.hostAwake.sge = s.sge ∧
    s.hostAwake.sbs = s.sbs ∧ s.hostAwake.psc = s.psc ∧ s.hostAwake.mob = s.mob ∧ s.hostAwake.cal = s.cal ∧
    s.hostAwake.vcp = s.vcp := by
  unfold State.hostAwake; split <;> simp

@[simp] theorem State.hostDozing_keeps (s : State) :
    s.hostDozing.pending = s.pending ∧ s.hostDozing.resetHeld = s.resetHeld ∧ s.hostDozing.pins = s.pins ∧
    s.hostDozing.clock = s.clock ∧ s.hostDozing.rpt = s.rpt ∧ s.hostDozing.rta = s.rta ∧ s.hostDozing.dlc = s.dlc ∧
    s.hostDozing.sge = s.sge ∧ s.hostDozing.sbs = s.sbs ∧ s.hostDozing.psc = s.psc ∧ s.hostDozing.mob = s.mob ∧
    s.hostDozing.cal = s.cal ∧ s.hostDozing.vcp = s.vcp ∧ s.hostDozing.txt = s.txt := by
  simp [State.hostDozing]

@[simp] theorem State.badFrame_keeps (reason : BadReason) (bytes : List Byte) (s : State) :
    (s.badFrame reason bytes).pending = s.pending ∧ (s.badFrame reason bytes).resetHeld = s.resetHeld ∧
    (s.badFrame reason bytes).pins = s.pins ∧ (s.badFrame reason bytes).clock = s.clock ∧ (s.badFrame reason bytes).rpt = s.rpt ∧
    (s.badFrame reason bytes).rta = s.rta ∧ (s.badFrame reason bytes).dlc = s.dlc ∧ (s.badFrame reason bytes).sge = s.sge ∧
    (s.badFrame reason bytes).sbs = s.sbs ∧ (s.badFrame reason bytes).psc = s.psc ∧ (s.badFrame reason bytes).mob = s.mob ∧
    (s.badFrame reason bytes).cal = s.cal ∧ (s.badFrame reason bytes).vcp = s.vcp := by
  simp [State.badFrame]

@[simp] theorem State.takeFrame_keeps (bytes : List Byte) (s : State) :
    (s.takeFrame bytes).pending = s.pending ∧ (s.takeFrame bytes).resetHeld = s.resetHeld ∧ (s.takeFrame bytes).pins = s.pins ∧
    (s.takeFrame bytes).clock = s.clock ∧ (s.takeFrame bytes).rpt = s.rpt ∧ (s.takeFrame bytes).rta = s.rta ∧
    (s.takeFrame bytes).dlc = s.dlc ∧ (s.takeFrame bytes).sge = s.sge ∧ (s.takeFrame bytes).sbs = s.sbs ∧
    (s.takeFrame bytes).psc = s.psc ∧ (s.takeFrame bytes).mob = s.mob ∧ (s.takeFrame bytes).cal = s.cal ∧
    (s.takeFrame bytes).vcp = s.vcp := by
  unfold State.takeFrame; (repeat' split) <;> simp

@[simp] theorem State.frameWakes_keeps (s : State) :
    s.frameWakes.pending = s.pending ∧ s.frameWakes.resetHeld = s.resetHeld ∧ s.frameWakes.pins = s.pins ∧
    s.frameWakes.clock = s.clock ∧ s.frameWakes.rpt = s.rpt ∧ s.frameWakes.rta = s.rta ∧ s.frameWakes.dlc = s.dlc ∧
    s.frameWakes.sge = s.sge ∧ s.frameWakes.sbs = s.sbs ∧ s.frameWakes.mob = s.mob ∧ s.frameWakes.cal = s.cal ∧
    s.frameWakes.vcp = s.vcp ∧ s.frameWakes.txt = s.txt ∧ s.frameWakes.hlc = s.hlc ∧ s.frameWakes.psc.per = s.psc.per ∧
    s.frameWakes.psc.settleS = s.psc.settleS ∧ s.frameWakes.psc.notedS = s.psc.notedS := by
  unfold State.frameWakes; split <;> simp

@[simp] theorem State.entrySent_keeps (s : State) :
    s.entrySent.pending = s.pending ∧ s.entrySent.resetHeld = s.resetHeld ∧ s.entrySent.pins = s.pins ∧ s.entrySent.clock = s.clock ∧
    s.entrySent.rpt = s.rpt ∧ s.entrySent.rta = s.rta ∧ s.entrySent.dlc = s.dlc ∧ s.entrySent.sge = s.sge ∧
    s.entrySent.sbs = s.sbs ∧ s.entrySent.psc = s.psc ∧ s.entrySent.mob = s.mob ∧ s.entrySent.cal = s.cal ∧
    s.entrySent.vcp = s.vcp := by
  unfold State.entrySent; split <;> simp

@[simp] theorem State.frameSent_keeps (s : State) :
    s.frameSent.pending = s.pending ∧ s.frameSent.resetHeld = s.resetHeld ∧ s.frameSent.pins = s.pins ∧ s.frameSent.clock = s.clock ∧
    s.frameSent.rpt = s.rpt ∧ s.frameSent.rta = s.rta ∧ s.frameSent.dlc = s.dlc ∧ s.frameSent.sge = s.sge ∧
    s.frameSent.sbs = s.sbs ∧ s.frameSent.psc = s.psc ∧ s.frameSent.mob = s.mob ∧ s.frameSent.cal = s.cal ∧
    s.frameSent.vcp = s.vcp := by
  unfold State.frameSent; split <;> simp

@[simp] theorem State.popInbound_keeps (s : State) :
    s.popInbound.pending = s.pending ∧ s.popInbound.resetHeld = s.resetHeld ∧ s.popInbound.pins = s.pins ∧
    s.popInbound.clock = s.clock ∧ s.popInbound.rpt = s.rpt ∧ s.popInbound.rta = s.rta ∧ s.popInbound.dlc = s.dlc ∧
    s.popInbound.sge = s.sge ∧ s.popInbound.sbs = s.sbs ∧ s.popInbound.psc = s.psc ∧ s.popInbound.mob = s.mob ∧
    s.popInbound.cal = s.cal ∧ s.popInbound.vcp = s.vcp ∧ s.popInbound.txt = s.txt := by
  simp [State.popInbound]

@[simp] theorem State.reply_keeps (f : HostFrame) (request : Byte) (code : ResultCode) (data : List Byte) (s : State) :
    (s.reply f request code data).pending = s.pending ∧ (s.reply f request code data).resetHeld = s.resetHeld ∧
    (s.reply f request code data).pins = s.pins ∧ (s.reply f request code data).clock = s.clock ∧
    (s.reply f request code data).rpt = s.rpt ∧ (s.reply f request code data).rta = s.rta ∧
    (s.reply f request code data).dlc = s.dlc ∧ (s.reply f request code data).sge = s.sge ∧
    (s.reply f request code data).sbs = s.sbs ∧ (s.reply f request code data).psc = s.psc ∧
    (s.reply f request code data).mob = s.mob ∧ (s.reply f request code data).cal = s.cal ∧
    (s.reply f request code data).vcp = s.vcp ∧ (s.reply f request code data).txt = s.txt := by
  simp [State.reply]

/-! ### Requests -/

@[simp] theorem State.detachRecord_keeps (x : Sub) (s : State) :
    (s.detachRecord x).pending = s.pending ∧ (s.detachRecord x).resetHeld = s.resetHeld ∧ (s.detachRecord x).pins = s.pins ∧
    (s.detachRecord x).clock = s.clock ∧ (s.detachRecord x).rpt = s.rpt ∧ (s.detachRecord x).rta = s.rta ∧
    (s.detachRecord x).dlc = s.dlc ∧ (s.detachRecord x).psc = s.psc ∧ (s.detachRecord x).mob = s.mob ∧
    (s.detachRecord x).cal = s.cal ∧ (s.detachRecord x).vcp = s.vcp ∧ (s.detachRecord x).txt = s.txt ∧
    (s.detachRecord x).hlc = s.hlc := by
  simp [State.detachRecord]

@[simp] theorem State.sendNotice_keeps (x : Sub) (s : State) :
    (s.sendNotice x).pending = s.pending ∧ (s.sendNotice x).resetHeld = s.resetHeld ∧ (s.sendNotice x).pins = s.pins ∧
    (s.sendNotice x).clock = s.clock ∧ (s.sendNotice x).rpt = s.rpt ∧ (s.sendNotice x).dlc = s.dlc ∧
    (s.sendNotice x).sbs = s.sbs ∧ (s.sendNotice x).cal = s.cal ∧ (s.sendNotice x).vcp = s.vcp ∧ (s.sendNotice x).txt = s.txt ∧
    (s.sendNotice x).hlc = s.hlc := by
  simp [State.sendNotice]

@[simp] theorem State.replaceSearch_keeps (x : Sub) (s : State) :
    (s.replaceSearch x).pending = s.pending ∧ (s.replaceSearch x).resetHeld = s.resetHeld ∧ (s.replaceSearch x).pins = s.pins ∧
    (s.replaceSearch x).clock = s.clock ∧ (s.replaceSearch x).rpt = s.rpt ∧ (s.replaceSearch x).dlc = s.dlc ∧
    (s.replaceSearch x).sge = s.sge ∧ (s.replaceSearch x).sbs = s.sbs ∧ (s.replaceSearch x).mob = s.mob ∧
    (s.replaceSearch x).cal = s.cal ∧ (s.replaceSearch x).vcp = s.vcp ∧ (s.replaceSearch x).txt = s.txt ∧
    (s.replaceSearch x).hlc = s.hlc ∧ (s.replaceSearch x).psc.per = s.psc.per ∧ (s.replaceSearch x).psc.settleS = s.psc.settleS ∧
    (s.replaceSearch x).psc.notedS = s.psc.notedS := by
  unfold State.replaceSearch; (repeat' split) <;> simp

@[simp] theorem State.setRelax_keeps (x : Sub) (thr factor margin : Nat) (s : State) :
    (s.setRelax x thr factor margin).pending = s.pending ∧ (s.setRelax x thr factor margin).resetHeld = s.resetHeld ∧
    (s.setRelax x thr factor margin).pins = s.pins ∧ (s.setRelax x thr factor margin).clock = s.clock ∧
    (s.setRelax x thr factor margin).rpt = s.rpt ∧ (s.setRelax x thr factor margin).dlc = s.dlc ∧
    (s.setRelax x thr factor margin).sge = s.sge ∧ (s.setRelax x thr factor margin).sbs = s.sbs ∧
    (s.setRelax x thr factor margin).mob = s.mob ∧ (s.setRelax x thr factor margin).cal = s.cal ∧
    (s.setRelax x thr factor margin).vcp = s.vcp ∧ (s.setRelax x thr factor margin).txt = s.txt ∧
    (s.setRelax x thr factor margin).hlc = s.hlc ∧ (s.setRelax x thr factor margin).psc.settleS = s.psc.settleS ∧
    (s.setRelax x thr factor margin).psc.notedS = s.psc.notedS := by
  simp [State.setRelax]

@[simp] theorem State.doConfigure_keeps (x : Sub) (v : ConfigValues) (s : State) :
    (s.doConfigure x v).2.2.pending = s.pending ∧ (s.doConfigure x v).2.2.resetHeld = s.resetHeld ∧
    (s.doConfigure x v).2.2.pins = s.pins ∧ (s.doConfigure x v).2.2.clock = s.clock ∧ (s.doConfigure x v).2.2.rpt = s.rpt ∧
    (s.doConfigure x v).2.2.rta = s.rta ∧ (s.doConfigure x v).2.2.dlc = s.dlc ∧ (s.doConfigure x v).2.2.psc = s.psc ∧
    (s.doConfigure x v).2.2.mob = s.mob ∧ (s.doConfigure x v).2.2.cal = s.cal ∧ (s.doConfigure x v).2.2.vcp = s.vcp ∧
    (s.doConfigure x v).2.2.txt = s.txt ∧ (s.doConfigure x v).2.2.hlc = s.hlc := by
  unfold State.doConfigure; (repeat' split) <;> simp

@[simp] theorem State.doNumbers_keeps (l : List NumberEntry) (s : State) :
    (s.doNumbers l).2.2.pending = s.pending ∧ (s.doNumbers l).2.2.resetHeld = s.resetHeld ∧ (s.doNumbers l).2.2.pins = s.pins ∧
    (s.doNumbers l).2.2.clock = s.clock ∧ (s.doNumbers l).2.2.rpt = s.rpt ∧ (s.doNumbers l).2.2.rta = s.rta ∧
    (s.doNumbers l).2.2.dlc = s.dlc ∧ (s.doNumbers l).2.2.sge = s.sge ∧ (s.doNumbers l).2.2.psc = s.psc ∧
    (s.doNumbers l).2.2.mob = s.mob ∧ (s.doNumbers l).2.2.cal = s.cal ∧ (s.doNumbers l).2.2.vcp = s.vcp ∧
    (s.doNumbers l).2.2.txt = s.txt ∧ (s.doNumbers l).2.2.hlc = s.hlc := by
  unfold State.doNumbers; split <;> simp

@[simp] theorem State.doAttach_keeps (x : Sub) (s : State) :
    (s.doAttach x).2.2.pending = s.pending ∧ (s.doAttach x).2.2.resetHeld = s.resetHeld ∧ (s.doAttach x).2.2.pins = s.pins ∧
    (s.doAttach x).2.2.clock = s.clock := by
  unfold State.doAttach; split <;> simp

@[simp] theorem State.doDetach_keeps (x : Sub) (s : State) :
    (s.doDetach x).2.2.pending = s.pending ∧ (s.doDetach x).2.2.resetHeld = s.resetHeld ∧ (s.doDetach x).2.2.pins = s.pins ∧
    (s.doDetach x).2.2.clock = s.clock := by
  unfold State.doDetach; dsimp only; (repeat' split) <;> simp

@[simp] theorem State.doNeighbours_keeps (x : Sub) (l : List NeighbourItem) (s : State) :
    (s.doNeighbours x l).2.2.pending = s.pending ∧ (s.doNeighbours x l).2.2.resetHeld = s.resetHeld ∧
    (s.doNeighbours x l).2.2.pins = s.pins ∧ (s.doNeighbours x l).2.2.clock = s.clock ∧ (s.doNeighbours x l).2.2.rpt = s.rpt ∧
    (s.doNeighbours x l).2.2.dlc = s.dlc ∧ (s.doNeighbours x l).2.2.sge = s.sge ∧ (s.doNeighbours x l).2.2.sbs = s.sbs ∧
    (s.doNeighbours x l).2.2.psc = s.psc ∧ (s.doNeighbours x l).2.2.cal = s.cal ∧ (s.doNeighbours x l).2.2.vcp = s.vcp ∧
    (s.doNeighbours x l).2.2.txt = s.txt ∧ (s.doNeighbours x l).2.2.hlc = s.hlc := by
  unfold State.doNeighbours; (repeat' split) <;> simp

@[simp] theorem State.doMobility_keeps (x : Sub) (p : MobParams) (s : State) :
    (s.doMobility x p).2.2.pending = s.pending ∧ (s.doMobility x p).2.2.resetHeld = s.resetHeld ∧
    (s.doMobility x p).2.2.pins = s.pins ∧ (s.doMobility x p).2.2.clock = s.clock ∧ (s.doMobility x p).2.2.rpt = s.rpt ∧
    (s.doMobility x p).2.2.dlc = s.dlc ∧ (s.doMobility x p).2.2.sge = s.sge ∧ (s.doMobility x p).2.2.sbs = s.sbs ∧
    (s.doMobility x p).2.2.cal = s.cal ∧ (s.doMobility x p).2.2.vcp = s.vcp ∧ (s.doMobility x p).2.2.txt = s.txt ∧
    (s.doMobility x p).2.2.hlc = s.hlc := by
  unfold State.doMobility; dsimp only; (repeat' split) <;> simp

@[simp] theorem State.doRoutes_keeps (l : List (Nat × RouteAction × RouteAction)) (s : State) :
    (s.doRoutes l).2.2.pending = s.pending ∧ (s.doRoutes l).2.2.resetHeld = s.resetHeld ∧ (s.doRoutes l).2.2.pins = s.pins ∧
    (s.doRoutes l).2.2.clock = s.clock ∧ (s.doRoutes l).2.2.rpt = s.rpt ∧ (s.doRoutes l).2.2.rta = s.rta ∧
    (s.doRoutes l).2.2.sge = s.sge ∧ (s.doRoutes l).2.2.sbs = s.sbs ∧ (s.doRoutes l).2.2.psc = s.psc ∧
    (s.doRoutes l).2.2.mob = s.mob ∧ (s.doRoutes l).2.2.cal = s.cal ∧ (s.doRoutes l).2.2.vcp = s.vcp ∧
    (s.doRoutes l).2.2.txt = s.txt ∧ (s.doRoutes l).2.2.hlc = s.hlc := by
  unfold State.doRoutes; (repeat' split) <;> simp

@[simp] theorem State.doArbitration_keeps (v : List Policy × Bool × Bool) (s : State) :
    (s.doArbitration v).2.2.pending = s.pending ∧ (s.doArbitration v).2.2.resetHeld = s.resetHeld ∧
    (s.doArbitration v).2.2.pins = s.pins ∧ (s.doArbitration v).2.2.clock = s.clock ∧ (s.doArbitration v).2.2.rpt = s.rpt ∧
    (s.doArbitration v).2.2.dlc = s.dlc ∧ (s.doArbitration v).2.2.sge = s.sge ∧ (s.doArbitration v).2.2.sbs = s.sbs ∧
    (s.doArbitration v).2.2.psc = s.psc ∧ (s.doArbitration v).2.2.mob = s.mob ∧ (s.doArbitration v).2.2.cal = s.cal ∧
    (s.doArbitration v).2.2.vcp = s.vcp ∧ (s.doArbitration v).2.2.txt = s.txt ∧ (s.doArbitration v).2.2.hlc = s.hlc := by
  simp [State.doArbitration]

@[simp] theorem State.doSleep_keeps (v : SleepValues) (s : State) :
    (s.doSleep v).2.2.pending = s.pending ∧ (s.doSleep v).2.2.resetHeld = s.resetHeld ∧ (s.doSleep v).2.2.pins = s.pins ∧
    (s.doSleep v).2.2.clock = s.clock ∧ (s.doSleep v).2.2.rpt = s.rpt ∧ (s.doSleep v).2.2.dlc = s.dlc ∧
    (s.doSleep v).2.2.sge = s.sge ∧ (s.doSleep v).2.2.sbs = s.sbs ∧ (s.doSleep v).2.2.mob = s.mob ∧
    (s.doSleep v).2.2.cal = s.cal ∧ (s.doSleep v).2.2.vcp = s.vcp ∧ (s.doSleep v).2.2.txt = s.txt ∧
    (s.doSleep v).2.2.hlc = s.hlc := by
  unfold State.doSleep; split <;> simp

@[simp] theorem State.doRadioHold_keeps (s : State) :
    (s.doRadioHold).2.2.pending = s.pending ∧ (s.doRadioHold).2.2.resetHeld = s.resetHeld ∧ (s.doRadioHold).2.2.pins = s.pins ∧
    (s.doRadioHold).2.2.clock = s.clock ∧ (s.doRadioHold).2.2.rpt = s.rpt ∧ (s.doRadioHold).2.2.dlc = s.dlc ∧
    (s.doRadioHold).2.2.sge = s.sge ∧ (s.doRadioHold).2.2.sbs = s.sbs ∧ (s.doRadioHold).2.2.psc = s.psc ∧
    (s.doRadioHold).2.2.mob = s.mob ∧ (s.doRadioHold).2.2.cal = s.cal ∧ (s.doRadioHold).2.2.vcp = s.vcp ∧
    (s.doRadioHold).2.2.txt = s.txt ∧ (s.doRadioHold).2.2.hlc = s.hlc := by
  unfold State.doRadioHold; split <;> simp

@[simp] theorem State.doRadioRelease_keeps (s : State) :
    (s.doRadioRelease).2.2.pending = s.pending ∧ (s.doRadioRelease).2.2.resetHeld = s.resetHeld ∧
    (s.doRadioRelease).2.2.pins = s.pins ∧ (s.doRadioRelease).2.2.clock = s.clock ∧ (s.doRadioRelease).2.2.rpt = s.rpt ∧
    (s.doRadioRelease).2.2.dlc = s.dlc ∧ (s.doRadioRelease).2.2.sge = s.sge ∧ (s.doRadioRelease).2.2.sbs = s.sbs ∧
    (s.doRadioRelease).2.2.psc = s.psc ∧ (s.doRadioRelease).2.2.mob = s.mob ∧ (s.doRadioRelease).2.2.cal = s.cal ∧
    (s.doRadioRelease).2.2.vcp = s.vcp ∧ (s.doRadioRelease).2.2.txt = s.txt ∧ (s.doRadioRelease).2.2.hlc = s.hlc := by
  unfold State.doRadioRelease; split <;> simp

@[simp] theorem State.dialOn_keeps (x : Sub) (i : Nat) (d : Digits) (s : State) :
    (s.dialOn x i d).2.2.pending = s.pending ∧ (s.dialOn x i d).2.2.resetHeld = s.resetHeld ∧ (s.dialOn x i d).2.2.pins = s.pins ∧
    (s.dialOn x i d).2.2.clock = s.clock := by
  unfold State.dialOn; (repeat' (first | split | (dsimp only; split))) <;>
    (try (have h := congrArg Prod.snd ‹_ = (_, _)›; dsimp only at h; subst h)) <;> simp

@[simp] theorem State.doDial_keeps (x : Sub) (d : Digits) (s : State) :
    (s.doDial x d).2.2.pending = s.pending ∧ (s.doDial x d).2.2.resetHeld = s.resetHeld ∧ (s.doDial x d).2.2.pins = s.pins ∧
    (s.doDial x d).2.2.clock = s.clock := by
  unfold State.doDial; (repeat' split) <;> simp

@[simp] theorem State.doReject_keeps (j : Nat) (s : State) :
    (s.doReject j).2.2.pending = s.pending ∧ (s.doReject j).2.2.resetHeld = s.resetHeld ∧ (s.doReject j).2.2.pins = s.pins ∧
    (s.doReject j).2.2.clock = s.clock := by
  unfold State.doReject; (repeat' split) <;> simp

@[simp] theorem State.doHangUp_keeps (j : Nat) (s : State) :
    (s.doHangUp j).2.2.pending = s.pending ∧ (s.doHangUp j).2.2.resetHeld = s.resetHeld ∧ (s.doHangUp j).2.2.pins = s.pins ∧
    (s.doHangUp j).2.2.clock = s.clock := by
  unfold State.doHangUp; (repeat' split) <;> simp

@[simp] theorem State.startText_keeps (x : Sub) (d : Digits) (l : List (List Byte)) (s : State) :
    (s.startText x d l).2.2.pending = s.pending ∧ (s.startText x d l).2.2.resetHeld = s.resetHeld ∧
    (s.startText x d l).2.2.pins = s.pins ∧ (s.startText x d l).2.2.clock = s.clock := by
  unfold State.startText; (repeat' (first | split | (dsimp only; split))) <;>
    (try (have h := congrArg Prod.snd ‹_ = (_, _)›; dsimp only at h; subst h)) <;> simp

@[simp] theorem State.doSendText_keeps (x : Sub) (v : Digits × List (List Byte)) (s : State) :
    (s.doSendText x v).2.2.pending = s.pending ∧ (s.doSendText x v).2.2.resetHeld = s.resetHeld ∧
    (s.doSendText x v).2.2.pins = s.pins ∧ (s.doSendText x v).2.2.clock = s.clock := by
  unfold State.doSendText; (repeat' split) <;> simp

@[simp] theorem State.doDoze_keeps (f : HostFrame) (body : List Byte) (s : State) :
    (s.doDoze f body).pending = s.pending ∧ (s.doDoze f body).resetHeld = s.resetHeld ∧ (s.doDoze f body).pins = s.pins ∧
    (s.doDoze f body).clock = s.clock ∧ (s.doDoze f body).rpt = s.rpt ∧ (s.doDoze f body).rta = s.rta ∧
    (s.doDoze f body).dlc = s.dlc ∧ (s.doDoze f body).sge = s.sge ∧ (s.doDoze f body).sbs = s.sbs ∧
    (s.doDoze f body).psc = s.psc ∧ (s.doDoze f body).mob = s.mob ∧ (s.doDoze f body).cal = s.cal ∧
    (s.doDoze f body).vcp = s.vcp := by
  unfold State.doDoze; (repeat' split) <;> simp

@[simp] theorem State.answerQuery_keeps (name : RecordName) (x : Sub) (s : State) :
    (s.answerQuery name x).2.2.pending = s.pending ∧ (s.answerQuery name x).2.2.resetHeld = s.resetHeld ∧
    (s.answerQuery name x).2.2.pins = s.pins ∧ (s.answerQuery name x).2.2.clock = s.clock ∧
    (s.answerQuery name x).2.2.rpt = s.rpt ∧ (s.answerQuery name x).2.2.rta = s.rta ∧ (s.answerQuery name x).2.2.dlc = s.dlc ∧
    (s.answerQuery name x).2.2.sge = s.sge ∧ (s.answerQuery name x).2.2.sbs = s.sbs ∧ (s.answerQuery name x).2.2.psc = s.psc ∧
    (s.answerQuery name x).2.2.mob = s.mob ∧ (s.answerQuery name x).2.2.cal = s.cal ∧ (s.answerQuery name x).2.2.vcp = s.vcp ∧
    (s.answerQuery name x).2.2.txt = s.txt := by
  unfold State.answerQuery; split <;> simp

@[simp] theorem State.doQuery_keeps (f : HostFrame) (body : List Byte) (s : State) :
    (s.doQuery f body).2.2.pending = s.pending ∧ (s.doQuery f body).2.2.resetHeld = s.resetHeld ∧
    (s.doQuery f body).2.2.pins = s.pins ∧ (s.doQuery f body).2.2.clock = s.clock ∧ (s.doQuery f body).2.2.rpt = s.rpt ∧
    (s.doQuery f body).2.2.rta = s.rta ∧ (s.doQuery f body).2.2.dlc = s.dlc ∧ (s.doQuery f body).2.2.sge = s.sge ∧
    (s.doQuery f body).2.2.sbs = s.sbs ∧ (s.doQuery f body).2.2.psc = s.psc ∧ (s.doQuery f body).2.2.mob = s.mob ∧
    (s.doQuery f body).2.2.cal = s.cal ∧ (s.doQuery f body).2.2.vcp = s.vcp ∧ (s.doQuery f body).2.2.txt = s.txt := by
  unfold State.doQuery; (repeat' split) <;> simp

@[simp] theorem State.sendPass_keeps (x : Sub) (code : Nat) (expect : Bool) (payload : List Byte) (s : State) :
    (s.sendPass x code expect payload).2.2.pending = s.pending ∧ (s.sendPass x code expect payload).2.2.resetHeld = s.resetHeld ∧
    (s.sendPass x code expect payload).2.2.pins = s.pins ∧ (s.sendPass x code expect payload).2.2.clock = s.clock := by
  unfold State.sendPass; (repeat' (first | split | (dsimp only; split))) <;>
    (try (have h := congrArg Prod.snd ‹_ = (_, _)›; dsimp only at h; subst h)) <;> simp

@[simp] theorem State.doUpSignal_keeps (f : HostFrame) (s : State) :
    (s.doUpSignal f).2.2.pending = s.pending ∧ (s.doUpSignal f).2.2.resetHeld = s.resetHeld ∧ (s.doUpSignal f).2.2.pins = s.pins ∧
    (s.doUpSignal f).2.2.clock = s.clock := by
  unfold State.doUpSignal; (repeat' split) <;> simp

@[simp] theorem State.actUpSignal_keeps (s : State) :
    s.actUpSignal.pending = s.pending ∧ s.actUpSignal.resetHeld = s.resetHeld ∧ s.actUpSignal.pins = s.pins ∧
    s.actUpSignal.clock = s.clock := by
  unfold State.actUpSignal; (repeat' split) <;> simp

@[simp] theorem State.actUpSpeech_keeps (s : State) :
    s.actUpSpeech.pending = s.pending ∧ s.actUpSpeech.resetHeld = s.resetHeld ∧ s.actUpSpeech.pins = s.pins ∧
    s.actUpSpeech.clock = s.clock ∧ s.actUpSpeech.rpt = s.rpt ∧ s.actUpSpeech.rta = s.rta ∧ s.actUpSpeech.dlc = s.dlc ∧
    s.actUpSpeech.sge = s.sge ∧ s.actUpSpeech.sbs = s.sbs ∧ s.actUpSpeech.mob = s.mob ∧ s.actUpSpeech.cal = s.cal ∧
    s.actUpSpeech.psc.per = s.psc.per ∧ s.actUpSpeech.psc.settleS = s.psc.settleS := by
  unfold State.actUpSpeech; (repeat' split) <;> simp

end Sys2Proof.Machine
end

