-- ==== Sys2Proof/Laws/Ops.lean ====
section
/-! SUPPORT. What the shared operations do: counts, tables, the queues, placing claims, offering messages, and what ends every step. -/

namespace Sys2Proof.Machine

/-! ### Counts and tables -/

theorem satInc_le (max n : Nat) : satInc max n ≤ max := by unfold satInc; split <;> omega

theorem satInc_of_lt {max n : Nat} (h : n < max) : satInc max n = n + 1 := by simp [satInc, h]

theorem satInc_of_ge {max n : Nat} (h : max ≤ n) : satInc max n = max := by simp [satInc, Nat.not_lt.2 h]

theorem padTable_length {α : Type} (n : Nat) (l : List α) : (padTable n l).length = n := by simp [padTable]

theorem entryAt_padTable {α : Type} (n : Nat) (l : List α) (h : l.length ≤ n) (i : Nat) : entryAt (padTable n l) i = l[i]? := by
  unfold entryAt padTable
  rw [List.getElem?_take]
  by_cases hi : i < l.length
  · have : i < n := by omega
    simp [List.getElem?_append, hi, this]
  · rw [List.getElem?_append_right (by simpa using hi)]
    simp only [List.length_map, List.getElem?_replicate, List.getElem?_eq_none (Nat.not_lt.1 hi)]
    (repeat' split) <;> rfl

theorem entryAt_set_same {α : Type} (l : List (Option α)) (i : Nat) (v : Option α) (h : i < l.length) :
    entryAt (l.set i v) i = v := by simp [entryAt, h]

theorem entryAt_set_other {α : Type} (l : List (Option α)) (i j : Nat) (v : Option α) (h : i ≠ j) :
    entryAt (l.set i v) j = entryAt l j := by simp [entryAt, h]

theorem entryAt_set_none {α : Type} (l : List (Option α)) (i : Nat) : entryAt (l.set i none) i = none := by
  simp only [entryAt, List.getElem?_set]; (repeat' split) <;> simp_all

theorem lt_of_entryAt {α : Type} {l : List (Option α)} {i : Nat} {v : α} (h : entryAt l i = some v) : i < l.length := by
  by_contra hn
  simp [entryAt, List.getElem?_eq_none (Nat.not_lt.1 hn)] at h

theorem lowestFree_some {α : Type} {l : List (Option α)} {i : Nat} (h : lowestFree l = some i) :
    i < l.length ∧ entryAt l i = none := by
  unfold lowestFree at h
  obtain ⟨hi, hp, _⟩ := List.findIdx?_eq_some_iff_getElem.1 h
  refine ⟨hi, ?_⟩
  simpa [entryAt, hi] using hp

theorem lowestFree_none {α : Type} {l : List (Option α)} (h : lowestFree l = none) : ∀ e ∈ l, e ≠ none := by
  intro e he hn
  subst hn
  simpa using List.findIdx?_eq_none_iff.1 h _ he

theorem mem_takenFrom {α : Type} (l : List (Option α)) (n i : Nat) (v : α) :
    (i, v) ∈ takenFrom n l ↔ n ≤ i ∧ l[i - n]? = some (some v) := by
  induction l generalizing n with
  | nil => simp [takenFrom]
  | cons e l ih =>
    have hl : l[i - (n + 1)]? = (e :: l)[i - n]? ∨ i ≤ n := by
      by_cases h : i ≤ n
      · exact .inr h
      · left
        have : i - n = (i - (n + 1)) + 1 := by omega
        rw [this, List.getElem?_cons_succ]
    cases e with
    | none =>
      rw [takenFrom, ih]
      constructor
      · rintro ⟨h1, h2⟩; rcases hl with hl | hl
        · exact ⟨by omega, hl ▸ h2⟩
        · omega
      · rintro ⟨h1, h2⟩; rcases hl with hl | hl
        · by_cases h : i = n
          · subst h; simp at h2
          · exact ⟨by omega, hl ▸ h2⟩
        · have : i - n = 0 := by omega
          rw [this] at h2; simp at h2
    | some w =>
      rw [takenFrom, List.mem_cons, ih]
      constructor
      · rintro (h | ⟨h1, h2⟩)
        · cases h; simp
        · rcases hl with hl | hl
          · exact ⟨by omega, hl ▸ h2⟩
          · omega
      · rintro ⟨h1, h2⟩
        by_cases h : i = n
        · subst h; simp at h2; left; rw [h2]
        · right; rcases hl with hl | hl
          · exact ⟨by omega, hl ▸ h2⟩
          · omega

/-- The taken entries of a table are its present entries, each with its index. -/
theorem mem_taken {α : Type} (l : List (Option α)) (i : Nat) (v : α) : (i, v) ∈ taken l ↔ entryAt l i = some v := by
  rw [taken, mem_takenFrom]
  simp only [Nat.zero_le, true_and, Nat.sub_zero, entryAt]
  cases l[i]? with
  | none => simp
  | some e => simp

theorem insertBy_perm {α : Type} (before : α → α → Bool) (x : α) (l : List α) : (insertBy before x l).Perm (x :: l) := by
  induction l with
  | nil => exact .refl _
  | cons y l ih =>
    unfold insertBy; split
    · exact .refl _
    · exact (ih.cons y).trans (.swap x y l)

theorem insertBy_length {α : Type} (before : α → α → Bool) (x : α) (l : List α) : (insertBy before x l).length = l.length + 1 := by
  simpa using (insertBy_perm before x l).length_eq

theorem sortBy_perm {α : Type} (before : α → α → Bool) (l : List α) : (sortBy before l).Perm l := by
  have key : ∀ (l acc : List α), (l.foldl (fun acc x => insertBy before x acc) acc).Perm (acc ++ l) := by
    intro l; induction l with
    | nil => intro acc; simp
    | cons x l ih =>
      intro acc
      refine (ih _).trans ?_
      refine ((insertBy_perm before x acc).append_right l).trans ?_
      simpa using (List.perm_middle (a := x) (l₁ := acc) (l₂ := l)).symm
  simpa [sortBy] using key l []

/-! ### Levels -/

theorem clampLevel_range (m : Int) : -280 ≤ clampLevel m ∧ clampLevel m ≤ -60 := by
  unfold clampLevel; split
  · omega
  · split <;> omega

/-! ### The host-bound queue and the results -/

/-- An offered entry joins the tail, or is lost and counted (R168). -/
theorem State.offerEntry_spec (e : HostEntry) (s : State) :
    (s.hlc.queue.length < 32 ∧ (s.offerEntry e).hlc = { s.hlc with queue := s.hlc.queue ++ [e] }) ∨
      (32 ≤ s.hlc.queue.length ∧ (s.offerEntry e).hlc = { s.hlc with
        lostReports := satInc 255 s.hlc.lostReports, lostWake := s.hlc.lostWake || (e.wake && s.hlc.host == .dozing) }) := by
  by_cases h : s.hlc.queue.length < 32
  · left; exact ⟨h, by simp [State.offerEntry, Config.hostDepth, h]⟩
  · right; exact ⟨by omega, by simp [State.offerEntry, Config.hostDepth, h]⟩

@[simp] theorem State.pushResult_hlc (r : ResultFrame) (s : State) :
    (s.pushResult r).hlc = { s.hlc with results := s.hlc.results ++ [r] } := rfl

@[simp] theorem State.reply_hlc (f : HostFrame) (request : Byte) (code : ResultCode) (data : List Byte) (s : State) :
    (s.reply f request code data).hlc = { s.hlc with results := s.hlc.results ++ [f.result request code data] } := rfl

/-! ### Claims -/

/-- What `claimOf` finds is in the table. -/
theorem State.claimOf_some {s : State} {x : Sub} {k : ClaimKind} {e : Nat × Claim} (h : s.claimOf x k = some e) :
    entryAt s.rta.claims e.1 = some e.2 ∧ e.2.sub = x ∧ e.2.kind = k := by
  have hm := List.mem_of_find?_eq_some h
  have hp := List.find?_some h
  refine ⟨(mem_taken ..).1 hm, ?_⟩
  simpa [Claim.isFor] using hp

theorem State.claimOf_none {s : State} {x : Sub} {k : ClaimKind} (h : s.claimOf x k = none) (i : Nat) (c : Claim)
    (hc : entryAt s.rta.claims i = some c) : ¬ (c.sub = x ∧ c.kind = k) := by
  have := List.find?_eq_none.1 h (i, c) ((mem_taken ..).2 hc)
  simpa [Claim.isFor] using this

/-- RTA refuses a placement only for want of a free entry (R36). -/
theorem State.place_refused (x : Sub) (k : ClaimKind) (w : Window) (s : State) :
    (s.place x k w).1 = false ↔ s.claimOf x k = none ∧ lowestFree s.rta.claims = none := by
  unfold State.place; dsimp only; split
  · simp_all
  · split <;> simp_all

/-- A refused placement changes nothing (R36). -/
theorem State.place_refused_eq (x : Sub) (k : ClaimKind) (w : Window) (s : State) (h : (s.place x k w).1 = false) :
    (s.place x k w).2 = s := by
  obtain ⟨h1, h2⟩ := (State.place_refused x k w s).1 h
  simp [State.place, h1, h2]

/-! ### The order of placements -/

/-- Outside a step that a frame boundary brings, a placement is taken at once. -/
theorem State.ask_now {s : State} (h : s.rta.asked = none) (x : Sub) (k : ClaimKind) (now : State → State) : s.ask x k now = now s := by
  simp [State.ask, h]

/-- Within such a step it is asked for once, and nothing else happens yet. -/
theorem State.ask_later {s : State} {l : List (ClaimKind × Sub)} (h : s.rta.asked = some l) (x : Sub) (k : ClaimKind)
    (now : State → State) :
    s.ask x k now = if l.contains (k, x) then s else s.setAsked (some (l ++ [(k, x)])) := by
  simp only [State.ask, h]; split <;> rfl

/-- Where nothing is asked for, no turn takes anything, a refused placement's neither. -/
theorem State.takeTurn_idle {s : State} (h : s.rta.asked = some []) (e : ClaimKind × Sub) : s.takeTurn e = s := by
  simp [State.takeTurn, State.hasAsked, h]

theorem State.takeTurns_idle {s : State} (h : s.rta.asked = some []) (l : List (ClaimKind × Sub)) : l.foldl State.takeTurn s = s := by
  induction l with
  | nil => rfl
  | cons e l ih => rw [List.foldl_cons, State.takeTurn_idle h, ih]

/-- A step whose action asks for nothing is its action alone. -/
theorem State.inRankOrder_idle (act : State → State) (s : State) (h : (act (s.setAsked (some []))).rta.asked = some []) :
    s.inRankOrder act = (act (s.setAsked (some []))).setAsked s.rta.asked := by
  simp only [State.inRankOrder, State.takeTurns_idle h]

/-- A step whose action does nothing does nothing. -/
theorem State.inRankOrder_same (act : State → State) (s : State) (h : act (s.setAsked (some [])) = s.setAsked (some [])) :
    s.inRankOrder act = s := by
  rw [State.inRankOrder_idle act s (by rw [h]; rfl), h]; rfl

/-! ### Offers -/

/-- SGE refuses an offer with nothing changed, or takes it (R5, R9). -/
theorem State.offer_spec (x : Sub) (o : Offer) (s : State) :
    (s.takesOffer x o = false ∧ s.offer x o = (none, s)) ∨ (s.takesOffer x o = true ∧ (s.offer x o).1.isSome = true) := by
  cases h : s.takesOffer x o
  · left; simp [State.offer, h]
  · right; simp only [State.offer, h, Bool.not_true, Bool.false_eq_true, if_false, true_and]
    split <;> rfl

/-- An offer without a transaction leaves the table alone (R9). -/
theorem State.offerPlain_txns (x : Sub) (owner : Option Owner) (echo : Ident) (body : UpBody) (s : State) :
    (s.offerPlain x owner echo body).sge.txns = s.sge.txns := by
  simp only [State.offerPlain, State.offer, State.enqueue]
  (repeat' split) <;> simp_all

/-- A message joins the tail of the queue, or the holds when the queue is full (R9). -/
theorem State.enqueue_spec (x : Sub) (m : Msg) (s : State) :
    (s.queueFull x = false ∧ (s.enqueue x m).sge = { s.sge with queues := s.sge.queues.upd x (· ++ [{ m with wait := 0 }]) }) ∨
      (s.queueFull x = true ∧ (s.enqueue x m).sge = { s.sge with holds := s.sge.holds.upd x (· ++ [m]) }) := by
  cases h : s.queueFull x
  · left; simp [State.enqueue, h]
  · right; simp [State.enqueue, h]

/-! ### What ends every step -/

theorem sameLink_refl (h : Hlc) : sameLink h h := ⟨rfl, rfl, rfl, rfl, rfl, rfl, rfl, rfl, rfl⟩

theorem sameLink_trans {h k l : Hlc} (p : sameLink h k) (q : sameLink k l) : sameLink h l := by
  obtain ⟨a1, a2, a3, a4, a5, a6, a7, a8, a9⟩ := p
  obtain ⟨b1, b2, b3, b4, b5, b6, b7, b8, b9⟩ := q
  exact ⟨b1.trans a1, b2.trans a2, b3.trans a3, b4.trans a4, b5.trans a5, b6.trans a6, b7.trans a7, b8.trans a8, b9.trans a9⟩

theorem State.chooseOutbound_sameLink (s : State) : sameLink s.hlc s.chooseOutbound.hlc := by
  unfold State.chooseOutbound; (repeat' split) <;> exact ⟨rfl, rfl, rfl, rfl, rfl, rfl, rfl, rfl, rfl⟩

theorem State.agrees_refl (s : State) : s.agrees s :=
  ⟨⟨rfl, rfl, rfl, rfl, rfl, rfl, rfl, rfl, rfl, rfl, rfl, rfl, rfl, rfl, sameLink_refl _⟩, rfl⟩

theorem State.evaluate_agrees (s : State) : s.agreesButSleep s.evaluate := by
  simp [State.agreesButSleep, sameLink_refl]

/-- What ends a step, where no sleep evaluation falls due in it. -/
theorem State.finish_eq (before after : State) (ha : enteredCamped before after .a = false) (hb : enteredCamped before after .b = false) :
    before.finish after = after.chooseOutbound.drivePins := by simp [State.finish, ha, hb]

theorem enteredCamped_of_sbs {before after : State} (h : after.sbs = before.sbs) (x : Sub) : enteredCamped before after x = false := by
  have : after.activity x = before.activity x := by simp [State.activity, State.record, h]
  unfold enteredCamped; rw [this]
  cases before.activity x <;> rfl

/-- The end of a step changes only the power state, the outbound frame begun and the outputs (R80, R167, R169). -/
theorem State.finish_agreesButSleep (before after : State) : after.agreesButSleep (before.finish after) := by
  unfold State.finish
  have key : ∀ t : State, t.agreesButSleep t.chooseOutbound.drivePins := by
    intro t
    have hl := t.chooseOutbound_sameLink
    simp [State.agreesButSleep, hl]
  dsimp only
  split
  · obtain ⟨a1, a2, a3, a4, a5, a6, a7, a8, a9, a10, a11, a12, a13, a14, a15⟩ := after.evaluate_agrees
    obtain ⟨b1, b2, b3, b4, b5, b6, b7, b8, b9, b10, b11, b12, b13, b14, b15⟩ := key after.evaluate
    exact ⟨b1.trans a1, b2.trans a2, b3.trans a3, b4.trans a4, b5.trans a5, b6.trans a6, b7.trans a7, b8.trans a8, b9.trans a9,
      b10.trans a10, b11.trans a11, b12.trans a12, b13.trans a13, b14.trans a14, sameLink_trans a15 b15⟩
  · exact key after

/-- The end of a step whose command left every activity state alone changes only the outbound frame begun and the outputs. -/
theorem State.finish_agrees {before after : State} (h : after.sbs = before.sbs) : after.agrees (before.finish after) := by
  rw [State.finish_eq _ _ (enteredCamped_of_sbs h _) (enteredCamped_of_sbs h _)]
  have hl := after.chooseOutbound_sameLink
  simp [State.agrees, State.agreesButSleep, hl]

/-- Every step leaves the outputs as the state drives them (R169). -/
theorem State.finish_pinsOk (before after : State) : (before.finish after).pinsOk := rfl

/-! ### Acting on a request -/

/-- A request at the head of the hold is acted on by its own row (R163). -/
theorem State.request_asked {s : State} {f : HostFrame} {rest : List HostFrame} {code : Nat} {body : List Byte}
    (act : HostFrame → List Byte → State → State) (h : s.asks f rest (BitVec.ofNat 8 code) body) :
    s.request code act = (act f body s.popInbound).evaluate := by
  obtain ⟨h1, h2, h3, h4, h5⟩ := h
  unfold State.request
  rw [h1]
  have : ¬ (Config.resultDepth ≤ s.resultPlaces) := by simp only [Config.resultDepth]; omega
  simp [h2, h3, h4, this]

/-- A served request is carried out with the host AWAKE and answered at once (R163, R165). -/
theorem State.serve_asked {s : State} {f : HostFrame} {rest : List HostFrame} {code : Nat} {body : List Byte}
    (act : HostFrame → List Byte → State → Answer) (h : s.asks f rest (BitVec.ofNat 8 code) body) :
    s.serve code act =
      ((act f body s.popInbound.hostAwake).2.2.reply f (BitVec.ofNat 8 code) (act f body s.popInbound.hostAwake).1
        (act f body s.popInbound.hostAwake).2.1).evaluate := State.request_asked _ h

/-- Offering held texts does not look at the result queue (R153). -/
theorem State.offerText_pushResult (i : Nat) (r : ResultFrame) (s : State) :
    (s.pushResult r).offerText i = (s.offerText i).pushResult r := by
  have ht : (s.pushResult r).txt = s.txt := rfl
  unfold State.offerText
  rw [ht]
  cases entryAt s.txt.entries i with
  | none => rfl
  | some e =>
    have hm : (s.pushResult r).mayDeliver e = s.mayDeliver e := rfl
    dsimp only
    rw [hm]
    split <;> rfl

theorem State.offerTexts_pushResult (r : ResultFrame) (s : State) : (s.pushResult r).offerTexts = s.offerTexts.pushResult r := by
  have key : ∀ (l : List Nat) (t : State), l.foldl (fun s i => s.offerText i) (t.pushResult r) =
      (l.foldl (fun s i => s.offerText i) t).pushResult r := by
    intro l
    induction l with
    | nil => intro t; rfl
    | cons i l ih => intro t; simp only [List.foldl_cons, State.offerText_pushResult, ih]
  exact key s.txt.completion s

/-- Offering held texts sends nothing but them: the results stay (R153). -/
@[simp] theorem State.offerTexts_results (s : State) : s.offerTexts.hlc.results = s.hlc.results := by
  have one : ∀ (i : Nat) (t : State), (t.offerText i).hlc.results = t.hlc.results := by
    intro i t
    unfold State.offerText
    cases entryAt t.txt.entries i with
    | none => rfl
    | some e => dsimp only; split <;> rfl
  have key : ∀ (l : List Nat) (t : State), (l.foldl (fun s i => s.offerText i) t).hlc.results = t.hlc.results := by
    intro l
    induction l with
    | nil => intro t; rfl
    | cons i l ih => intro t; rw [List.foldl_cons, ih, one]
  exact key s.txt.completion s

/-- The state in which a request is carried out is what `heard` says. -/
theorem State.heard_eq {s : State} {f : HostFrame} {rest : List HostFrame} (h : s.hlc.inbound = f :: rest) :
    s.popInbound.hostAwake = s.heard rest := by
  unfold State.hostAwake State.heard
  have hp : s.popInbound.hlc.host = s.hlc.host := rfl
  rw [hp]
  cases hh : s.hlc.host <;> simp [State.onHlc, State.popInbound, h]

/-- The state in which a request is carried out, once its RESULT alone is added, is what `acted` says. -/
theorem State.acted_eq {s : State} {f : HostFrame} {rest : List HostFrame} (h : s.hlc.inbound = f :: rest) (request : Byte)
    (code : ResultCode) (data : List Byte) :
    s.popInbound.hostAwake.reply f request code data = s.acted rest (f.result request code data) := by
  have hr : (s.heard rest).hlc.results = s.hlc.results := by
    unfold State.heard
    cases s.hlc.host <;> simp
  rw [State.heard_eq h]
  simp [State.acted, State.reply, State.pushResult, State.onHlc, HostFrame.result, hr]

end Sys2Proof.Machine
end

