-- ==== Sys2Proof/Laws/Rows.lean ====
section
/-! SUPPORT. What every row of the table leaves alone: the queue of commands waiting, and, but for the reset rows, the level of the reset input. -/

namespace Sys2Proof.Machine

@[simp] theorem State.finish_keeps (before after : State) :
    (before.finish after).pending = after.pending ∧ (before.finish after).resetHeld = after.resetHeld ∧
    (before.finish after).clock = after.clock ∧ (before.finish after).rpt = after.rpt ∧ (before.finish after).rta = after.rta ∧
    (before.finish after).dlc = after.dlc ∧ (before.finish after).sge = after.sge ∧ (before.finish after).sbs = after.sbs ∧
    (before.finish after).mob = after.mob ∧ (before.finish after).cal = after.cal ∧ (before.finish after).vcp = after.vcp ∧
    (before.finish after).txt = after.txt ∧ (before.finish after).psc.per = after.psc.per ∧
    (before.finish after).psc.settleS = after.psc.settleS := by
  obtain ⟨a1, a2, a3, a4, a5, a6, a7, a8, a9, a10, a11, a12, a13, a14, _⟩ := State.finish_agreesButSleep before after
  exact ⟨a1, a2, a3, a4, a5, a6, a7, a8, a11, a12, a13, a14, a9, a10⟩

@[simp] theorem State.drivePins_idle (s : State) : s.drivePins.drivePins = s.drivePins := rfl

/-- The part that the rows act through keeps the queue of commands and the level of the reset input. -/
def State.sameOutside (s t : State) : Prop := t.pending = s.pending ∧ t.resetHeld = s.resetHeld

theorem State.request_outside (code : Nat) (act : HostFrame → List Byte → State → State)
    (h : ∀ (f : HostFrame) (body : List Byte) (t : State), t.sameOutside (act f body t)) (s : State) : s.sameOutside (s.request code act) := by
  unfold State.sameOutside at *
  unfold State.request
  (repeat' split) <;> simp_all

theorem State.serve_outside (code : Nat) (act : HostFrame → List Byte → State → Answer)
    (h : ∀ (f : HostFrame) (body : List Byte) (t : State), t.sameOutside (act f body t).2.2) (s : State) : s.sameOutside (s.serve code act) := by
  refine State.request_outside code _ (fun f body t => ?_) s
  have := h f body t.hostAwake
  simp_all [State.sameOutside]

theorem withSub_outside {α : Type} (r : Reader α) (act : Sub → α → State → Answer) (h : ∀ (x : Sub) (v : α) (t : State), t.sameOutside (act x v t).2.2)
    (f : HostFrame) (body : List Byte) (t : State) : t.sameOutside (withSub r act f body t).2.2 := by
  unfold withSub; split
  · exact h ..
  · exact ⟨rfl, rfl⟩

theorem withoutSub_outside {α : Type} (r : Reader α) (act : α → State → Answer) (h : ∀ (v : α) (t : State), t.sameOutside (act v t).2.2)
    (f : HostFrame) (body : List Byte) (t : State) : t.sameOutside (withoutSub r act f body t).2.2 := by
  unfold withoutSub; split
  · exact h ..
  · exact ⟨rfl, rfl⟩

theorem State.serveCall_outside {α : Type} (code : Nat) (r : Reader α) (act : HostFrame → α → State → CallAnswer)
    (h : ∀ (f : HostFrame) (v : α) (t : State), t.sameOutside ((act f v t).finish f code)) (s : State) : s.sameOutside (s.serveCall code r act) := by
  refine State.request_outside code _ (fun f body t => ?_) s
  dsimp only; split
  · have := h f ‹_› t.hostAwake
    simp_all [State.sameOutside]
  · simp [State.sameOutside]

theorem State.doAnswer_outside (f : HostFrame) (j : Nat) (t : State) : t.sameOutside ((t.doAnswer f j).finish f 11) := by
  unfold State.doAnswer State.answerByHold State.answerNow
  (repeat' split) <;>
    (try (have h := congrArg Prod.snd ‹_ = (_, _)›; dsimp only at h; subst h)) <;>
    simp [State.sameOutside, CallAnswer.finish, State.recordPending]

theorem State.doHold_outside (f : HostFrame) (t : State) : t.sameOutside ((t.doHold f).finish f 14) := by
  unfold State.doHold
  (repeat' split) <;>
    (try (have h := congrArg Prod.snd ‹_ = (_, _)›; dsimp only at h; subst h)) <;>
    simp [State.sameOutside, CallAnswer.finish, State.recordPending]

theorem State.doResume_outside (f : HostFrame) (t : State) : t.sameOutside ((t.doResume f).finish f 15) := by
  unfold State.doResume
  (repeat' split) <;>
    (try (have h := congrArg Prod.snd ‹_ = (_, _)›; dsimp only at h; subst h)) <;>
    simp [State.sameOutside, CallAnswer.finish, State.recordPending]

/-! ### Row by row -/

/-- A step whose placements are taken in order leaves the waiting commands alone if its action does. -/
theorem State.inRankOrder_outside {act : State → State} (h : ∀ t : State, t.sameOutside (act t)) (s : State) :
    s.sameOutside (s.inRankOrder act) := by
  have k := s.inRankOrder_keeps act
  have h := h (s.setAsked (some []))
  exact ⟨k.1.trans h.1, k.2.1.trans h.2⟩

theorem State.boundary_outside (s : State) : s.sameOutside (s.boundary) := by
  have h := State.inRankOrder_outside (act := State.arbitrate) (fun t => by simp [State.sameOutside])
    s.nextFrame.countTimers.openWindows
  unfold State.boundary; dsimp only; split <;> simp_all [State.sameOutside, State.nextFrame]

theorem State.lightReturn_outside (s : State) : s.sameOutside (s.lightReturn) := by
  unfold State.lightReturn; (repeat' split) <;> simp [State.sameOutside]

theorem State.wakeExpiry_outside (s : State) : s.sameOutside (s.wakeExpiry) := by
  unfold State.wakeExpiry; (repeat' split) <;> simp [State.sameOutside, State.passTicks]

theorem State.settleEnd_outside (s : State) : s.sameOutside (s.settleEnd) := by
  unfold State.settleEnd; (repeat' split) <;> simp [State.sameOutside, State.passTicks]

theorem State.returnExpiry_outside (x : Sub) (s : State) : s.sameOutside (s.returnExpiry x) := by
  unfold State.returnExpiry; (repeat' split) <;> simp [State.sameOutside]

theorem State.answerExpiry_outside (x : Sub) (ident : Ident) (s : State) : s.sameOutside (s.answerExpiry x ident) := by
  unfold State.answerExpiry; (repeat' split) <;> simp [State.sameOutside]

theorem State.waitExpiry_outside (x : Sub) (pos : Nat) (s : State) : s.sameOutside (s.waitExpiry x pos) := by
  unfold State.waitExpiry; (repeat' split) <;> simp [State.sameOutside]

theorem State.idleExpiry_outside (x : Sub) (ident : Ident) (s : State) : s.sameOutside (s.idleExpiry x ident) := by
  unfold State.idleExpiry; (repeat' split) <;> simp [State.sameOutside]

theorem State.noticeExpiry_outside (x : Sub) (s : State) : s.sameOutside (s.noticeExpiry x) := by
  unfold State.noticeExpiry; (repeat' split) <;> simp [State.sameOutside]

theorem State.ringExpiry_outside (i : Nat) (s : State) : s.sameOutside (s.ringExpiry i) := by
  unfold State.ringExpiry; (repeat' split) <;> simp [State.sameOutside]

theorem State.deadlineExpiry_outside (i : Nat) (s : State) : s.sameOutside (s.deadlineExpiry i) := by
  unfold State.deadlineExpiry; (repeat' split) <;> simp [State.sameOutside]

theorem State.orderAck_outside (tag : Ident) (errors : List OrderError) (s : State) : s.sameOutside (s.orderAck tag errors) := by
  unfold State.orderAck; (repeat' split) <;> simp [State.sameOutside]

theorem State.waiterRetry_outside (w : WaitKind) (x : Sub) (s : State) : s.sameOutside (s.waiterRetry w x) := by
  unfold State.waiterRetry; split <;> simp [State.sameOutside]

theorem State.enqueueHeld_outside (x : Sub) (s : State) : s.sameOutside (s.enqueueHeld x) := by
  unfold State.enqueueHeld; (repeat' split) <;> simp [State.sameOutside]

theorem State.updateRetry_outside (x : Sub) (s : State) : s.sameOutside (s.updateRetry x) := by
  exact s.waiterRetry_outside .update x

theorem State.segmentRetry_outside (x : Sub) (s : State) : s.sameOutside (s.segmentRetry x) := by
  exact s.waiterRetry_outside .segment x

theorem State.pagingRetry_outside (x : Sub) (s : State) : s.sameOutside (s.pagingRetry x) := by
  unfold State.pagingRetry; (repeat' split) <;> simp [State.sameOutside]

theorem State.measureRetry_outside (x : Sub) (s : State) : s.sameOutside (s.measureRetry x) := by
  unfold State.measureRetry; (repeat' split) <;> simp [State.sameOutside]

theorem State.searchRetry_outside (x : Sub) (s : State) : s.sameOutside (s.searchRetry x) := by
  unfold State.searchRetry; (repeat' split) <;> simp [State.sameOutside]

theorem State.trafficRetry_outside (x : Sub) (s : State) : s.sameOutside (s.trafficRetry x) := by
  unfold State.trafficRetry; (repeat' split) <;> simp [State.sameOutside]

theorem State.waitingResolved_outside (i : Nat) (s : State) : s.sameOutside (s.waitingResolved i) := by
  unfold State.waitingResolved; (repeat' (first | split | (dsimp only; split))) <;> simp [State.sameOutside]

theorem State.frameStart_outside (s : State) : s.sameOutside (s.frameStart) := by
  unfold State.frameStart; (repeat' split) <;> simp [State.sameOutside]

theorem State.readOnly_outside (s : State) : s.sameOutside (s.readOnly) := by
  unfold State.readOnly; (repeat' split) <;> simp [State.sameOutside]

theorem State.frameReceived_outside (bytes : List Byte) (s : State) : s.sameOutside (s.frameReceived bytes) := by
  unfold State.frameReceived; (repeat' (first | split | (dsimp only; split))) <;> simp [State.sameOutside]

theorem State.outboundSent_outside (s : State) : s.sameOutside (s.outboundSent) := by
  unfold State.outboundSent; (repeat' split) <;> simp [State.sameOutside]

theorem State.transferOver_outside (midFrame : Bool) (s : State) : s.sameOutside (s.transferOver midFrame) := by
  unfold State.transferOver; (repeat' split) <;> simp [State.sameOutside]

theorem State.classify_outside (frame : Frame) (b : BlockKind) (good : Bool) (deliver : Holder → State → State)
    (h : ∀ (g : Holder) (t : State), t.sameOutside (deliver g t)) (s : State) : s.sameOutside (s.classify frame b good deliver) := by
  unfold State.classify; split
  · simp [State.sameOutside]
  · rename_i g _
    have := h g (s.accessNotice g good)
    dsimp only; split <;> simp_all [State.sameOutside]

/-- A row whose work keeps them ends with the queue of commands and the level of the reset input as they were. -/
theorem State.answer_outside {s u t : State} (h : s.sameOutside u) (e : s.answer u = .next t) : s.sameOutside t := by
  cases e
  simpa [State.sameOutside] using h

/-- Every row but the three that concern a reset keeps the queue of commands and the level of the reset input. -/
theorem exec_outside (c : Instr) (s t : State) (ha : c ≠ .resetInputAssert) (hr : c ≠ .resetInputRelease) (hq : c ≠ .reset)
    (e : exec c s = .next t) : s.sameOutside t := by
  cases c
  case resetInputAssert => exact absurd rfl ha
  case resetInputRelease => exact absurd rfl hr
  case reset => exact absurd rfl hq
  case frameBoundary => exact s.answer_outside s.boundary_outside e
  case lightReturn => exact s.answer_outside s.lightReturn_outside e
  case wakeTimerExpiry => exact s.answer_outside s.wakeExpiry_outside e
  case settleCountEnd => exact s.answer_outside s.settleEnd_outside e
  case orderDeadline => exact s.answer_outside (by simp [State.sameOutside]) e
  case textOfferRetry => exact s.answer_outside (by simp [State.sameOutside]) e
  case hostFrameStart => exact s.answer_outside s.frameStart_outside e
  case readOnlyTransfer => exact s.answer_outside s.readOnly_outside e
  case outboundFrameSent => exact s.answer_outside s.outboundSent_outside e
  case upSignal => exact s.answer_outside (by simp [State.sameOutside]) e
  case upSpeech => exact s.answer_outside (by simp [State.sameOutside]) e
  case returnCounterExpiry x => exact s.answer_outside (s.inRankOrder_outside (State.returnExpiry_outside x)) e
  case detachNoticeExpiry x => exact s.answer_outside (s.inRankOrder_outside (State.noticeExpiry_outside x)) e
  case ringTimeout x => exact s.answer_outside (s.inRankOrder_outside (State.ringExpiry_outside x)) e
  case reassemblyDeadline x => exact s.answer_outside (s.deadlineExpiry_outside x) e
  case heldMessageEnqueue x => exact s.answer_outside (s.enqueueHeld_outside x) e
  case pendingUpdateRetry x => exact s.answer_outside (s.updateRetry_outside x) e
  case segmentDueRetry x => exact s.answer_outside (s.segmentRetry_outside x) e
  case pagingPlacementRetry x => exact s.answer_outside (s.pagingRetry_outside x) e
  case measurePlacementRetry x => exact s.answer_outside (s.measureRetry_outside x) e
  case searchPlacementRetry x => exact s.answer_outside (s.searchRetry_outside x) e
  case trafficPlacementRetry x => exact s.answer_outside (s.trafficRetry_outside x) e
  case connectWaitingResolved x => exact s.answer_outside (s.waitingResolved_outside x) e
  case hostFrameReceived x => exact s.answer_outside (s.frameReceived_outside x) e
  case transferEnd x => exact s.answer_outside (s.transferOver_outside x) e
  case answerTimerExpiry x y => exact s.answer_outside (s.inRankOrder_outside (State.answerExpiry_outside x y)) e
  case waitTimerExpiry x y => exact s.answer_outside (s.inRankOrder_outside (State.waitExpiry_outside x y)) e
  case linkIdle x y => exact s.answer_outside (s.inRankOrder_outside (State.idleExpiry_outside x y)) e
  case orderAck x y => exact s.answer_outside (s.orderAck_outside x y) e
  case measurementResult l => exact s.answer_outside (by simp [State.sameOutside]) e
  case pageBlock frame good b => exact s.answer_outside (State.classify_outside _ _ _ _ (fun g t => by simp only [State.sameOutside]; (repeat' split) <;> simp) s) e
  case beaconBlock frame good b => exact s.answer_outside (State.classify_outside _ _ _ _ (fun g t => by simp only [State.sameOutside]; (repeat' split) <;> simp) s) e
  case signalBlock frame good b => exact s.answer_outside (State.classify_outside _ _ _ _ (fun g t => by simp [State.sameOutside]) s) e
  case voiceBlock frame good b => exact s.answer_outside (State.classify_outside _ _ _ _ (fun g t => by simp [State.sameOutside]) s) e
  case configureSubscription => exact s.answer_outside (State.serve_outside _ _ (withSub_outside _ _ (fun x v t => by simp [State.sameOutside])) s) e
  case loadNeighbours => exact s.answer_outside (State.serve_outside _ _ (withSub_outside _ _ (fun x v t => by simp [State.sameOutside])) s) e
  case loadNumbers => exact s.answer_outside (State.serve_outside _ _ (withoutSub_outside _ _ (fun v t => by simp [State.sameOutside])) s) e
  case loadRoutes => exact s.answer_outside (State.serve_outside _ _ (withoutSub_outside _ _ (fun v t => by simp [State.sameOutside])) s) e
  case setMobility => exact s.answer_outside (State.serve_outside _ _ (withSub_outside _ _ (fun x v t => by simp [State.sameOutside])) s) e
  case setArbitration => exact s.answer_outside (State.serve_outside _ _ (withoutSub_outside _ _ (fun v t => by simp [State.sameOutside])) s) e
  case setSleep => exact s.answer_outside (State.serve_outside _ _ (withoutSub_outside _ _ (fun v t => by simp [State.sameOutside])) s) e
  case attach => exact s.answer_outside (State.serve_outside _ _ (withSub_outside _ _ (fun x v t => by simp [State.sameOutside])) s) e
  case detach => exact s.answer_outside (State.serve_outside _ _ (withSub_outside _ _ (fun x v t => by simp [State.sameOutside])) s) e
  case dial => exact s.answer_outside (State.serve_outside _ _ (withSub_outside _ _ (fun x v t => by simp [State.sameOutside])) s) e
  case reject => exact s.answer_outside (State.serve_outside _ _ (withoutSub_outside _ _ (fun v t => by simp [State.sameOutside])) s) e
  case hangUp => exact s.answer_outside (State.serve_outside _ _ (withoutSub_outside _ _ (fun v t => by simp [State.sameOutside])) s) e
  case sendText => exact s.answer_outside (State.serve_outside _ _ (withSub_outside _ _ (fun x v t => by simp [State.sameOutside])) s) e
  case radioHold => exact s.answer_outside (State.serve_outside _ _ (withoutSub_outside _ _ (fun v t => by simp [State.sameOutside])) s) e
  case radioRelease => exact s.answer_outside (State.serve_outside _ _ (withoutSub_outside _ _ (fun v t => by simp [State.sameOutside])) s) e
  case answer => exact s.answer_outside (State.serveCall_outside _ _ _ State.doAnswer_outside s) e
  case hold => exact s.answer_outside (State.serveCall_outside _ _ _ (fun f _ t => State.doHold_outside f t) s) e
  case resume => exact s.answer_outside (State.serveCall_outside _ _ _ (fun f _ t => State.doResume_outside f t) s) e
  case query => exact s.answer_outside (State.serve_outside _ _ (fun f b t => by simp [State.sameOutside]) s) e
  case hostDoze => exact s.answer_outside (State.request_outside _ _ (fun f b t => by simp [State.sameOutside]) s) e

end Sys2Proof.Machine
end

