-- ==== Sys2Proof/WellFormed.lean ====
section
/-! DEFINITION. Which commands the outside can send. The fields of a downlink block may break their limits (R2 says what then happens), so they are not limited here. -/

namespace Sys2Proof

/-- A command is well formed when its lists and places lie within what the spec says can reach the part.
An ill-formed command is still given a meaning by `exec`; this check only says what the transceiver, the host and the part's timers can bring. -/
def Instr.wf : Instr → Bool
  | .resetInputAssert => true
  | .resetInputRelease => true
  | .frameBoundary => true
  | .lightReturn => true
  | .wakeTimerExpiry => true
  | .settleCountEnd => true
  | .orderAck _ errors => errors.length ≤ 4                          -- R50
  | .orderDeadline => true
  | .measurementResult entries => entries.length ≤ 8                 -- R52
  | .returnCounterExpiry _ => true
  | .answerTimerExpiry _ _ => true
  | .waitTimerExpiry _ pos => pos < Config.uplinkDepth               -- R9
  | .linkIdle _ _ => true
  | .detachNoticeExpiry _ => true
  | .ringTimeout ctx => ctx < 3                                      -- R119
  | .reassemblyDeadline idx => idx < Config.textEntries              -- R148
  | .pageBlock _ _ _ => true
  | .beaconBlock _ _ _ => true
  | .signalBlock _ _ _ => true
  | .voiceBlock _ _ _ => true
  | .hostFrameStart => true
  | .readOnlyTransfer => true
  | .hostFrameReceived bytes =>                                      -- R160: a host frame's first byte is not 0x00
      match bytes with
      | [] => false
      | first :: _ => first != 0
  | .outboundFrameSent => true
  | .textOfferRetry => true
  | .heldMessageEnqueue _ => true
  | .pendingUpdateRetry _ => true
  | .segmentDueRetry _ => true
  | .pagingPlacementRetry _ => true
  | .measurePlacementRetry _ => true
  | .searchPlacementRetry _ => true
  | .trafficPlacementRetry _ => true
  | .connectWaitingResolved ctx => ctx < 3                           -- R119
  | .upSignal => true
  | .upSpeech => true
  | .configureSubscription => true
  | .loadNeighbours => true
  | .loadNumbers => true
  | .loadRoutes => true
  | .setMobility => true
  | .setArbitration => true
  | .setSleep => true
  | .attach => true
  | .detach => true
  | .dial => true
  | .answer => true
  | .reject => true
  | .hangUp => true
  | .hold => true
  | .resume => true
  | .sendText => true
  | .hostDoze => true
  | .radioHold => true
  | .radioRelease => true
  | .query => true
  | .reset => true
  | .transferEnd _ => true

end Sys2Proof
end

