-- ==== Sys2Proof/Tests/Slice0.lean ====
section
/-! SUPPORT. The model's own tests: ill-formed commands, worked examples of the spec, and for every statement with hypotheses a state that meets them. -/

namespace Sys2Proof.Tests

open Sys2Proof.Machine

/-! ### Small states -/

/-- The state after a command. -/
def go (c : Instr) (s : State) : State :=
  match exec c s with
  | .next t => t
  | .fault _ => s
  | .refused _ => s

/-- The state after some commands, in order. -/
def runs (l : List Instr) (s : State) : State := l.foldl (fun s c => go c s) s

/-- The state after a boundary at which a receiver frame of this number begins. -/
def atFrame (n : Nat) (s : State) : State := { s with clock := ⟨frameOf n, 0⟩ }

/-- The serving cell of the tests. -/
def cell : Serving := ⟨100, 50, 5, 3, 0, 5, -250, false, some (-3200), 0, true⟩

/-- `x` configured and registered, in an activity state. -/
def inState (x : Sub) (a : Activity) (s : State) : State :=
  s.onRecord x fun r => { r with configured := true, identity := some [1, 2, 3, 4, 0, 8, 1, 5], homeCode := some [2, 9, 1],
                                 trunk := some 0, intlPre := some [0, 0], registration := .registered, lastArea := some 5,
                                 standing := .full, activity := a }

/-- `x` with the serving cell of the tests, in an activity state. -/
def served (x : Sub) (a : Activity) (s : State) : State := (inState x a s).onMobOf x fun m => { m with serving := some cell }

/-- A host frame whose payload begins with a request code. -/
def req (sub code : Byte) (body : List Byte) : HostFrame := ⟨.request, sub, 9, code :: body⟩

/-- This request alone in the inbound hold. -/
def ask (sub code : Byte) (body : List Byte) (s : State) : State := s.onHlc fun h => { h with inbound := [req sub code body] }

/-- The hold count set. -/
def holds (n : Nat) (s : State) : State := s.onRta fun r => { r with holdCount := n }

/-- A's unit of this kind holds the frame in progress. -/
def heldBy (k : ClaimKind) (s : State) : State :=
  s.onRta fun r => { r with holders := some ⟨.a, k, s.clock.now, false⟩ :: r.holders.drop 1 }

/-- A's listen filter OPEN. -/
def opened (s : State) : State := s.setFilter .a true

/-- One transaction at index 0. -/
def withTxn (t : Txn) (s : State) : State := s.onSge fun g => { g with txns := g.txns.set 0 (some t) }

/-- A transaction of A. -/
def txnA (k : TxnKind) (o : Owner) (st : TxnState) (answer idle : Option Nat) : Txn := ⟨.a, k, 4, o, st, answer, idle, none⟩

/-- Messages in A's queue. -/
def queued (l : List Msg) (s : State) : State := s.onSge fun g => { g with queues := ⟨l, g.queues.b⟩ }

/-- A pass-through message that has waited. -/
def passMsg (wait : Nat) : Msg := ⟨some .host, 0, false, .pass 40 [], wait⟩

/-- A unit in progress of A. -/
def unitOf (k : ClaimKind) (s : State) : RadioUnit := ⟨.a, k, s.clock.now, 4, false, [], 50, none, none, false⟩

/-- A's unit of this kind in progress. -/
def withUnit (u : RadioUnit) (s : State) : State := s.onRta fun r => { r with unit := some u }

/-- An outstanding order of tag 3. -/
def orderA (k : ClaimKind) (carries : Bool) : Order := ⟨3, .a, k, k.orderKind, 50, 0, 0, 1, .none, carries⟩

/-- This order outstanding. -/
def ordered (o : Order) (s : State) : State := s.onRpt fun r => { r with order := some o }

/-- A context of A at an index. -/
def withCtx (i : Nat) (c : CallContext) (s : State) : State := s.onCal fun k => { k with contexts := k.contexts.set i c }

/-- A context in a state. -/
def ctxA (st : CallState) : CallContext := { Reset.context with state := st, callRef := 2 }

/-- A code a SIGNAL block carries, with an ident. -/
def sig (code ident : Nat) : SignalBlock := ⟨code, ident, none, none, .raw []⟩

/-- A claim put in the table at an index. -/
def withClaim (i : Nat) (x : Sub) (k : ClaimKind) (w : Window) (s : State) : State :=
  s.onRta fun r => { r with claims := r.claims.set i (some (newClaim x k w)) }

/-- The host DOZING. -/
def dozing (s : State) : State := s.onHlc fun h => { h with host := .dozing }

/-- The host-bound queue holding this many entries. -/
def backlog (n : Nat) (s : State) : State :=
  s.onHlc fun h => { h with queue := List.replicate n ⟨.report (.resetDone .pin), false, false⟩ }

/-! ### Ill-formed commands are refused by the check -/

theorem test_wf_orderAck : (Instr.orderAck 0 (List.replicate 4 .timingLost)).wf = true ∧
    (Instr.orderAck 0 (List.replicate 5 .timingLost)).wf = false := by decide
theorem test_wf_measurementResult : (Instr.measurementResult (List.replicate 8 none)).wf = true ∧
    (Instr.measurementResult (List.replicate 9 none)).wf = false := by decide
theorem test_wf_waitTimerExpiry : (Instr.waitTimerExpiry .a 5).wf = true ∧ (Instr.waitTimerExpiry .a 6).wf = false := by decide
theorem test_wf_ringTimeout : (Instr.ringTimeout 2).wf = true ∧ (Instr.ringTimeout 3).wf = false := by decide
theorem test_wf_reassemblyDeadline : (Instr.reassemblyDeadline 7).wf = true ∧ (Instr.reassemblyDeadline 8).wf = false := by decide
theorem test_wf_hostFrameReceived : (Instr.hostFrameReceived [1]).wf = true ∧ (Instr.hostFrameReceived []).wf = false ∧
    (Instr.hostFrameReceived [0, 1]).wf = false := by decide
theorem test_wf_connectWaitingResolved : (Instr.connectWaitingResolved 2).wf = true ∧
    (Instr.connectWaitingResolved 3).wf = false := by decide
theorem test_decode_gives_none : decodeTableWord 8 1 = none ∧ State.reset.withFetchWord 8 1 = State.reset := ⟨rfl, rfl⟩

/-! ### Worked examples of the spec -/

/-- The record of 02 section 2.8. -/
def recA : SubRecord := { Reset.record with homeCode := some [2, 9, 1], trunk := some 0, intlPre := some [0, 0] }

/-- The number table of 02 section 2.8. -/
def numberList : List NumberEntry :=
  [⟨[2, 9, 1, 4, 1, 2, 3, 4, 5, 6, 7, 8], .exact, .wake, .wake⟩, ⟨[4, 1, 2, 3, 4, 5, 6, 7, 8], .suffix 9, .silent, .quiet⟩,
   ⟨[3, 4, 5, 6, 7, 8], .suffix 6, .reject, .block⟩, ⟨[4, 1, 2, 3, 4, 5, 6, 7, 8], .suffix 9, .reject, .block⟩]

/-- That table loaded. -/
def numbers (s : State) : State := s.onSbs fun b => { b with numbers := padTable 32 numberList }

theorem test_normalise :
    normalise recA .unknown [0, 4, 1, 2, 3, 4, 5, 6, 7, 8] = [2, 9, 1, 4, 1, 2, 3, 4, 5, 6, 7, 8] ∧
    normalise recA .unknown [0, 0, 2, 9, 1, 4, 1, 2, 3, 4, 5, 6, 7, 8] = [2, 9, 1, 4, 1, 2, 3, 4, 5, 6, 7, 8] ∧
    normalise recA .national [4, 1, 2, 3, 4, 5, 6, 7, 8] = [2, 9, 1, 4, 1, 2, 3, 4, 5, 6, 7, 8] ∧
    normalise recA .international [4, 9, 4, 1, 2, 3, 4, 5, 6, 7, 8] = [4, 9, 4, 1, 2, 3, 4, 5, 6, 7, 8] ∧
    normalise recA .unknown [4, 5, 6, 7, 8] = [4, 5, 6, 7, 8] ∧
    normalise recA .national [1, 2, 3, 4, 5, 6, 7, 8, 9, 0, 1, 2, 3, 4, 5, 6, 7, 8, 9, 0] =
      [1, 2, 3, 4, 5, 6, 7, 8, 9, 0, 1, 2, 3, 4, 5, 6, 7, 8, 9, 0] ∧
    normalise recA .unknown [] = [] := by decide +kernel

theorem test_lookup : let s := numbers State.reset
    s.lookup [2, 9, 1, 4, 1, 2, 3, 4, 5, 6, 7, 8] = (some 0, .wake, .wake) ∧
    s.lookup [4, 9, 4, 1, 2, 3, 4, 5, 6, 7, 8] = (some 1, .silent, .quiet) ∧
    s.lookup [2, 9, 1, 9, 9, 9, 3, 4, 5, 6, 7, 8] = (some 2, .reject, .block) ∧
    s.lookup [3, 4, 5, 6, 7, 8] = (some 2, .reject, .block) ∧ s.lookup [4, 5, 6, 7, 8] = (none, .wake, .quiet) ∧
    s.lookup [] = (none, .wake, .quiet) := by decide +kernel

theorem test_filter_updates : filterStep 2 (-2975) (-192) = -3000 ∧ filterStep 2 (-2794) (-168) = -2768 ∧
    filterStep 2 (-2953) (-190) = -2975 ∧ filterStep 2 (-960) (-50) = -960 ∧ filterStep 2 (-4480) (-300) = -4480 ∧
    filterStep 6 (-3201) (-200) = -3201 ∧ filterStep 6 (-3199) (-200) = -3200 := by decide +kernel

theorem test_rounded_levels : rounded (-2840) = -177 ∧ rounded (-3000) = -187 ∧ rounded (-2896) = -181 := by decide

/-- The two schedules of 05 section 5.9. -/
theorem test_schedules :
    let a := scheduleOf { cell with offset := 4000, phase := 3, c := 7 } (some 239089) []
    let b := scheduleOf { cell with offset := 4066, phase := 0, c := 6 } none [1, 2, 3, 4, 0, 8, 1, 5]
    a.o = 113 ∧ a.residue = 17 ∧ a.length = 3 ∧ b.o = 47 ∧ b.residue = 17 ∧ b.length = 2 ∧
    pagingFirst 15 a = 17 ∧ pagingFirst 16 a = 17 ∧ pagingFirst 17 a = 145 ∧ pagingFirst 17 b = 81 := by decide +kernel

theorem test_connected_pattern : (CellCopy.mk 0 4000 3).demands 15 = false ∧ (CellCopy.mk 0 4000 3).demands 14 = true ∧
    (CellCopy.mk 0 4000 3).demands 16 = true ∧ (CellCopy.mk 0 4000 0).demands 14 = false := by decide +kernel

/-- Colliding listens (03 section 3.11): the claims as they stand before frame 16. -/
def colliding : State :=
  withClaim 2 .a .measure ⟨16, 15, 1, 64, false⟩ (withClaim 1 .b .pagingListen ⟨17, 0, 2, 64, false⟩ (withClaim 0 .a .pagingListen ⟨17, 0, 3, 128, false⟩
    (atFrame 15 (served .a .camped (served .b .camped State.reset)))))

theorem test_colliding_listens :
    let s := go .frameBoundary colliding
    let t := runs [.orderAck 0 [], .frameBoundary] s
    s.rta.unit.map (fun u => (u.sub, u.kind)) = some (.a, .measure) ∧ s.rpt.order.map (·.tag) = some 0 ∧
    t.rta.unit.map (fun u => (u.sub, u.kind)) = some (.a, .pagingListen) ∧ t.rta.marks[3]? = some .b ∧
    (t.claimOf .b .pagingListen).map (fun e => (e.2.first, e.2.lastEnd)) = some (81, some .denied) ∧
    (t.claimOf .a .measure).map (fun e => (e.2.first, e.2.lastEnd)) = some (80, some .done) ∧ (t.pscOf .b).denied = 1 := by decide +kernel

/-- Classified blocks (04 section 4.8). -/
def stretch : State :=
  let s := dozing (State.reset.onHlc fun h => { h with queue := [] })
  let s := s.onDlc fun d => { d with routes := (d.routes.set 41 (.route .forward .forwardWake)).set 50 (.route .drop .drop), filters := ⟨false, true⟩ }
  let s := s.onSge fun g => { g with
    txns := (g.txns.set 0 (some ⟨.b, .pass, 4, .host, .sent, some 9, none, none⟩)).set 1 (some ⟨.b, .area, 6, .psc, .sent, some 9, none, none⟩) }
  let sgB (n : Frame) : Option Holder := some ⟨.b, .signalling, n, false⟩
  (atFrame 305 (served .b .attended s)).onRta fun r => { r with
    holders := [sgB 305, sgB 304, none, some ⟨.a, .pagingListen, 301, false⟩, some ⟨.a, .pagingListen, 301, false⟩, sgB 300, none, none] }

theorem test_stretch_of_frames :
    let s := runs [.signalBlock 300 true (sig 40 4), .signalBlock 302 true ⟨2, 0, some 1, none, .none⟩,
      .beaconBlock 303 true ⟨1, 1, 1, 1, 1, 1, 5, -100, false, -100⟩] stretch
    let t := runs [.signalBlock 304 true (sig 41 9), .signalBlock 305 false (sig 50 0), .voiceBlock 296 true ⟨0, []⟩] s
    s.hlc.queue.map (fun e => (e.wake, e.prompt)) = [(false, false)] ∧ s.hasTxn .b .pass = false ∧ s.hasTxn .b .area = true ∧ s.pins.attn = false ∧ s.pins.wake = false ∧
    s.dlc.filtered.a = 1 ∧ s.dlc.unattributed = 1 ∧
    t.hlc.queue.map (fun e => (e.wake, e.prompt)) = [(false, false), (true, true)] ∧ t.pins.attn = true ∧ t.pins.wake = true ∧
    t.dlc.filtered.b = 1 ∧ t.dlc.unattributed = 2 := by decide +kernel

/-- LOAD_ROUTES (04 section 4.9): the result codes of its rows. -/
theorem test_load_routes :
    let code (items : List (Nat × RouteAction × RouteAction)) : ResultCode := (State.reset.doRoutes items).1
    code [(41, .forward, .forwardWake), (50, .drop, .drop)] = .ok ∧ code [(12, .forward, .defer)] = .state ∧
    code [(41, .defer, .defer), (12, .drop, .drop)] = .state ∧ code [(41, .defer, .defer), (41, .drop, .drop)] = .badParam ∧
    code [(64, .drop, .drop), (12, .drop, .drop)] = .badParam ∧ code [] = .badParam := by decide +kernel

/-- A night between listens (05 section 5.10): the wake timer of the evaluation at frame 147, and the depths at 199 and 201. -/
def night (n : Nat) : State :=
  withClaim 3 .b .measure ⟨if n < 201 then 200 else 328, 15, 1, 128, false⟩ (withClaim 2 .a .measure ⟨208, 15, 1, 64, false⟩
    (withClaim 1 .b .pagingListen ⟨209, 0, 2, 64, false⟩ (withClaim 0 .a .pagingListen ⟨273, 0, 3, 128, false⟩ (dozing (atFrame n State.reset)))))

theorem test_night : ((night 147).evaluate.psc.power, (night 147).evaluate.psc.wakeTimer) = (.deep, some 13152) ∧
    (night 199).evaluate.psc.power = .awake ∧
    ((night 201).evaluate.psc.power, (night 201).evaluate.psc.wakeTimer) = (.deep, some 1376) := by decide +kernel

/-- A's connected-cell copy set. -/
def copied (s : State) : State := s.onRta fun r => { r with copies := ⟨some ⟨50, 3, 0⟩, none⟩ }

/-- A page that leads to a link (01 section 1.9). -/
def paged : State :=
  heldBy .pagingListen (copied (atFrame 2002 ((served .a .camped State.reset).onSge fun g => { g with nextIdent := ⟨9, 0⟩ })))

/-- The page of that example, its answer's first order faulting, its second one clean. -/
def linked : State :=
  runs [.pageBlock 2002 true ⟨100, 0, [⟨.permanent [1, 2, 3, 4, 0, 8, 1, 5], .text⟩]⟩, .frameBoundary, .orderAck 0 [.timingLost],
    .frameBoundary, .frameBoundary, .orderAck 1 []] paged

theorem test_page_is_answered :
    let s := go (.pageBlock 2002 true ⟨100, 0, [⟨.permanent [1, 2, 3, 4, 0, 8, 1, 5], .text⟩]⟩) paged
    s.activity .a = .attended ∧ s.txnsOf .a = [(0, ⟨.a, .link, 9, .psc, .queued, none, none, some .text⟩)] ∧
    s.sge.nextIdent.a = 10 ∧ s.hasClaim .a .signalling = true ∧ s.dlc.filters.a = true := by decide +kernel

theorem test_page_leads_to_a_link :
    let t := runs [.frameBoundary, .signalBlock 2006 true ⟨0, 9, none, none, .none⟩, .signalBlock 2006 true ⟨11, 3, none, none, .none⟩] linked
    linked.sge.queues.a = [] ∧ linked.txnsOf .a = [(0, ⟨.a, .link, 9, .psc, .sent, some 64, none, some .text⟩)] ∧
    t.txnsOf .a = [(0, ⟨.a, .link, 9, .psc, .linked, none, some 1024, some .text⟩)] ∧ t.sge.stray = 1 := by decide +kernel

/-! ### Invariants of the statements, checked by evaluation -/

/-- `p` of both subscriptions. -/
def bothSubs (p : Sub → Bool) : Bool := p .a && p .b

theorem bothSubs_of {p : Sub → Bool} (h : bothSubs p = true) (x : Sub) : p x = true := by
  rw [bothSubs, Bool.and_eq_true] at h
  cases x
  · exact h.1
  · exact h.2

/-- `activityOk` as a check. -/
def activityCheck (s : State) : Bool := bothSubs fun x => s.activity x == s.derivedActivity x &&
  ((s.activity x).isCampedState || decide (s.serving x = none ∧ s.hasCtx x = false ∧ s.txnsOf x = [] ∧ s.outgoingOf x = none))

theorem activityOk_of_check {s : State} (h : activityCheck s = true) : s.activityOk := by
  intro x
  have e := bothSubs_of h x
  rw [Bool.and_eq_true, Bool.or_eq_true, beq_iff_eq, decide_eq_true_iff] at e
  refine ⟨e.1, fun hc => ?_⟩
  rcases e.2 with h1 | h1
  · rw [hc] at h1; cases h1
  · exact h1

/-- `callsOk` as a check. -/
def callsCheck (s : State) : Bool :=
  activityCheck s && (bothSubs fun x => s.activity x != .inCall || !(s.activity x.other).isBusy) &&
    (s.cal.contexts.length == 3 && decide s.cal.holdStack.Nodup &&
      ctxIndexes.all (fun i => ctxIndexes.all fun j =>
        ((s.ctx i).state == .idle || (s.ctx j).state == .idle || (s.ctx i).sub == (s.ctx j).sub) &&
          (!(s.ctx i).state.inProgress || !(s.ctx j).state.inProgress || i == j)) &&
      (s.cal.holdStack.all fun i => (s.ctx i).state == .held) &&
      (ctxIndexes.all fun i => (s.ctx i).state != .held || s.cal.holdStack.contains i) &&
      decide (s.cal.holdStack.length + (if (ctxIndexes.any fun i => (s.ctx i).state.moving) = true then 1 else 0) ≤ 2) &&
      (ctxIndexes.all fun i => !(s.ctx i).connectWaiting || (s.ctx i).state == .originating || (s.ctx i).state == .connecting) &&
      ((taken s.sge.txns).all fun e => match e.2.owner with
        | .ctx c => (s.ctx c).state == .idle || (s.ctx c).sub == e.2.sub
        | .txt | .mob | .psc | .host => true)) &&
    (s.hlc.host != .dozing || ctxIndexes.all fun i => !(s.ctx i).state.keepsHost) &&
    (ctxIndexes.all (fun i => (s.ctx i).state != .active || s.vcp.call == some ((s.ctx i).sub, i)) &&
      (s.vcp.playout == .stopped) == ctxIndexes.all fun i => (s.ctx i).state != .active) &&
    bothSubs fun x => (s.mobOf x).returnRec.isNone || ((s.mobOf x).hoState == .access && (s.serving x).isSome)

/-- A property of contexts that an IDLE one has holds of every index, when it holds of the three. -/
theorem everyCtx {s : State} (hl : s.cal.contexts.length = 3) {p : Nat → Prop} (h3 : ∀ i, s.ctx i = Reset.context → p i)
    (h : ∀ i ∈ ctxIndexes, p i) (i : Nat) : p i := by
  by_cases hi : i < 3
  · exact h i (by simp only [ctxIndexes, List.mem_cons, List.not_mem_nil, or_false]; omega)
  · exact h3 i (by rw [State.ctx, List.getElem?_eq_none (by omega)]; rfl)

theorem callsOk_of_check {s : State} (h : callsCheck s = true) : s.callsOk := by
  simp only [callsCheck, Bool.and_eq_true, beq_iff_eq, decide_eq_true_iff] at h
  obtain ⟨⟨⟨⟨⟨ha, hp⟩, hc⟩, hd⟩, hv⟩, hr⟩ := h
  obtain ⟨⟨⟨⟨⟨⟨⟨hl, hn⟩, hij⟩, hs⟩, hh⟩, hm⟩, hw⟩, ht⟩ := hc
  simp only [List.all_eq_true, Bool.and_eq_true, Bool.or_eq_true, beq_iff_eq, Bool.not_eq_true'] at hij
  refine ⟨activityOk_of_check ha, fun x hx => ?_, ⟨hl, fun i j hi hj => ?_, fun i j hi hj => ?_, hn, fun i => ⟨fun hi => ?_, fun hi => ?_⟩, hm,
    fun i hi => ?_, fun i t c hi ho hcs => ?_⟩, fun hz i => ?_, ⟨fun i hi => ?_, ?_⟩, fun x r hx => ?_⟩
  · have e := bothSubs_of hp x
    simpa [hx] using e
  · refine everyCtx hl (p := fun i => (s.ctx i).state ≠ .idle → (s.ctx i).sub = (s.ctx j).sub)
      (fun i e n => absurd (by rw [e]; rfl) n) (fun i hi n => ?_) i hi
    refine everyCtx hl (p := fun j => (s.ctx j).state ≠ .idle → (s.ctx i).sub = (s.ctx j).sub)
      (fun j e n => absurd (by rw [e]; rfl) n) (fun j hj m => ?_) j hj
    rcases (hij i hi j hj).1 with (e | e) | e
    · exact absurd e n
    · exact absurd e m
    · exact e
  · refine everyCtx hl (p := fun i => (s.ctx i).state.inProgress = true → i = j)
      (fun i e n => absurd n (by rw [e]; decide)) (fun i hi n => ?_) i hi
    refine everyCtx hl (p := fun j => (s.ctx j).state.inProgress = true → i = j)
      (fun j e n => absurd n (by rw [e]; decide)) (fun j hj m => ?_) j hj
    rcases (hij i hi j hj).2 with (e | e) | e
    · rw [n] at e; cases e
    · rw [m] at e; cases e
    · exact e
  · exact beq_iff_eq.1 (List.all_eq_true.1 hs i hi)
  · refine everyCtx hl (p := fun i => (s.ctx i).state = .held → i ∈ s.cal.holdStack)
      (fun i e n => absurd n (by rw [e]; decide)) (fun i hi n => ?_) i hi
    have e := List.all_eq_true.1 hh i hi
    simpa [n] using e
  · refine everyCtx hl (p := fun i => (s.ctx i).connectWaiting = true → (s.ctx i).state = .originating ∨ (s.ctx i).state = .connecting)
      (fun i e n => absurd n (by rw [e]; decide)) (fun i hi n => ?_) i hi
    have e := List.all_eq_true.1 hw i hi
    simpa [n] using e
  · have e := List.all_eq_true.1 ht (i, t) ((Machine.mem_taken ..).2 hi)
    simp only [ho, Bool.or_eq_true, beq_iff_eq] at e
    exact e.resolve_left hcs
  · refine everyCtx hl (p := fun i => (s.ctx i).state.keepsHost = false) (fun i e => by rw [e]; rfl) (fun i hi => ?_) i
    rw [hz] at hd
    have e : ∀ j ∈ ctxIndexes, (s.ctx j).state.keepsHost = false := by simpa using hd
    exact e i hi
  · refine everyCtx hl (p := fun i => (s.ctx i).state = .active → s.vcp.call = some ((s.ctx i).sub, i))
      (fun i e n => absurd n (by rw [e]; decide)) (fun i hi n => ?_) i hi
    have e := List.all_eq_true.1 hv.1 i hi
    simpa [n] using e
  · have e := hv.2
    constructor
    · intro hst i
      rw [hst] at e
      have e' : (ctxIndexes.all fun i => (s.ctx i).state != .active) = true := e.symm.trans rfl
      exact everyCtx hl (p := fun i => (s.ctx i).state ≠ .active) (fun i e => by rw [e]; decide)
        (fun i hi => by have := List.all_eq_true.1 e' i hi; simpa using this) i
    · intro hst
      have e' : (ctxIndexes.all fun i => (s.ctx i).state != .active) = true :=
        List.all_eq_true.2 fun i _ => by have := hst i; simpa using this
      rw [e'] at e
      simpa using e
  · have e := bothSubs_of hr x
    rw [hx] at e
    simpa using e

/-- A neighbour that overtakes (06 section 6.7): the state before the first result. -/
def overtaken : State :=
  (served .a .camped State.reset).onMobOf .a fun m => { m with
    serving := some { cell with qmin := -220, fs := some (-2880) }
    neighbours := (m.neighbours.set 3 (some ⟨7, 60, 2, true, .unmeasured, none, 0, 0⟩)).set 7 (some ⟨8, 70, 0, true, .unmeasured, none, 0, 0⟩) }

/-- A DONE result of the serving cell, N3 and N7. -/
def measured (levels : List (Option Int)) (s : State) : State := s.processResult .a (s.mobOf .a).measureCells levels

theorem test_neighbour_overtakes :
    let s2 := measured [some (-188), some (-170), some (-200)] (measured [some (-184), some (-186), some (-200)] overtaken)
    let s4 := measured [some (-190), some (-166), some (-200)] (measured [some (-190), some (-164), some (-200)] s2)
    let s5 := measured [some (-192), some (-168), some (-200)] s4
    (s2.serving .a).bind (·.fs) = some (-2924) ∧ (s2.mobOf .a).ranking = [3, 7] ∧ (s2.mobOf .a).fired = false ∧
    (entryAt (s4.mobOf .a).neighbours 3).map (fun n => (n.f, n.trigger)) = some (some (-2794), 2) ∧ s4.hasClaim .a .beaconRead = false ∧
    (s5.serving .a).bind (·.fs) = some (-3000) ∧ (entryAt (s5.mobOf .a).neighbours 3).map (fun n => (n.f, n.trigger)) = some (some (-2768), 3) ∧
    (s5.mobOf .a).fired = true ∧ (s5.mobOf .a).readPurpose = some (.reselect 3 7) ∧ (s5.pscOf .a).level = some (-187) := by decide +kernel

/-- A serving cell that fades (06 section 6.8). -/
theorem test_serving_cell_fades :
    let start := (served .a .camped State.reset).onMobOf .a fun m => { m with serving := some { cell with qmin := -220, fs := some (-3488) } }
    let s3 := [some (-230), none, some (-216)].foldl (fun s l => measured [l] s) start
    let s6 := [some (-240), none, none].foldl (fun s l => measured [l] s) s3
    (s3.serving .a).map (fun v => (v.fs, v.floorRun)) = some (some (-3516), 0) ∧
    (s6.serving .a).map (fun v => (v.fs, v.floorRun)) = some (some (-3597), 3) ∧
    (measured [some (-226)] s6).activity .a = .noService ∧ (measured [some (-226)] s6).hasClaim .a .search = true := by decide +kernel

/-- A failed access and its return (07 section 7.8). -/
def handedOver : State :=
  let v : Serving := { cell with cellId := 5100, freq := 300, area := 410, offset := 800, phase := 2, c := 7, qmin := -210, fs := some (-3100) }
  let s := (served .a .inCall State.reset).onMobOf .a fun m => { m with
    serving := some v
    neighbours := (m.neighbours.set 0 (some ⟨5107, 310, 0, true, .tracked, some (-2900), 0, 0⟩)).set 1 (some ⟨5120, 320, 0, true, .unmeasured, none, 0, 0⟩) }
  heldBy .traffic (opened (withTxn (txnA .measReport .mob .sent (some 9) none) (withClaim 0 .a .traffic standingWindow (withCtx 0 (ctxA .active)
    (atFrame 1000 s)))))

theorem test_failed_access :
    let s := go (.signalBlock 1000 true ⟨12, 6, none, none, .handover 5107 310 1500 0 22⟩) handedOver
    let t := s.accessEnded .a .done false
    (s.serving .a).map (fun v => (v.cellId, v.fs, v.confirmed)) = some (5107, some (-2900), false) ∧
    (entryAt (s.mobOf .a).neighbours 0).map (fun n => (n.cellId, n.f)) = some (5100, some (-3100)) ∧ (s.mobOf .a).guard = 3 ∧
    (s.claimOf .a .handoverAccess).map (fun e => (e.2.first, e.2.slack, e.2.length)) = some (1001, 8, 4) ∧
    (t.serving .a).map (fun v => (v.cellId, v.floorRun)) = some (5100, 0) ∧
    (entryAt (t.mobOf .a).neighbours 0).map (fun n => (n.cellId, n.f)) = some (5107, some (-2900)) ∧
    (t.mobOf .a).hoState = .returnCheck ∧ (t.mobOf .a).returnCounter = 64 ∧
    t.rta.copies.a = some ⟨300, 800, 2⟩ ∧ t.sge.queues.a.map (fun m => (m.ident, m.body)) = [(6, .hoFailure 22)] := by decide +kernel

/-- Answering a waiting call (08 section 8.10): the answered transactions are taken as SENT. -/
def waitingCall : State :=
  heldBy .traffic (opened (withClaim 0 .a .traffic standingWindow (withCtx 0 (ctxA .active) (served .b .camped (served .a .inCall State.reset)))))

/-- Every transaction SENT. -/
def allSent (s : State) : State := s.onSge fun g => { g with txns := g.txns.map (Option.map fun t => { t with state := .sent }) }

theorem test_answering_a_waiting_call :
    let s1 := go (.signalBlock 0 true ⟨1, 7, some 5, none, .calling .international [4, 9, 1]⟩) waitingCall
    let s2 := go .answer (ask 0xFF 11 [0, 1] s1)
    let s3 := go (.signalBlock 0 true ⟨6, 0, some 2, none, .none⟩) (allSent s2)
    let s4 := go (.signalBlock 0 true ⟨5, 1, some 5, none, .none⟩) (allSent s3)
    s1.cal.contexts.map (·.state) = [.active, .offered, .idle] ∧ (s1.ctx 1).ring = some 3840 ∧ s1.sge.queues.a.map (·.body) = [.alerting 5] ∧
    s2.cal.contexts.map (·.state) = [.holding, .offered, .idle] ∧ (s2.ctx 1).answerPending = true ∧ s2.hlc.results = [] ∧
    s3.cal.contexts.map (·.state) = [.held, .connecting, .idle] ∧ s3.cal.holdStack = [0] ∧
    s3.hlc.results = [⟨9, none, 11, .ok, []⟩] ∧ s4.cal.contexts.map (·.state) = [.held, .active, .idle] ∧ s4.cal.pendingReq = none := by
  decide +kernel

/-- A VOICE frame of the call. -/
def voice (n : Seq) (s : State) : State := s.onVcp (Vcp.goodVoice .a ⟨n, [1]⟩)

/-- What the last playout boundary sent. -/
def spoken (s : State) : Option (Seq × SpeechKind × Nat) := s.hlc.slot.map fun f => (f.seq, f.kind, f.step)

/-- Filling, holes and silence (09 section 9.6). -/
theorem test_playout :
    let s1 := voice 41 (voice 42 (voice 40 (State.reset.voiceStart .a 0)))
    let s2 := (voice 43 s1.playoutBoundary).playoutBoundary
    let s3 := ((voice 45 s2.playoutBoundary).playoutBoundary).playoutBoundary
    let s4 := (((s3.playoutBoundary).playoutBoundary).playoutBoundary).playoutBoundary
    let s5 := s4.playoutBoundary
    let s6 := voice 50 (voice 47 s5)
    s1.vcp.playout = .playing ∧ s1.vcp.position = some 39 ∧ s1.vcp.queue.map (·.seq) = [40, 41, 42] ∧ spoken s2 = some (41, .speech, 0) ∧
    spoken s3 = some (44, .substitute, 1) ∧ spoken s4 = some (48, .substitute, 3) ∧ spoken s5 = some (49, .silence, 0) ∧
    s6.vcp.late = 1 ∧ s6.vcp.lateRun = 0 ∧ spoken s6.playoutBoundary = some (50, .speech, 0) := by decide +kernel

/-- A quiet text for a dozing host with a full queue (10 section 10.9). -/
def quiet : State := numbers (opened (dozing (backlog 32 (served .a .attended State.reset))))

/-- A segment of that text. -/
def seg (total seq : Nat) (s : State) : State :=
  s.textSegment .a 1 ⟨[4, 9, 4, 1, 2, 3, 4, 5, 6, 7, 8], 12, total, seq, [1]⟩

theorem test_quiet_text :
    let s4 := seg 4 3 (seg 3 2 (seg 3 1 (seg 3 2 quiet)))
    let s5 := seg 3 3 s4
    let s6 := (go .radioHold (ask 0xFF 18 [] s5))
    let s7 := runs [.readOnlyTransfer, .outboundFrameSent, .outboundFrameSent] s6
    s4.txt.free = 62 ∧ s4.sge.queues.a.map (·.body) = [.textAck, .textAck, .textAck, .textNak .badState] ∧
    (entryAt s5.txt.entries 0).map (·.state) = some .complete ∧ s5.txt.free = 61 ∧
    (entryAt (go .textOfferRetry s6).txt.entries 0).map (·.state) = some .complete ∧ (go .textOfferRetry s6).hlc.lostReports = 0 ∧
    (entryAt s7.txt.entries 0).map (·.state) = some .queued ∧ s7.hlc.queue.length = 32 ∧
    (s7.freeText 0).txt.free = 64 := by decide +kernel

/-- A steal beside speech (09 section 9.7). -/
theorem test_steal :
    let v : Vcp := { Reset.vcp with playout := .playing, call := some (.a, 0), uplink := [[1], [2]], upSeq := 17 }
    v.steal.uplink = [[2]] ∧ v.steal.upDrop = 1 ∧ v.steal.takeSpeech = (.speech 17 [2], { v.steal with uplink := [], upSeq := 18 }) := by
  decide +kernel

/-! ### States that meet the hypotheses of the statements, clause by clause -/

/-- A ATTENDED, with a link. -/
def linkedA (s : State) : State :=
  (served .a .attended s).onSge fun g => { g with txns := g.txns.set 7 (some { txnA .link .psc .linked none (some 1024) with ident := 12 }) }

/-- A IN_CALL, its context 0 ACTIVE and served by the Voice Path. -/
def talking (s : State) : State :=
  (withCtx 0 (ctxA .active) (served .a .inCall s)).onVcp fun v => { v with playout := .filling, call := some (.a, 0) }

/-- A's queue full and the hold of an owner taken. -/
def crowded (o : Owner) (s : State) : State :=
  (queued (List.replicate 6 (passMsg 0)) s).onSge fun g => { g with holds := ⟨[⟨some o, 0, false, .textAck, 0⟩], []⟩ }

theorem witness_StepRunsFrontCommand :
    ({ State.reset with pending := [.query, .reset] } : State).pending = .query :: [.reset] := rfl

theorem witness_IdleStepIsSleepTick : State.reset.pending = [] ∧ State.reset.clock.tick < 256 ∧
    ({ State.reset with clock := ⟨0, 255⟩ } : State).clock.tick < 256 ∧ ({ State.reset with clock := ⟨0, 256⟩ } : State).pending = [] := by
  decide

theorem witness_NoUnitStartsWhileUnavailable :
    let ending := withUnit { unitOf .measure State.reset with length := 1 } State.reset
    let recovery := State.reset.onRpt fun r => { r with recoveryNext := true }
    let asleep := State.reset.onPsc fun p => { p with power := .waking }
    (ordered (orderA .search false) State.reset).rpt.order ≠ none ∧ State.reset.rpt.order = none ∧
    (asleep.psc.power ≠ .awake ∧ asleep.rta.unit = none) ∧ (0 < (holds 1 State.reset).rta.holdCount ∧ (holds 1 State.reset).rta.unit = none) ∧
    (0 < (holds 15 ending).rta.holdCount ∧ ∃ u, (holds 15 ending).rta.unit = some u ∧ u.length ≤ frameDist u.first ((holds 15 ending).clock.now + 1)) ∧
    recovery.rpt.recoveryNext = true ∧ recovery.rta.unit = none := by
  refine ⟨by decide +kernel, by decide +kernel, by decide +kernel, by decide +kernel, ⟨by decide +kernel, _, rfl, by decide +kernel⟩, rfl, rfl⟩

/-- A TRAFFIC claim of A on its connected pattern and a listen of B, at a frame both ask for. -/
def tuned (s : State) : State :=
  withClaim 1 .b .pagingListen ⟨19, 0, 2, 64, false⟩ (withClaim 0 .a .traffic standingWindow (copied (atFrame 19 s)))

theorem witness_GrantAndContest : (atFrame 17 colliding).claimsOk ∧ (atFrame 17 colliding).unavailable false = false ∧
    (atFrame 17 colliding).rta.unit = none ∧ (atFrame 17 colliding).eligibles ≠ [] ∧
    Reset.rta.policies[0]? = some .fixedA ∧ Reset.rta.policies[2]? = some .rotate ∧ Reset.rta.marks[6]? = some .a ∧
    (Reset.rta.policies.set 6 .fixedB)[6]? = some .fixedB ∧ (tuned State.reset).claimsOk ∧ (tuned State.reset).unavailable false = false ∧
    (tuned State.reset).eligibles.map (fun e => (e.2.sub, e.2.kind)) = [(.a, .traffic), (.b, .pagingListen)] ∧
    ((tuned State.reset).onRta fun r => { r with tuneAway := ⟨true, false⟩ }).rta.tuneAway.get .a = true := by
  unfold State.claimsOk; decide +kernel

theorem witness_GapFramesOfConnectedPattern : (CellCopy.mk 0 0 0).phase = 0 ∧ 0 < (CellCopy.mk 0 0 1).phase ∧ 0 < (CellCopy.mk 0 0 7).phase ∧
    (newClaim .a .traffic standingWindow).perFrame = true ∧ (newClaim .a .measure ⟨3, 15, 1, 64, false⟩).perFrame = false ∧
    (tuned State.reset).eligible 19 (newClaim .a .traffic standingWindow) = true ∧
    (tuned State.reset).eligible 19 (newClaim .a .measure ⟨5, 15, 1, 64, false⟩) = false ∧
    (tuned State.reset).eligible 20 (newClaim .b .measure ⟨5, 15, 1, 64, false⟩) = true ∧
    (tuned State.reset).eligible 21 (newClaim .b .measure ⟨5, 15, 1, 64, false⟩) = false := by decide +kernel

/-- A message that opened a LINK transaction, at the head of A's queue and in the outstanding order. -/
def leaving : State :=
  queued [⟨some .psc, 4, true, .pageResponse (.aliasId 1) .call, 0⟩, passMsg 0]
    (withTxn (txnA .link .psc .queued none none) (ordered (orderA .signalling true) State.reset))

theorem witness_AckOutcomes : leaving.rpt.order = some (orderA .signalling true) ∧ (orderA .signalling true).carriesHead = true ∧
    leaving.sge.queues.get (orderA .signalling true).sub = ⟨some .psc, 4, true, .pageResponse (.aliasId 1) .call, 0⟩ :: [passMsg 0] ∧
    leaving.txnBy .a 4 = some (0, txnA .link .psc .queued none none) ∧
    (ordered (orderA .search false) State.reset).rpt.order = some (orderA .search false) ∧ (orderA .search false).carriesHead = false ∧
    (∀ o, State.reset.rpt.order = some o → o.tag ≠ 0) ∧ ∀ o, (ordered (orderA .search false) State.reset).rpt.order = some o → o.tag ≠ 4 :=
  ⟨by decide +kernel, by decide +kernel, by decide +kernel, by decide +kernel, by decide +kernel, rfl, fun o h => (by cases h),
    fun o h => by cases h; decide⟩

theorem witness_OrderFaultEndsUnit :
    let s (n : Nat) := (ordered (orderA .search false) State.reset).onRpt fun r => { r with faultCount := n }
    (s 2).rpt.order = some (orderA .search false) ∧ ¬ 4 ≤ (s 2).rpt.faultCount + 1 ∧ 4 ≤ (s 3).rpt.faultCount + 1 ∧
    (s 3).hlc.queue.length < 32 ∧ [OrderError.synthUnlock] ≠ [] := by decide +kernel

theorem witness_RadioHoldAndReleaseCount :
    let s (c : Byte) (n : Nat) := ask 0xFF c [] (holds n State.reset)
    (s 18 0).asks (req 0xFF 18 []) [] 18 [] ∧ (s 18 14).asks (req 0xFF 18 []) [] 18 [] ∧ (s 18 14).rta.holdCount < 15 ∧
    (s 18 15).asks (req 0xFF 18 []) [] 18 [] ∧ 15 ≤ (s 18 15).rta.holdCount ∧ (s 19 1).asks (req 0xFF 19 []) [] 19 [] ∧
    0 < (s 19 1).rta.holdCount ∧ (s 19 0).asks (req 0xFF 19 []) [] 19 [] ∧ (s 19 0).rta.holdCount = 0 ∧
    (ask 0 18 [] State.reset).asks (req 0 18 []) [] 18 [] ∧ (ask 0xFF 19 [0] State.reset).asks (req 0xFF 19 [0]) [] 19 [0] := by
  unfold State.asks; decide +kernel

/-- The bytes of SET_SLEEP. -/
def sleepBytes (settle : Nat) : List Byte := putNat settle ++ putNat 255 ++ putNat 0 ++ putNat 8 ++ putNat 1 ++ putNat 60 ++ putNat 0

/-- The bytes of SET_MOBILITY. -/
def mobBytes (k : Nat) : List Byte := putNat k ++ putNat 30 ++ putNat 15 ++ putNat 16 ++ putNat 4095

theorem witness_SettingsAreReplacedWhole :
    (ask 0xFF 6 [0, 1, 2, 0, 0, 0, 0, 0, 1] State.reset).asks (req 0xFF 6 [0, 1, 2, 0, 0, 0, 0, 0, 1]) [] 6 [0, 1, 2, 0, 0, 0, 0, 0, 1] ∧
    readAll readArbitration [0, 1, 2, 0, 0, 0, 0, 0, 1] = some ([.fixedA, .fixedB, .rotate, .fixedA, .fixedA, .fixedA, .fixedA], true, false) ∧
    readAll readArbitration [0, 1, 3, 0, 0, 0, 0, 0, 1] = none ∧
    (ask 0xFF 7 (sleepBytes 16) State.reset).asks (req 0xFF 7 (sleepBytes 16)) [] 7 (sleepBytes 16) ∧
    readAll readSleep (sleepBytes 16) = some ⟨16, 255, 0, 8, 1, 60, 0⟩ ∧ (SleepValues.mk 16 255 0 8 1 60 0).ok = true ∧
    (SleepValues.mk 1023 255 0 8 1 60 0).ok = true ∧ readAll readSleep (sleepBytes 15) = some ⟨15, 255, 0, 8, 1, 60, 0⟩ ∧
    (SleepValues.mk 15 255 0 8 1 60 0).ok = false ∧ readAll readSleep [] = none ∧
    (ask 0 5 (mobBytes 6) State.reset).asks (req 0 5 (mobBytes 6)) [] 5 (mobBytes 6) ∧
    readAll readMobility (mobBytes 6) = some ⟨6, 30, 15, 16, 4095⟩ ∧ (MobParams.mk 6 30 15 16 4095).ok = true ∧
    (MobParams.mk 0 0 1 511 64).ok = true ∧ readAll readMobility (mobBytes 7) = some ⟨7, 30, 15, 16, 4095⟩ ∧
    (MobParams.mk 7 30 15 16 4095).ok = false ∧ readAll readMobility [0] = none := by unfold State.asks; decide +kernel

theorem witness_StoppedBlocksAreCounted :
    let gone : Holder := ⟨.a, .measure, 0, true⟩
    let s := State.reset.onRta fun r => { r with holders := some gone :: r.holders.drop 1 }
    (State.reset.onPsc fun p => { p with power := .light }).psc.power ≠ .awake ∧
    entryAt State.reset.rta.holders (frameDist 0 State.reset.clock.now) = none ∧
    entryAt State.reset.rta.holders (frameDist 100 State.reset.clock.now) = none ∧
    entryAt s.rta.holders (frameDist 0 s.clock.now) = some gone ∧ gone.withdrawn = true ∧ gone.kind.standing = false ∧
    (heldBy .pagingListen State.reset).holderOf 0 = some ⟨.a, .pagingListen, 0, false⟩ ∧
    (expected .pagingListen .signal && (heldBy .pagingListen State.reset).filterPasses .a .signal) = false ∧
    (heldBy .signalling State.reset).holderOf 0 = some ⟨.a, .signalling, 0, false⟩ ∧
    (expected .signalling .signal && (heldBy .signalling State.reset).filterPasses .a .signal) = false := by decide +kernel

/-- A SIGNALLING frame of A with its filter OPEN. -/
def listening : State := heldBy .signalling (opened State.reset)

theorem witness_AnswersAreMatched :
    let h (k : ClaimKind) : Holder := ⟨.a, k, 0, false⟩
    listening.hears 0 (h .signalling) ⟨2, 4, some 1, none, .none⟩ ∧ (heldBy .traffic listening).hears 0 (h .traffic) ⟨0, 4, none, none, .none⟩ ∧
    (heldBy .handoverAccess listening).hears 0 (h .handoverAccess) ⟨15, 15, none, some [.noRoute], .none⟩ ∧ listening.txnBy .a 4 = none ∧
    (withTxn (txnA .link .psc .queued none none) listening).txnBy .a 4 = some (0, txnA .link .psc .queued none none) ∧
    (txnA .link .psc .queued none none).matchedBy 0 = false ∧
    (withTxn (txnA .link .psc .sent (some 9) none) listening).txnBy .a 4 = some (0, txnA .link .psc .sent (some 9) none) ∧
    (withTxn (txnA .link .psc .linked none (some 9)) listening).txnBy .a 4 = some (0, txnA .link .psc .linked none (some 9)) ∧
    ((State.reset.onMobOf .a fun m => { m with hoState := .returnCheck }).mobOf .a).hoState = .returnCheck := by
  unfold State.hears State.consumeOk; decide +kernel

theorem witness_PassThroughIsRouted : signalOk (sig 16 4) = true ∧ signalOk (sig 63 4) = true ∧
    listening.dlc.routes[16]? = some (.route .forward .defer) ∧ (dozing (backlog 31 listening)).hlc.queue.length < 32 ∧
    (dozing listening).hlc.host = .dozing ∧
    ∀ i x, listening.txnBy .a (BitVec.ofNat 4 (sig 16 4).ident) = some (i, x) → x.kind ≠ .pass ∨ x.state ≠ .sent :=
  ⟨by decide +kernel, by decide +kernel, by decide +kernel, by decide +kernel, by decide +kernel,
    fun i x h => by
      have e : listening.txnBy .a (BitVec.ofNat 4 (sig 16 4).ident) = none := by decide +kernel
      rw [e] at h; cases h⟩

theorem witness_LoadsReplaceTables_routes :
    let body : List Byte := [2, 0, 16, 0, 1, 0, 63, 3, 3]
    (ask 0xFF 4 body State.reset).asks (req 0xFF 4 body) [] 4 body ∧
    readAll (readList readRoute) body = some [(16, .forward, .forwardWake), (63, .drop, .drop)] ∧
    State.reset.dlc.routes.length = 64 ∧ readAll (readList readRoute) [1, 0, 15, 0, 1] = some [(15, .forward, .forwardWake)] ∧
    readAll (readList readRoute) [0] = some [] ∧ readAll (readList readRoute) [1, 0, 64, 0, 1] = some [(64, .forward, .forwardWake)] ∧
    readAll (readList readRoute) [1] = none := by unfold State.asks; decide +kernel

theorem witness_LoadsReplaceTables_numbers :
    let body : List Byte := [1, 6, 3, 4, 5, 6, 7, 8, 1, 0, 6, 2, 2]
    let bad : List Byte := [1, 6, 3, 4, 5, 6, 7, 8, 1, 0, 7, 2, 2]
    (ask 0xFF 3 body State.reset).asks (req 0xFF 3 body) [] 3 body ∧
    readAll (readList readNumber) body = some [⟨[3, 4, 5, 6, 7, 8], .suffix 6, .reject, .block⟩] ∧
    (∀ e ∈ [NumberEntry.mk [3, 4, 5, 6, 7, 8] (.suffix 6) .reject .block], e.ok = true) ∧
    readAll (readList readNumber) bad = some [⟨[3, 4, 5, 6, 7, 8], .suffix 7, .reject, .block⟩] ∧
    (NumberEntry.mk [3, 4, 5, 6, 7, 8] (.suffix 7) .reject .block).ok = false ∧
    (readAll (readList readNumber) ((33 : Byte) :: (List.replicate 33 [(1 : Byte), 5, 0, 0, 0]).flatten)).map List.length = some 33 := by
  unfold State.asks; decide +kernel

theorem witness_LoadsReplaceTables_neighbours :
    let body : List Byte := [2, 0, 100, 7, 0xFF, 0, 1, 0, 0, 101, 0, 0, 0x80, 0, 1]
    let s := ask 0 2 body (served .a .camped State.reset)
    s.asks (req 0 2 body) [] 2 body ∧ readAll (readList readNeighbour) body = some [⟨100, 2047, 1, true⟩, ⟨101, 0, -32768, false⟩] ∧
    ([100, 101] : List Nat).Nodup ∧ ¬ ([100, 100] : List Nat).Nodup ∧ (s.mobOf .a).hoState ≠ .access ∧ s.claimsOk ∧
    ((s.onMobOf .a fun m => { m with hoState := .access }).mobOf .a).hoState = .access ∧
    (s.serving .a).map (·.cellId) = some 100 ∧ readAll (readList readNeighbour) [1, 0, 1, 8, 0, 0, 0, 0] = some [⟨1, 2048, 0, true⟩] ∧
    readAll (readList readNeighbour) [1] = none := by unfold State.asks State.claimsOk; decide +kernel

/-- A's transaction of this kind SENT with its answer timer run out. -/
def expired (k : TxnKind) (o : Owner) (s : State) : State := withTxn (txnA k o .sent (some 0) none) s

/-- An outgoing text of A in its second segment. -/
def sending : Outgoing := ⟨7, [4], 3, [[7], [8]], 2, false⟩

/-- A call of A in this state, with a RELEASE cause. -/
def calling (st : CallState) (a : Activity) (s : State) : State := withCtx 0 { ctxA st with endCause := some .hostRelease } (served .a a s)

/-- A HOLD or RESUME of context 0 pending. -/
def asking (k : PendingKind) (s : State) : State := s.onCal fun c => { c with pendingReq := some ⟨k, 0, 9, none⟩ }

/-- For each kind of transaction a state in which one has run out. -/
def runOut : List (TxnKind × Owner × State) :=
  [(.link, .psc, served .a .attended State.reset), (.pass, .host, served .a .attended State.reset), (.area, .psc, served .a .attended State.reset),
   (.textOut, .txt, (served .a .attended State.reset).setOutgoing .a (some sending)), (.measReport, .mob, talking State.reset),
   (.setup, .ctx 0, calling .originating .attended State.reset), (.connect, .ctx 0, calling .connecting .attended State.reset),
   (.hold, .ctx 0, asking .hold (calling .holding .inCall State.reset)), (.resume, .ctx 0, asking .resume (calling .resuming .inCall State.reset)),
   (.release, .ctx 0, calling .releasing .attended State.reset)]

theorem witness_ExpiredTransactionsEnd : ∀ e ∈ runOut, let s := expired e.1 e.2.1 e.2.2
    s.callsOk ∧ s.txnBy .a 4 = some (0, txnA e.1 e.2.1 .sent (some 0) none) ∧ s.sge.waiters = [] ∧ s.hlc.queue.length < 32 ∧
      (s.serving .a).any (·.barred) = false ∧ (s.ctx 0).sub = .a ∧ s.hasPlace .a (some (.ctx 0)) = true := by
  intro e h
  have d : ∀ e ∈ runOut, let s := expired e.1 e.2.1 e.2.2
    callsCheck s = true ∧ s.txnBy .a 4 = some (0, txnA e.1 e.2.1 .sent (some 0) none) ∧ s.sge.waiters = [] ∧ s.hlc.queue.length < 32 ∧
      (s.serving .a).any (·.barred) = false ∧ (s.ctx 0).sub = .a ∧ s.hasPlace .a (some (.ctx 0)) = true := by decide +kernel
  exact ⟨callsOk_of_check (d e h).1, (d e h).2⟩

theorem witness_ExpiredTransactionsEnd_waiting :
    let m : Msg := ⟨some .host, 4, true, .pass 40 [], 1024⟩
    let s := withTxn (txnA .pass .host .queued none none) (queued [m] (served .a .attended State.reset))
    s.callsOk ∧ s.txnBy .a 4 = some (0, txnA .pass .host .queued none none) ∧ (s.sge.queues.get .a)[0]? = some m ∧ m.opens = true ∧
    1024 ≤ m.wait :=
  ⟨callsOk_of_check (by decide +kernel), by decide +kernel, by decide +kernel, rfl, by decide⟩

theorem witness_TimersAndWaitingMessages_linkIdle :
    let l := withTxn (txnA .link .psc .linked none (some 0)) (served .a .attended State.reset)
    l.callsOk ∧ l.txnBy .a 4 = some (0, txnA .link .psc .linked none (some 0)) ∧ l.sge.waiters = [] ∧
    (l.serving .a).any (·.barred) = false :=
  ⟨callsOk_of_check (by decide +kernel), by decide +kernel, by decide +kernel, by decide +kernel⟩

theorem witness_TimersAndWaitingMessages_notDue :
    let s := queued [passMsg 1023] (withTxn (txnA .pass .host .sent (some 1) none) State.reset)
    (∀ i p, s.txnBy .a 4 = some (i, p) → p.answer ≠ some 0) ∧ (∀ i p, s.txnBy .a 4 = some (i, p) → p.idle ≠ some 0) ∧
    (∀ m, (s.sge.queues.get .a)[0]? = some m → m.wait < 1024) ∧ (s.ctx 2).ring ≠ some 0 ∧
    (∀ e, entryAt s.txt.entries 7 = some e → 0 < e.deadline) ∧
    0 < ((s.onMobOf .a fun m => { m with returnCounter := 1 }).mobOf .a).returnCounter := by
  intro s
  have h : s.txnBy .a 4 = some (0, txnA .pass .host .sent (some 1) none) := by decide +kernel
  refine ⟨fun i p e => ?_, fun i p e => ?_, fun m e => ?_, by decide +kernel, fun e he => ?_, by decide +kernel⟩
  · rw [h] at e; cases e; decide
  · rw [h] at e; cases e; decide
  · have : (s.sge.queues.get .a)[0]? = some (passMsg 1023) := by decide +kernel
    rw [this] at e; cases e; decide
  · exact absurd he (by have : entryAt s.txt.entries 7 = none := by decide +kernel
                        rw [this]; simp)

/-- A DETACH_NOTICE that has waited. -/
def notice (wait : Nat) : State := queued [⟨none, 0, false, .detachNotice [1], wait⟩] State.reset

theorem witness_TimersAndWaitingMessages :
    let s := queued [passMsg 3, passMsg 1024] State.reset
    s.activityOk ∧ (s.sge.queues.get .a)[1]? = some (passMsg 1024) ∧ (passMsg 1024).opens = false ∧
    (notice 128).sge.queues.get .a = ⟨none, 0, false, .detachNotice [1], 128⟩ :: [] ∧ (notice 128).activity .a = .detached ∧
    (Msg.mk none 0 false (.detachNotice [1]) 127).isNotice = true ∧ (notice 128).txnsOf .a = [] ∧ (notice 128).claimsOk := by
  refine ⟨activityOk_of_check (by decide +kernel), ?_⟩
  unfold State.claimsOk; decide +kernel

theorem witness_UplinkPlacesAndIdents :
    let s (n : Nat) := (queued (List.replicate n (passMsg 0)) State.reset).onSge fun g => { g with holds := ⟨[passMsg 1], []⟩ }
    (s 5).sge.holds.get .a = passMsg 1 :: [] ∧ ((s 5).sge.queues.get .a).length < 6 ∧ 6 ≤ ((s 6).sge.queues.get .a).length ∧
    State.reset.sge.holds.get .a = [] ∧ (s 5).sge.txns.length = 8 ∧ (s 5).sge.nextIdent.get .a ∉ (s 5).usedIdents .a := by decide +kernel

/-- An UP_SIGNAL of A at the head of the hold. -/
def upSig (code : Nat) (expect : Bool) (s : State) : State :=
  s.onHlc fun h => { h with inbound := [⟨.upSignal, 0, 9, putNat code ++ putFlag expect ++ [7]⟩] }

theorem witness_UpSignalIsAnswered :
    let s (a b : Activity) := upSig 16 false (served .a a (served .b b State.reset))
    (s .camped .camped).hlc.inbound = [⟨.upSignal, 0, 9, [0, 16, 1, 7]⟩] ∧ (s .camped .camped).mayAct = true ∧
    (s .camped .camped).resultPlaces < 8 ∧ headerSub 0 = some (some .a) ∧ readAll readUpSignal [0, 16, 1, 7] = some (16, false, [7]) ∧
    readAll readUpSignal [0, 63, 0] = some (63, true, []) ∧ readAll readUpSignal [0, 15, 1] = some (15, false, []) ∧
    readAll readUpSignal [0, 64, 1] = some (64, false, []) ∧ ((s .camped .camped).activity .a).isCampedState = true ∧
    ((s .camped .camped).sge.queues.get .a).length < 6 ∧
    (s .detached .camped).activity .a = .detached ∧ (s .noService .camped).activity .a = .noService ∧
    (s .camped .inCall).activity (Sub.other .a) = .inCall ∧
    6 ≤ ((queued (List.replicate 6 (passMsg 0)) (s .camped .camped)).sge.queues.get .a).length ∧ lowestFree (s .camped .camped).sge.txns = some 0 ∧
    lowestFree ((s .camped .camped).onSge fun g => { g with txns := List.replicate 8 (some (txnA .pass .host .sent none none)) }).sge.txns = none ∧
    (s .camped .camped).activityOk := by
  intro s
  have d : activityCheck (s .camped .camped) = true := by decide +kernel
  have e := activityOk_of_check d
  simp only [e, and_true]
  decide +kernel

/-- The bytes of CONFIGURE_SUBSCRIPTION with nothing optional. -/
def configBytes : List Byte := [6, 1, 2, 3, 4, 5, 6, 1, 9, 0, 0] ++ List.replicate 13 0

theorem witness_ConfigureReplacesRecord :
    let v : ConfigValues := ⟨[1, 2, 3, 4, 5, 6], [9], none, none, List.replicate 10 none, none, none, none⟩
    (ask 1 1 configBytes State.reset).asks (req 1 1 configBytes) [] 1 configBytes ∧ headerSub 1 = some (some .b) ∧
    readAll readConfig configBytes = some v ∧ v.ok = true ∧ State.reset.activity .b = .detached ∧
    (ask 1 1 configBytes (inState .b .camped State.reset)).asks (req 1 1 configBytes) [] 1 configBytes ∧
    (inState .b .camped State.reset).activity .b ≠ .detached ∧ readAll readConfig (configBytes ++ [0]) = none ∧ headerSub 2 = none ∧
    ({ v with ring := some 121 } : ConfigValues).ok = false := by unfold State.asks; decide +kernel

theorem witness_NumbersAreNormalisedAndLookedUp_lookup : let s := numbers State.reset
    ([4, 5, 6, 7, 8] : Digits) ≠ [] ∧ (∀ e ∈ taken s.sbs.numbers, e.2.qualifies [4, 5, 6, 7, 8] = none) ∧
    (∀ g ∈ taken s.sbs.numbers, ∀ m ∈ g.2.qualifies [4, 9, 4, 1, 2, 3, 4, 5, 6, 7, 8], m ≤ 9) ∧
    (∀ g ∈ taken s.sbs.numbers, g.2.qualifies [4, 9, 4, 1, 2, 3, 4, 5, 6, 7, 8] = some 9 → 1 ≤ g.1) ∧
    (1, NumberEntry.mk [4, 1, 2, 3, 4, 5, 6, 7, 8] (.suffix 9) .silent .quiet) ∈ taken s.sbs.numbers := by decide +kernel

theorem witness_NumbersAreNormalisedAndLookedUp : recA.trunk = some 0 ∧ recA.homeCode = some [2, 9, 1] ∧ recA.intlPre = some [0, 0] ∧
    ([0, 4, 1] : Digits) = 0 :: [4, 1] ∧ ([0, 0, 2] : Digits) = [0, 0] ++ [2] ∧ recA.trunk ≠ ([4, 1] : Digits).head? ∧ ([0] : Digits).length = 1 ∧
    (∀ p q, recA.intlPre = some p → ([0, 4, 1] : Digits) ≠ p ++ q) ∧ ∀ p q, recA.intlPre = some p → ([4, 1] : Digits) ≠ p ++ q :=
  ⟨rfl, rfl, rfl, rfl, rfl, by decide, rfl, fun p q h e => by cases h; simp at e, fun p q h e => by cases h; simp at e⟩

theorem witness_AttachBeginsSearch :
    let s := ask 0 8 [] (inState .a .detached State.reset)
    s.asks (req 0 8 []) [] 8 [] ∧ s.activity .a = .detached ∧ (s.record .a).configured = true ∧
    (ask 0 8 [] State.reset).asks (req 0 8 []) [] 8 [] ∧ (State.reset.record .a).configured = false ∧
    (ask 0xFF 8 [] State.reset).asks (req 0xFF 8 []) [] 8 [] ∧ headerSub 0xFF = some none := by unfold State.asks; decide +kernel

/-- A text of A QUEUED at index 7, its delivery alone in the host-bound queue. -/
def delivering (s : State) : State :=
  (s.onTxt fun t => { t with entries := t.entries.set 7 (some ⟨.queued, .a, [4], 12, 2, [(1, [7]), (2, [])], 5, .quiet, none, some .received⟩) }).onHlc
    fun h => { h with queue := [⟨.text 7, false, false⟩] }

theorem witness_DetachTearsDown :
    let s := ask 0 9 [] (delivering (served .a .camped State.reset))
    let t := s.onHlc fun h => { h with sending := some .entry, link := .carrying }
    s.asks (req 0 9 []) [] 9 [] ∧ s.activity .a ≠ .detached ∧ s.claimsOk ∧ s.sge.waiters = [] ∧ (entryAt s.txt.entries 7).isSome = true ∧
    s.hlc.sending ≠ some .entry ∧ t.hlc.sending = some .entry ∧ (t.hlc.queue.head?.map (·.body)) = some (.text 7) ∧
    (ask 0 9 [] State.reset).asks (req 0 9 []) [] 9 [] ∧ State.reset.activity .a = .detached := by unfold State.asks State.claimsOk; decide +kernel

/-- A pending update of A whose turn it is, on a cell of this area. -/
def pendingUpdate (area : Nat) (s : State) : State :=
  (((s.onServing .a fun v => { v with area := area }).onRecord .a fun r => { r with updatePending := true }).onSge
    fun g => { g with waiters := [⟨.update, .a, true⟩] })

theorem witness_WaitersTryAgain_update :
    let s (n : Nat) := pendingUpdate n (served .a .camped State.reset)
    (s 6).activityOk ∧ (s 5).activityOk ∧ (s 6).isTurn .update .a = true ∧ ((s 6).record .a).updatePending = true ∧
    ((s 6).record .a).updateByPage = false ∧ (s 6).serving .a = some { cell with area := 6 } ∧ ((s 6).record .a).dueFor 6 = true ∧
    (s 6).activity (Sub.other .a) ≠ .inCall ∧ (s 6).takesOffer .a ((s 6).areaOffer .a 6) = true ∧ (s 5).isTurn .update .a = true ∧
    ((s 5).record .a).dueFor 5 = false := by
  refine ⟨activityOk_of_check (by decide +kernel), activityOk_of_check (by decide +kernel), ?_⟩
  decide +kernel

theorem witness_WaitersTryAgain :
    let due := { sending with segmentDue := true }
    let s := ((served .a .attended State.reset).setOutgoing .a (some due)).onSge fun g => { g with waiters := [⟨.segment, .a, true⟩] }
    let full := s.onSge fun g => { g with txns := List.replicate 8 (some (txnA .pass .host .sent none none)) }
    let l := pendingUpdate 6 (withTxn (txnA .link .psc .linked none (some 0)) (served .a .attended State.reset))
    s.activityOk ∧ full.activityOk ∧ l.activityOk ∧ s.isTurn .segment .a = true ∧ s.outgoingOf .a = some due ∧ s.takes .a .txt = true ∧
    full.isTurn .segment .a = true ∧ full.takes .a .txt = false ∧ l.txnBy .a 4 = some (0, txnA .link .psc .linked none (some 0)) ∧
    l.sge.waiters = [⟨.update, .a, true⟩] ∧ (l.record .a).updatePending = true ∧ (l.record .a).dueFor 6 = true ∧
    l.activity (Sub.other .a) ≠ .inCall ∧ l.hasPlace .a (some .psc) = true := by
  refine ⟨activityOk_of_check (by decide +kernel), activityOk_of_check (by decide +kernel), activityOk_of_check (by decide +kernel), ?_⟩
  decide +kernel

theorem witness_TimedWakesHappen :
    let s (p : Power) (back : Frame) (w st : Option Nat) := State.reset.onPsc fun q => { q with power := p, lightReturn := some back, wakeTimer := w, settle := st }
    (s .light 0 none none).psc.lightReturn = some (s .light 0 none none).clock.now ∧
    (s .light 1 none none).psc.lightReturn = some ((s .light 1 none none).clock.now + 1) ∧
    (s .deep 0 (some 256) none).psc.wakeTimer = some 256 ∧ (s .deep 0 (some 256) none).clock.tick + 256 ≤ 256 ∧
    (s .waking 0 none (some 0)).psc.settle = some 0 ∧ (s .waking 0 none (some 0)).psc.power = .waking := by decide +kernel

theorem witness_SleepEvaluationChoosesDepth :
    let s := withClaim 0 .a .measure ⟨3, 15, 1, 64, false⟩ State.reset
    let near (n : Nat) := withClaim 0 .a .measure ⟨frameOf n, 15, 1, 64, false⟩ State.reset
    (holds 1 State.reset).maySleep = true ∧ State.reset.wakeDistance = none ∧ (ordered (orderA .search false) State.reset).maySleep = false ∧
    s.wakeDistance = some 3 ∧ s.psc.settleS + 512 ≤ 3 * 256 - s.clock.tick ∧ (near 2).wakeDistance = some 2 ∧
    2 * 256 - (near 2).clock.tick < (near 2).psc.settleS + 512 ∧ (near 1).wakeDistance = some 1 ∧ (near 1).maySleep = true ∧
    (newClaim .a .traffic standingWindow).perFrame = true ∧ (newClaim .a .traffic standingWindow).state = .waiting ∧
    (copied (atFrame 5 State.reset)).demanded .a (5 + frameOf 1) = true ∧ (newClaim .a .measure ⟨0, 15, 1, 64, true⟩).later = true ∧
    frameDist 0 (State.reset.clock.now + 1) ≤ 15 ∧ 15 < frameDist 3 (State.reset.clock.now + 1) := by decide +kernel

theorem witness_PagingOffset : cell.c ≤ 10 ∧ ({ cell with c := 10 } : Serving).c ≤ 10 ∧
    ([1, 2, 3, 4, 0, 8, 1, 5] : Digits) = [1, 2, 3, 4] ++ [0, 8, 1, 5] := by decide

/-- The item that names A. -/
def itemA (r : PageReason) : PageItem := ⟨.permanent [1, 2, 3, 4, 0, 8, 1, 5], r⟩

theorem witness_MatchedPageIsAnswered :
    let s := heldBy .pagingListen (withCtx 0 { ctxA .active with sub := .b } (served .a .camped (served .b .inCall State.reset)))
    paged.activityOk ∧ s.activityOk ∧ paged.holderOf 2002 = some ⟨.a, .pagingListen, 2002, false⟩ ∧ pageOk ⟨100, 0, [itemA .text]⟩ = true ∧
    (paged.serving .a).map (·.cellId) = some 100 ∧ paged.listenDecided .a 2002 = false ∧
    [itemA .text].find? (paged.record .a).matchesItem = some (itemA .text) ∧ paged.pageForbidden .a = false ∧
    paged.takesOffer .a ⟨some .psc, some .link, 0, some .text, .pageResponse (itemA .text).identity .text⟩ = true ∧
    paged.activity .a = .camped ∧ paged.claimsOk ∧ s.holderOf 0 = some ⟨.a, .pagingListen, 0, false⟩ ∧ s.pageForbidden .a = true ∧
    s.hlc.queue.length < 32 ∧ s.listenDecided .a 0 = false ∧ [itemA .update].find? (s.record .a).matchesItem = some (itemA .update) ∧
    (s.record .a).registration ≠ .updating ∧ (s.record .a).updatePending = false ∧ s.activity (Sub.other .a) = .inCall ∧
    paged.activity (Sub.other .a) ≠ .inCall ∧ paged.takesOffer .a (paged.areaOffer .a 5) = true := by
  refine ⟨activityOk_of_check (by decide +kernel), activityOk_of_check (by decide +kernel), ?_⟩
  unfold State.claimsOk; decide +kernel

theorem witness_MissedOccasionRunFollowsEndCodes :
    let s (m d : Nat) := State.reset.onPscOf .a fun p => { p with missed := m, denied := d, listens := [⟨9, false, false⟩, ⟨7, true, false⟩] }
    ((s 1 1).pscOf .a).missed + ((s 1 1).pscOf .a).denied < 3 ∧ ((s 1 2).pscOf .a).missed + ((s 1 2).pscOf .a).denied = 3 ∧
    (s 1 2).hlc.queue.length < 32 ∧ ((s 0 0).pscOf .a).heardIn (some 7) = some ⟨7, true, false⟩ ∧
    ((s 0 0).pscOf .a).heardIn (some 8) = none := by decide +kernel

/-- Every claim entry taken. -/
def tableTaken (s : State) : State := s.onRta fun r => { r with claims := List.replicate 12 (some (newClaim .b .measure ⟨9, 15, 1, 64, false⟩)) }

theorem witness_PlacementsAndTheirRetries :
    let d : Schedule := ⟨5, 32, false, 0, 0, 0, 2, 0⟩
    let base := served .a .camped State.reset
    let p := base.onPscOf .a fun p => { p with retry := .due, schedule := some d }
    let m := base.onMobOf .a fun m => { m with measRetry := some 0 }
    let f := (inState .a .noService State.reset).onMobOf .a fun m => { m with searchRetry := some 0 }
    let c := (talking State.reset).onCal fun c => { c with trafficRetry := ⟨.due, .none⟩ }
    cell.c ≤ 10 ∧ p.placementTurn .pagingListen .a = true ∧ (p.pscOf .a).schedule = some d ∧ p.hasClaim .a .pagingListen = false ∧
    lowestFree p.rta.claims ≠ none ∧ (tableTaken p).placementTurn .pagingListen .a = true ∧ lowestFree (tableTaken p).rta.claims = none ∧
    (tableTaken p).hasClaim .a .pagingListen = false ∧ ((tableTaken p).pscOf .a).missed + ((tableTaken p).pscOf .a).denied < 3 ∧
    (base.pscOf .a).retry ≠ .due ∧ m.hasClaim .a .measure = false ∧ m.placementTurn .measure .a = true ∧ f.hasClaim .a .search = false ∧
    f.placementTurn .search .a = true ∧ c.hasClaim .a .traffic = false ∧ c.placementTurn .traffic .a = true := by decide +kernel

theorem witness_FilterUpdateAndRange :
    clampLevel (-281) = -280 ∧ clampLevel (-59) = -60 ∧ 16 * clampLevel (-200) < (-3199 : Int) ∧
    ((-3201 : Int) ≤ 16 * clampLevel (-200) ∧ 16 * clampLevel (-200) - (-3201 : Int) < 2 ^ 6) ∧ levelOk (some (-4480)) ∧ levelOk (some (-960)) ∧
    State.reset.levelsOk ∧ step State.reset = .next State.reset.sleepTick := by
  refine ⟨by decide, by decide, by decide, by decide, fun v h => ?_, fun v h => ?_, ⟨?_, ?_⟩, rfl⟩
  · cases h; decide
  · cases h; decide
  · refine ⟨fun v h => (by cases h), fun n h => ?_, fun r h => (by cases h)⟩
    simp [State.reset, Reset.both, Reset.mobSub] at h
  · refine ⟨fun v h => (by cases h), fun n h => ?_, fun r h => (by cases h)⟩
    simp [State.reset, Reset.both, Reset.mobSub] at h

theorem reset_tablesOk : State.reset.tablesOk := by unfold State.tablesOk; decide +kernel

theorem reset_callsOk : State.reset.callsOk := callsOk_of_check (by decide +kernel)

theorem witness_RankingListIsOrdered : State.reset.tablesOk ∧ State.reset.callsOk ∧ State.reset.readsApart ∧
    State.reset.mob.a.tablesOk ∧ State.reset.mob.b.tablesOk ∧
    step State.reset = .next State.reset.sleepTick := by
  have h : Reset.mobSub.tablesOk := by
    refine ⟨⟨by decide +kernel, fun v h => (by cases h)⟩, fun r h => (by cases h), by decide +kernel⟩
  exact ⟨reset_tablesOk, reset_callsOk, (fun x _ _ e => by cases x <;> exact absurd e (by decide) : State.reset.readsApart), h, h, rfl⟩

theorem witness_MeasurementResults_held :
    (withUnit (unitOf .measure State.reset) State.reset).rta.unit = some (unitOf .measure State.reset) ∧
    (unitOf .measure State.reset).result = none ∧ (∀ u, State.reset.rta.unit = some u → u.kind ≠ .measure ∨ u.result ≠ none) ∧
    ∀ u, (withUnit { unitOf .measure State.reset with result := some [] } State.reset).rta.unit = some u →
      u.kind ≠ .measure ∨ u.result ≠ none :=
  ⟨rfl, rfl, fun u h => (by cases h), fun u h => by cases h; decide⟩

/-- A neighbour of A in the tests. -/
def near (st : NeighbourState) (miss trigger : Nat) : Neighbour := ⟨7, 60, 0, true, st, if st = .tracked then some (-2000) else none, miss, trigger⟩

/-- A with one neighbour at index 15, on its ranking list. -/
def besides (n : Neighbour) (s : State) : State :=
  s.onMobOf .a fun m => { m with neighbours := m.neighbours.set 15 (some n), ranking := [15] }

theorem witness_MeasurementResults :
    let s := served .a .camped State.reset
    let low := s.onServing .a fun v => { v with floorRun := 3 }
    let m (t : Nat) := (besides (near .tracked 0 t) s).mobOf .a
    s.activityOk ∧ s.serving .a = some cell ∧ low.activityOk ∧ (low.serving .a).map (·.floorRun) = some 3 ∧ (s.mobOf .a).hoState ≠ .access ∧
    ((s.onMobOf .a fun m => { m with hoState := .access }).mobOf .a).hoState = .access ∧ (near .tracked 2 0).miss = 2 ∧
    (near .unmeasured 2 0).state = .unmeasured ∧ (near .lost 3 0).state = .lost ∧ (near .tracked 1 0).miss < 2 ∧
    (m 0).candidate = some (15, near .tracked 0 0) ∧ (m 15).candidate = some (15, near .tracked 0 15) ∧ (s.mobOf .a).candidate = none ∧
    cell.qmin ≤ rounded (filtered 0 (some (-3200)) (-60)) := by
  refine ⟨activityOk_of_check (by decide +kernel), by decide +kernel, activityOk_of_check (by decide +kernel), ?_⟩
  decide +kernel

/-- A beacon of cell 7. -/
def beacon7 (barred : Bool) (level : Int) : BeaconBlock := ⟨7, 60, 5, 0, 0, 0, 10, -250, barred, level⟩

theorem witness_SearchKeepsAUsableBeacon :
    let s := withUnit (unitOf .search State.reset) (heldBy .search (inState .a .noService State.reset))
    s.holderOf 0 = some ⟨.a, .search, 0, false⟩ ∧ s.rta.unit = some (unitOf .search State.reset) ∧ s.serving .a = none ∧
    beaconOk (beacon7 false (-250)) = true ∧ (beacon7 false (-250)).qmin ≤ clampLevel (beacon7 false (-250)).level ∧
    (unitOf .search State.reset).kept = none ∧ beaconOk (beacon7 true (-100)) = true ∧
    clampLevel (beacon7 false (-251)).level < (beacon7 false (-251)).qmin ∧ s.activity .a = .noService := by decide +kernel

theorem witness_ReselectionReads :
    let n := near .tracked 0 2
    let s := besides n (served .a .camped State.reset)
    let closed := besides { n with allowed := false } s
    let r := (withUnit (unitOf .beaconRead s) (heldBy .beaconRead s)).onMobOf .a fun m => { m with readPurpose := some (.reselect 15 7) }
    s.activity .a = .camped ∧ entryAt (s.mobOf .a).neighbours 15 = some n ∧ n.allowed = true ∧ s.hasClaim .a .beaconRead = false ∧
    lowestFree s.rta.claims ≠ none ∧ lowestFree (tableTaken s).rta.claims = none ∧
    entryAt (closed.mobOf .a).neighbours 15 = some { n with allowed := false } ∧ r.holderOf 0 = some ⟨.a, .beaconRead, 0, false⟩ ∧
    r.rta.unit = some (unitOf .beaconRead s) ∧ (unitOf .beaconRead s).first = 0 ∧ beaconOk (beacon7 false (-200)) = true ∧
    (r.mobOf .a).readPurpose = some (.reselect 15 7) ∧ r.serving .a = some cell ∧ cell.cellId ≠ (beacon7 false (-200)).cellId ∧
    s.placementsDue = [] ∧ usableBeacon (beacon7 false (-250)) = true ∧ (beacon7 true (-100)).barred = true ∧
    clampLevel (beacon7 false (-251)).level < (beacon7 false (-251)).qmin := by decide +kernel

/-- The handover command of 07 section 7.8, to this cell. -/
def command (cellId : Nat) : SignalBlock := ⟨12, 6, none, none, .handover cellId 310 1500 0 22⟩

theorem witness_HandoverCommandIsTaken :
    let quiet := handedOver.onSge fun g => { g with txns := g.txns.set 0 none }
    let attended := heldBy .signalling (opened (linkedA State.reset))
    handedOver.hears 1000 ⟨.a, .traffic, 1000, false⟩ (command 5107) ∧ (handedOver.serving .a).map (·.cellId) = some 5100 ∧
    handedOver.activity .a = .inCall ∧ (handedOver.mobOf .a).hoState ≠ .access ∧ handedOver.sge.waiters = [] ∧
    handedOver.claimInPlace .a .traffic = true ∧ lowestFree handedOver.rta.claims ≠ none ∧ handedOver.hasClaim .a .handoverAccess = false ∧
    handedOver.hasTxn .a .measReport = true ∧ handedOver.activityOk ∧ quiet.hears 1000 ⟨.a, .traffic, 1000, false⟩ (command 5100) ∧
    quiet.hasTxn .a .measReport = false ∧ attended.hears 0 ⟨.a, .signalling, 0, false⟩ (command 5107) ∧ attended.activity .a ≠ .inCall ∧
    attended.hasTxn .a .measReport = false ∧ quiet.activityOk ∧ attended.activityOk := by
  have d : activityCheck handedOver = true ∧ activityCheck (handedOver.onSge fun g => { g with txns := g.txns.set 0 none }) = true ∧
      activityCheck (heldBy .signalling (opened (linkedA State.reset))) = true := by decide +kernel
  simp only [activityOk_of_check d.1, activityOk_of_check d.2.1, activityOk_of_check d.2.2, and_true]
  unfold State.hears State.consumeOk; decide +kernel

/-- That command taken, and the access unit at its last frame. -/
def accessing (notice : Bool) : State :=
  let s := go (.signalBlock 1000 true (command 5107)) handedOver
  withUnit { unitOf .handoverAccess s with length := 1, goodNotice := notice } s

theorem witness_HandoverAccessIsDecided : ∀ n, let s := accessing n
    let o := ordered { orderA .handoverAccess false with tag := 15 } s
    s.activityOk ∧ o.activityOk ∧ s.claimsOk ∧ o.claimsOk ∧ (s.rta.unit.map fun u => (u.kind, u.sub, u.withdrawn, u.goodNotice)) = some (.handoverAccess, .a, false, n) ∧
    (s.rta.unit.map fun u => (u.length, frameDist u.first (s.clock.now + 1))) = some (1, 1) ∧ s.rpt.order = none ∧ o.rpt.order ≠ none ∧
    (s.mobOf .a).returnRec.isSome = true ∧ (s.mobOf .a).hoCmd.isSome = true ∧ (s.serving .a).isSome = true ∧ s.activity .a = .inCall ∧
    s.claimInPlace .a .traffic = true ∧ (s.claimOf .a .traffic).map (·.2.state) = some .heldOut := by
  intro n
  cases n <;> refine ⟨activityOk_of_check (by decide +kernel), activityOk_of_check (by decide +kernel), ?_⟩ <;> unfold State.claimsOk <;> decide +kernel

theorem witness_SecondFailureLosesTheCall :
    let s := withCtx 2 (ctxA .active) (backlog 29 ((served .a .inCall State.reset).onMobOf .a fun m => { m with hoState := .returnCheck }))
    (s.mobOf .a).hoState = .returnCheck ∧ (s.mobOf .a).returnCounter = 0 ∧ (s.activity .a).isCampedState = true ∧ s.serving .a = some cell ∧
    2 ∈ ctxIndexes ∧ s.ctxOf .a 2 = true ∧ (s.ctx 2).state ≠ .releasing ∧ (s.ctx 2).screenedOut = false ∧ s.hlc.queue.length ≤ 29 ∧ s.sge.waiters = [] := by
  decide +kernel

/-- A context at index 2 with the uplink of A open, or with no place for a message of it. -/
def releasable (c : CallContext) (full : Bool) (s : State) : State :=
  let t := withCtx 2 c (served .a .attended s)
  if full then crowded (.ctx 2) t else t

theorem witness_ReleaseEndsACall :
    let ringing := { ctxA .offered with ring := some 0 }
    let s (full : Bool) := releasable ringing full State.reset
    ((s false).ctx 2).state = .offered ∧ ((s false).ctx 2).answerPending = false ∧ ((s false).ctx 2).ring = some 0 ∧
    (s false).takes .a (.ctx 2) = true ∧ (s true).takes .a (.ctx 2) = false ∧ ((s true).ctx 2).screenedOut = false ∧ (s true).hlc.queue.length < 32 ∧
    (ask 0xFF 12 [0, 2] (s false)).asks (req 0xFF 12 [0, 2]) [] 12 [0, 2] ∧ readAll readNat [0, 2] = some 2 ∧
    (ask 0xFF 13 [0, 2] (s true)).asks (req 0xFF 13 [0, 2]) [] 13 [0, 2] ∧ ((releasable (ctxA .held) false State.reset).ctx 2).state ≠ .releasing := by
  unfold State.asks; decide +kernel

/-- A may dial. -/
def mayDial (b : Activity) (s : State) : State := served .a .camped (served .b b s)

theorem witness_DialOriginatesACall :
    let body : List Byte := [2, 4, 2]
    let s (b : Activity) := ask 0 10 body (mayDial b State.reset)
    let full := ask 0 10 body (withCtx 0 (ctxA .held) (withCtx 1 (ctxA .offered) (withCtx 2 (ctxA .releasing) (mayDial .camped State.reset))))
    (s .camped).asks (req 0 10 body) [] 10 body ∧ readAll readDigits body = some [4, 2] ∧ digitsOk 1 20 [4, 2] = true ∧
    (s .camped).cal.contexts.length = 3 ∧ readAll readDigits [0] = some [] ∧ ((s .camped).activity .a).isCampedState = true ∧
    ((s .camped).activity (Sub.other .a)).isBusy = false ∧ ((s .attended).activity (Sub.other .a)).isBusy = true ∧
    (∀ i, i < 3 → full.ctxOf .a i = true → (full.ctx i).state ≠ .active ∧ (full.ctx i).state.settling = false) ∧ full.freeCtx = none ∧
    (s .camped).freeCtx = some 0 ∧ (s .camped).takes .a (.ctx 0) = true ∧
    ((queued (List.replicate 6 (passMsg 0)) (s .camped)).onSge fun g => { g with txns := List.replicate 8 (some (txnA .pass .host .sent none none)) }).takes
      .a (.ctx 0) = false ∧ (ask 0 10 body State.reset).activity .a = .detached ∧
    (ask 0 10 body (inState .a .noService State.reset)).activity .a = .noService ∧ (s .camped).activityOk := by
  intro body s full
  have d : activityCheck (s .camped) = true := by decide +kernel
  simp only [activityOk_of_check d, and_true]
  unfold State.asks; decide +kernel

/-- A call offered at index 2 beside another context. -/
def offeredBeside (st : CallState) (b : Activity) : State :=
  ask 0xFF 11 [0, 2] (withCtx 0 (ctxA st) (withCtx 2 (ctxA .offered) (served .a .inCall (served .b b State.reset))))

theorem witness_AnswerConnectsOrHolds :
    let s := offeredBeside
    (s .idle .camped).asks (req 0xFF 11 [0, 2]) [] 11 [0, 2] ∧ readAll readNat [0, 2] = some 2 ∧ readAll readNat [0, 3] = some 3 ∧
    ((s .idle .camped).ctx 2).state = .offered ∧ ((s .idle .camped).ctx 2).answerPending = false ∧ ((s .idle .camped).ctx 0).state ≠ .offered ∧
    (s .idle .attended).activity (Sub.other .a) = .attended ∧ (s .idle .camped).activity (Sub.other .a) ≠ .attended ∧
    (s .holding .camped).anySettling = true ∧ (s .idle .camped).anySettling = false ∧ (s .idle .camped).activeCtx = none ∧
    (s .idle .camped).takes .a (.ctx 2) = true ∧ (s .active .camped).activeCtx = some 0 ∧ (s .active .camped).cal.holdStack.length < 2 ∧
    (s .active .camped).takes .a (.ctx 0) = true ∧
    2 ≤ ((s .active .camped).onCal fun c => { c with holdStack := [1, 2] }).cal.holdStack.length ∧
    (crowded (.ctx 2) (s .idle .camped)).takes .a (.ctx 2) = false ∧ (s .active .camped).activityOk ∧
    (ask 0xFF 11 [0, 2] (withCtx 2 (ctxA .offered) (served .a .attended State.reset))).activityOk := by
  intro s
  have d : activityCheck (s .active .camped) = true ∧
      activityCheck (ask 0xFF 11 [0, 2] (withCtx 2 (ctxA .offered) (served .a .attended State.reset))) = true := by decide +kernel
  simp only [activityOk_of_check d.1, activityOk_of_check d.2, and_true]
  unfold State.asks; decide +kernel

theorem witness_HoldAndResumeArePending :
    let s := ask 0xFF 14 [] (withCtx 0 (ctxA .active) (served .a .inCall State.reset))
    let r := ask 0xFF 15 [] ((withCtx 0 (ctxA .held) (served .a .inCall State.reset)).onCal fun c => { c with holdStack := [0] })
    s.asks (req 0xFF 14 []) [] 14 [] ∧ s.activeCtx = some 0 ∧ s.cal.holdStack.length < 2 ∧ s.takes .a (.ctx 0) = true ∧
    (ask 0xFF 14 [] State.reset).asks (req 0xFF 14 []) [] 14 [] ∧ State.reset.activeCtx = none ∧ r.asks (req 0xFF 15 []) [] 15 [] ∧
    r.cal.holdStack.getLast? = some 0 ∧ r.activeCtx = none ∧ r.anySettling = false ∧ (r.ctx 0).state = .held ∧ r.takes .a (.ctx 0) = true ∧
    (ask 0xFF 15 [] State.reset).cal.holdStack = [] ∧ 2 ≤ (s.onCal fun c => { c with holdStack := [1, 2] }).cal.holdStack.length ∧
    ((queued (List.replicate 6 (passMsg 0)) s).onSge fun g => { g with txns := List.replicate 8 (some (txnA .pass .host .sent none none)) }).takes
      .a (.ctx 0) = false ∧ (ask 0 14 [] s).asks (req 0 14 []) [] 14 [] ∧ s.activityOk ∧ r.activityOk := by
  intro s r
  have d : activityCheck s = true ∧ activityCheck r = true := by decide +kernel
  simp only [activityOk_of_check d.1, activityOk_of_check d.2, and_true]
  unfold State.asks; decide +kernel

/-- B ATTENDED, with a link of its own. -/
def linkedB (s : State) : State :=
  (served .b .attended s).onSge fun g => { g with txns := g.txns.set 6 (some { txnA .link .psc .linked none (some 1024) with sub := .b }) }

theorem witness_WaitingConnectionBecomesActive :
    let s (st : CallState) := withCtx 2 { ctxA st with connectWaiting := true } (served .a .attended (backlog 31 State.reset))
    (linkedB (s .connecting)).activity (Sub.other .a) = .attended ∧ ((linkedB (s .connecting)).ctx 2).connectWaiting = true ∧
    (s .connecting).activityOk ∧ (s .originating).activityOk ∧ (s .connecting).activity (Sub.other .a) ≠ .attended ∧
    ((s .connecting).ctx 2).state = .connecting ∧ ((s .originating).ctx 2).state = .originating ∧ ((s .originating).ctx 2).connectWaiting = true ∧
    (s .connecting).hlc.queue.length < 32 ∧ lowestFree (s .connecting).rta.claims ≠ none := by
  refine ⟨by decide +kernel, by decide +kernel, activityOk_of_check (by decide +kernel), activityOk_of_check (by decide +kernel), ?_⟩
  decide +kernel

/-- A SIGNALLING frame of A on a link. -/
def onLink (s : State) : State := heldBy .signalling (opened (linkedA s))

/-- That frame's holder. -/
def sigA : Holder := ⟨.a, .signalling, 0, false⟩

/-- A SETUP_IN of call reference 5. -/
def setupIn : SignalBlock := ⟨1, 7, some 5, none, .calling .international [2, 9, 1, 3, 4, 5, 6, 7, 8]⟩

theorem witness_IncomingCallsAreOfferedAndReleased :
    let s := onLink State.reset
    let busy (st : CallState) := withCtx 2 { ctxA st with callRef := 5 } s
    let n : Digits := [2, 9, 1, 3, 4, 5, 6, 7, 8]
    listening.hears 0 sigA setupIn ∧ listening.activityOk ∧ listening.hasLinked .a = false ∧ listening.hasCtx .a = false ∧
    s.hears 0 sigA setupIn ∧ s.activityOk ∧ s.hasLinked .a = true ∧ s.ctxByRef .a 5 = none ∧ s.freeCtx = some 0 ∧
    normalise (s.record .a) .international n = n ∧ (s.lookup n).2.1 ≠ .reject ∧ ((numbers s).lookup n).2.1 = .reject ∧
    s.takes .a (.ctx 0) = true ∧ (crowded (.ctx 0) s).takes .a (.ctx 0) = false ∧ (crowded (.ctx 0) s).activityOk ∧
    (busy .offered).activityOk ∧ (busy .offered).ctxByRef .a 5 = some 2 ∧
    (withCtx 2 { ctxA .offered with sub := .b } s).hasCtx (Sub.other .a) = true ∧
    s.hears 0 sigA ⟨8, 3, some 5, none, .none⟩ ∧ s.hears 0 sigA ⟨8, 3, none, none, .none⟩ ∧ s.sge.waiters = [] ∧
    (busy .releasing).ctxByRef .a 5 = some 2 ∧ ((busy .offered).ctx 2).screenedOut = false := by
  intro s busy n
  have d : activityCheck listening = true ∧ activityCheck s = true ∧ activityCheck (crowded (.ctx 0) s) = true ∧
      activityCheck (busy .offered) = true := by decide +kernel
  simp only [activityOk_of_check d.1, activityOk_of_check d.2.1, activityOk_of_check d.2.2.1, activityOk_of_check d.2.2.2, true_and]
  unfold State.hears State.consumeOk; decide +kernel

/-- For each answer of a call the state in which it finds the transaction it answers: its code, the transaction's kind and the state. -/
def answered : List (Nat × TxnKind × State) :=
  [(4, .setup, calling .originating .attended State.reset), (5, .connect, calling .connecting .attended State.reset),
   (4, .setup, linkedB (calling .originating .attended State.reset)), (15, .setup, calling .originating .attended State.reset),
   (6, .hold, asking .hold (calling .holding .inCall State.reset)), (15, .hold, asking .hold (calling .holding .inCall State.reset)),
   (6, .hold, asking (.answer 2) (withCtx 2 { ctxA .offered with answerPending := true, callRef := 3 } (calling .holding .inCall State.reset))),
   (7, .resume, asking .resume (calling .resuming .inCall State.reset)), (15, .resume, asking .resume (calling .resuming .inCall State.reset))]

theorem witness_CallAnswersMoveTheirContext : ∀ e ∈ answered, let s := heldBy .signalling (opened (withTxn (txnA e.2.1 (.ctx 0) .sent (some 9) none) e.2.2))
    s.callsOk ∧ s.hears 0 sigA ⟨e.1, 4, some 2, if e.1 = 15 then some [.noRoute] else none, .none⟩ ∧
      s.answersCtx .a ⟨e.1, 4, some 2, if e.1 = 15 then some [.noRoute] else none, .none⟩ 0 (txnA e.2.1 (.ctx 0) .sent (some 9) none) 0 ∧
      lowestFree s.rta.claims ≠ none ∧ s.hlc.queue.length < 32 ∧ s.hasPlace .a (some (.ctx 2)) = true := by
  intro e h
  have d : ∀ e ∈ answered, let s := heldBy .signalling (opened (withTxn (txnA e.2.1 (.ctx 0) .sent (some 9) none) e.2.2))
    callsCheck s = true ∧ s.hears 0 sigA ⟨e.1, 4, some 2, if e.1 = 15 then some [.noRoute] else none, .none⟩ ∧
      s.answersCtx .a ⟨e.1, 4, some 2, if e.1 = 15 then some [.noRoute] else none, .none⟩ 0 (txnA e.2.1 (.ctx 0) .sent (some 9) none) 0 ∧
      lowestFree s.rta.claims ≠ none ∧ s.hlc.queue.length < 32 ∧ s.hasPlace .a (some (.ctx 2)) = true := by
    unfold State.hears State.consumeOk State.answersCtx; decide +kernel
  exact ⟨callsOk_of_check (d e h).1, (d e h).2⟩

theorem witness_AreaAnswersRegister :
    let s := withTxn (txnA .area .psc .sent (some 9) none) (onLink State.reset)
    let accept (area : Nat) : SignalBlock := ⟨13, 4, none, none, .area area (some 17)⟩
    s.activityOk ∧ s.hears 0 sigA (accept 5) ∧ s.hears 0 sigA (accept 4095) ∧ s.hears 0 sigA ⟨14, 4, none, some [.noRoute], .none⟩ ∧
    s.hears 0 sigA ⟨15, 4, none, some [.noRoute], .none⟩ ∧ s.txnBy .a 4 = some (0, txnA .area .psc .sent (some 9) none) ∧
    s.serving .a = some cell ∧ cell.barred = false ∧ cell.area = 5 ∧ s.sge.waiters = [] ∧ (s.record .a).standing ≠ .limited ∧ s.claimsOk ∧
    s.hasPlace .a (some .psc) = true ∧ ((s.onRecord .a fun r => { r with standing := .none }).record .a).standing ≠ .full := by
  refine ⟨activityOk_of_check (by decide +kernel), ?_⟩
  unfold State.hears State.consumeOk State.claimsOk; decide +kernel

/-- A TEXT_SEG of reference 12. -/
def textSeg (total seq : Nat) : SignalBlock := ⟨10, 3, none, none, .text 12 total seq .international [2, 9, 1, 3, 4, 5, 6, 7, 8] [1]⟩

/-- The entry of that text at index 7 of the reassembly table, with these segments. -/
def held (st : TextState) (total : Nat) (l : List (Nat × List Byte)) (s : State) : State :=
  s.onTxt fun t => { t with entries := t.entries.set 7 (some ⟨st, .a, [2, 9, 1, 3, 4, 5, 6, 7, 8], 12, total, l, 9, .quiet, none, none⟩) }

theorem witness_TextSegmentsAreStoredAndAnswered :
    let s := onLink State.reset
    let n : Digits := [2, 9, 1, 3, 4, 5, 6, 7, 8]
    let out := withTxn (txnA .textOut .txt .sent (some 9) none) (s.setOutgoing .a (some { sending with total := 2, segments := [[8]] }))
    s.activityOk ∧ out.activityOk ∧ s.hears 0 sigA (textSeg 1 1) ∧ s.hears 0 sigA (textSeg 8 8) ∧ s.textByKey .a n 12 = none ∧
    lowestFree s.txt.entries = some 0 ∧ (s.lookup n).2.2 ≠ .block ∧ ((numbers s).lookup n).2.2 = .block ∧ 0 < s.txt.free ∧
    (s.onTxt fun t => { t with free := 0 }).txt.free = 0 ∧ ((held .collecting 2 [(1, [1])] s).textByKey .a n 12).isSome = true ∧
    ((held .collecting 2 [(1, [1])] s).textByKey .a n 12).map (fun e => ((e.2.hold 2 [1]).whole, e.2.total)) = some (true, 2) ∧
    ((held .collecting 8 [(1, [1])] s).textByKey .a n 12).map (fun e => (e.2.hold 2 [1]).whole) = some false ∧
    ((held .blocked 2 [(1, [])] s).textByKey .a n 12).map (fun e => (e.2.hold 2 []).whole) = some true ∧
    ((held .queued 2 [(1, [1]), (2, [1])] s).textByKey .a n 12).map (·.2.state) = some .queued ∧
    out.hears 0 sigA ⟨11, 4, none, none, .none⟩ ∧ out.hears 0 sigA ⟨15, 4, none, some [.noRoute], .none⟩ ∧ out.sge.waiters = [] ∧
    out.txnBy .a 4 = some (0, txnA .textOut .txt .sent (some 9) none) ∧ (out.outgoingOf .a).map (fun o => (o.nextSeq, o.total)) = some (2, 2) ∧
    out.hasPlace .a (some .txt) = true ∧ sending.nextSeq ≠ sending.total ∧ sending.segments ≠ [] := by
  refine ⟨activityOk_of_check (by decide +kernel), activityOk_of_check (by decide +kernel), ?_⟩
  unfold State.hears State.consumeOk; decide +kernel

/-- A call of A in the Voice Path. -/
def speaking (p : Playout) (position : Option Seq) (q : List SpeechFrame) (late : Nat) (u : List (List Byte)) (s : State) : State :=
  s.onVcp fun v => { v with playout := p, call := some (.a, 0), position := position, queue := q, lateRun := late, uplink := u }

/-- A speech frame's bytes. -/
def forty : List Byte := List.replicate 40 5

/-- An UP_SPEECH of A at the head of the hold. -/
def upSpeech (bytes : List Byte) (s : State) : State := s.onHlc fun h => { h with inbound := [⟨.upSpeech, 0, 0, bytes⟩] }

theorem witness_SpeechIsQueued :
    let t := heldBy .traffic (opened State.reset)
    let s (p : Playout) (position : Option Seq) (n late : Nat) (k : Nat) :=
      upSpeech forty (speaking p position (List.replicate n ⟨200, forty⟩) late (List.replicate k forty) t)
    t.holderOf 0 = some ⟨.a, .traffic, 0, false⟩ ∧ t.dlc.filters.get .a = true ∧ voiceOk ⟨128, forty⟩ = true ∧ t.vcp.playout = .stopped ∧
    (s .filling none 0 0 0).vcp.call = some (.a, 0) ∧ (s .filling none 0 0 0).vcp.position = none ∧
    seqAhead 1 (BitVec.ofNat 8 128) = true ∧ seqAhead 0 (BitVec.ofNat 8 128) = false ∧ seqAhead 128 (BitVec.ofNat 8 128) = false ∧
    (s .playing (some 1) 7 0 0).vcp.queue.length < 8 ∧ (∀ q ∈ (s .playing (some 1) 7 0 0).vcp.queue, q.seq ≠ BitVec.ofNat 8 128) ∧
    (s .playing (some 0) 0 2 0).vcp.lateRun < 3 ∧ (s .playing (some 0) 0 2 0).vcp.resync = false ∧
    (s .playing none 0 0 3).hlc.inbound = [⟨.upSpeech, 0, 0, forty⟩] ∧ (s .playing none 0 0 3).mayAct = true ∧ forty.length = 40 ∧
    (s .playing none 0 0 3).vcp.uplink.length < 4 ∧ 4 ≤ (s .playing none 0 0 4).vcp.uplink.length ∧ (upSpeech [1] t).mayAct = true := by
  decide +kernel

theorem witness_PlayoutAndUplinkChoice :
    let s (p : Playout) (n : Nat) (run : Nat) (after : Bool) (q : List SpeechFrame) := atFrame n ((talking State.reset).onVcp fun v => { v with
      playout := p, position := some 255, subRun := run, fillAfter := after, queue := q })
    let m := passMsg 0
    (s .playing 1 0 false [⟨0, forty⟩]).activityOk ∧ (s .playing 1 0 false [⟨0, forty⟩]).rpt.order = none ∧
    (s .playing 1 0 false [⟨0, forty⟩]).rta.unit = none ∧ (s .playing 1 0 false [⟨0, forty⟩]).vcp.call = some (.a, 0) ∧
    ((frameOf 1 + 1 : Frame).toNat % 2 = 0 ∧ (frameOf 0 + 1 : Frame).toNat % 2 = 1 ∧ (frameOf 4095 + 1 : Frame).toNat % 2 = 0) ∧
    (255 + 1 : Seq) = 0 ∧ (s .playing 1 3 false []).vcp.queue.head? = none ∧ (s .filling 1 2 true []).vcp.fillAfter = true ∧
    (queued [m] State.reset).sge.queues.get .a = m :: [] ∧ (newClaim .a .traffic standingWindow).kind = .traffic ∧
    (newClaim .a .signalling standingWindow).kind = .signalling ∧ State.reset.sge.queues.get .a = [] ∧
    (speaking .playing none [] 0 [forty] State.reset).vcp.call = some (.a, 0) ∧
    (speaking .playing none [] 0 [forty] State.reset).vcp.uplink = forty :: [] := by
  refine ⟨activityOk_of_check (by decide +kernel), ?_⟩
  decide +kernel

theorem witness_SendTextOpensTheFirstSegment :
    let body : List Byte := [1, 4, 2, 1, 7, 2, 8, 9]
    let s (a b : Activity) := ask 0 16 body (served .a a (served .b b State.reset))
    (s .camped .camped).asks (req 0 16 body) [] 16 body ∧ readAll readText body = some ([4], [[7], [8, 9]]) ∧ textOk [4] [[7], [8, 9]] = true ∧
    readAll readText [1, 4, 0] = some ([4], []) ∧ textOk [4] [] = false ∧ (s .detached .camped).activity .a = .detached ∧
    (s .inCall .camped).activity .a = .inCall ∧ (s .noService .camped).activity .a = .noService ∧ (s .camped .camped).activity .a = .camped ∧
    (s .attended .camped).activity .a = .attended ∧ (s .camped .inCall).activity (Sub.other .a) = .inCall ∧
    (s .camped .camped).outgoingOf .a = none ∧ 2 ≤ (s .camped .camped).txt.free ∧
    ((s .camped .camped).onTxt fun t => { t with free := 1 }).txt.free < 2 ∧ (s .camped .camped).takes .a .txt = true ∧
    (crowded .txt (s .camped .camped)).takes .a .txt = false ∧ (s .camped .camped).activityOk := by
  intro body s
  have d : activityCheck (s .camped .camped) = true := by decide +kernel
  simp only [activityOk_of_check d, and_true]
  unfold State.asks; decide +kernel

/-- A reassembly entry whose deadline has run out, at index 7. -/
def textAt (st : TextState) (action : TextAction) (s : State) : State :=
  s.onTxt fun t => { t with
    entries := t.entries.set 7 (some ⟨st, .a, [4], 12, 2, [(1, [7])], 0, action, none, none⟩), completion := if st == .complete then [7] else [] }

theorem textsOffered_of_check {s : State} (h : (s.txt.completion.all fun i => (entryAt s.txt.entries i).all fun e => !s.mayDeliver e) = true) :
    s.textsOffered := by
  intro i hi e he
  have k := List.all_eq_true.1 h i hi
  rw [he] at k
  simpa using k

theorem witness_TextsAreDelivered :
    let e (st : TextState) : TextEntry := ⟨st, .a, [4], 12, 2, [(1, [7])], 0, .quiet, none, none⟩
    let s (st : TextState) := textAt st .quiet (backlog 31 State.reset)
    entryAt (s .collecting).txt.entries 7 = some (e .collecting) ∧ (e .collecting).deadline = 0 ∧ (s .collecting).textsOffered ∧
    (s .collecting).mayDeliver { e .collecting with state := .complete } = true ∧ (dozing (s .collecting)).textsOffered ∧
    (dozing (s .collecting)).mayDeliver { e .collecting with state := .complete } = false ∧
    entryAt (s .blocked).txt.entries 7 = some (e .blocked) ∧ (dozing (s .complete)).txt.completion = [7] ∧ (dozing (s .complete)).textsOffered ∧
    (s .complete).txt.completion = 7 :: [] ∧ (s .complete).mayDeliver (e .complete) = true := by
  refine ⟨by decide +kernel, by decide +kernel, textsOffered_of_check (by decide +kernel), by decide +kernel,
    textsOffered_of_check (by decide +kernel), by decide +kernel, by decide +kernel, by decide +kernel,
    textsOffered_of_check (by decide +kernel), by decide +kernel, by decide +kernel⟩

theorem witness_FramesAreCarried :
    let s (p : Power) (n : Nat) := (State.reset.onPsc fun q => { q with power := p }).onHlc fun h => { h with
      rx := .receiving, inbound := List.replicate n (req 0 20 []) }
    State.reset.hlc.link = .none ∧ State.reset.resetHeld = false ∧ (s .light 0).psc.power = .light ∧ (s .deep 0).psc.power = .deep ∧
    (s .awake 3).hlc.rx = .receiving ∧ hostType 1 = some .request ∧ hostType 3 = some .upSpeech ∧ hostType 4 = none ∧
    (s .awake 3).hlc.inbound.length < 4 ∧ 4 ≤ (s .awake 4).hlc.inbound.length ∧
    ([20] : List Byte).length = (0 : Byte).toNat * 256 + (1 : Byte).toNat ∧ (5 : Byte).toNat * 256 + (0 : Byte).toNat ≤ 1280 ∧
    (s .awake 4).hlc.queue.length < 32 := by decide +kernel

theorem witness_FramesAreCarried_sent :
    let s (b : Option Sending) := (textAt .queued .quiet State.reset).onHlc fun h => { h with
      link := .carrying, sending := b, slotBegun := true, results := [⟨9, some .a, 20, .ok, []⟩, ⟨9, some .a, 20, .ok, []⟩], queue := ⟨.text 7, true, false⟩ :: h.queue }
    let g : DownSpeech := ⟨.a, 0, 1, .silence, 0, []⟩
    (s (some .result)).hlc.link = .carrying ∧ (s (some .result)).resetHeld = false ∧ (s (some .result)).hlc.sending = some .result ∧
    (s (some (.speech g))).hlc.sending = some (.speech g) ∧ (s (some (.speech g))).hlc.slotBegun = true ∧
    (s (some .entry)).hlc.queue.head? = some ⟨.text 7, true, false⟩ ∧ (entryAt (s (some .entry)).txt.entries 7).isSome = true := by decide +kernel

theorem witness_HostDozesAndQueries :
    let s (sub code : Byte) (body : List Byte) := ask sub code body State.reset
    (s 0xFF 17 []).asks (req 0xFF 17 []) [] 17 [] ∧ (ctxIndexes.any fun i => (State.reset.ctx i).state.keepsHost) = false ∧
    (ctxIndexes.any fun i => ((withCtx 2 (ctxA .held) State.reset).ctx i).state.keepsHost) = true ∧
    (s 0 17 []).asks (req 0 17 []) [] 17 [] ∧ (s 0 20 [0]).asks (req 0 20 [0]) [] 20 [0] ∧ (s 0xFF 20 [9]).asks (req 0xFF 20 [9]) [] 20 [9] ∧
    readAll readRecord [0] = some .subscription ∧ readAll readRecord [9] = some .sleep ∧ readAll readRecord [7] = some .counts ∧
    RecordName.subscription.perSub = true ∧ RecordName.ranking.perSub = true ∧ RecordName.claims.perSub = false ∧
    (s 5 20 [9]).asks (req 5 20 [9]) [] 20 [9] ∧ headerSub 5 = none := by unfold State.asks; decide +kernel

theorem witness_ResetsTakeEveryBlock : (go .resetInputAssert State.reset).resetHeld = true ∧ State.reset.resetHeld = false ∧
    (ask 0xFF 21 [] State.reset).asks (req 0xFF 21 []) [] 21 [] ∧ (ask 3 21 [] State.reset).asks (req 3 21 []) [] 21 [] ∧
    (go .hostFrameStart State.reset).hlc.link ≠ .none := by unfold State.asks; decide +kernel

theorem witness_UnitsEndAndClaimsAreSettled :
    let c := newClaim .a .measure ⟨3, 1, 1, 64, false⟩
    let s := holds 1 (withClaim 11 .a .measure ⟨0, 1, 1, 64, false⟩ State.reset)
    ({ c with placement := some ⟨9, 0, 1, 64, false⟩ } : Claim).placement = some ⟨9, 0, 1, 64, false⟩ ∧
    (c.placement = none ∧ ({ c with withdrawing := true } : Claim).withdrawing = true) ∧ c.withdrawing = false ∧ c.perFrame = false ∧ c.period ≠ 0 ∧
    (newClaim .a .search standingWindow).period = 0 ∧ (newClaim .a .traffic standingWindow).perFrame = true ∧
    latestBefore (3 + frameOf 64) 1 60 = false ∧ latestBefore (3 + frameOf (1 * 64)) 1 100 = true ∧ latestBefore (3 + frameOf (2 * 64)) 1 100 = false ∧
    (c.state = .waiting ∧ c.later = false ∧ frameDist c.first 4 = c.slack) ∧ frameDist c.first 3 ≠ c.slack ∧
    s.rpt.order = none ∧ s.rta.unit = none ∧ 0 < s.rta.holdCount ∧ taken s.rta.claims = [(11, newClaim .a .measure ⟨0, 1, 1, 64, false⟩)] ∧
    frameDist 0 (s.clock.now + 1) = 1 ∧ latestBefore (0 + frameOf 64) 1 (s.clock.now + 2) = false ∧
    ((withUnit { unitOf .measure State.reset with length := 2 } State.reset).rta.unit.map fun u => decide (frameDist u.first 1 < u.length)) =
      some true := by decide +kernel

theorem witness_StepKeepsCapacities : State.reset.holdCountOk ∧ State.reset.faultCountOk ∧ State.reset.countsOk ∧ State.reset.hostQueuesOk ∧
    State.reset.uplinkOk ∧ State.reset.resultsOk ∧ State.reset.tablesOk ∧ State.reset.consumeOk ∧ step State.reset = .next State.reset.sleepTick := by
  refine ⟨?_, ?_, ?_, ?_, ?_, ?_, reset_tablesOk, ?_, rfl⟩
  · unfold State.holdCountOk; decide +kernel
  · unfold State.faultCountOk; decide +kernel
  · unfold State.countsOk; decide +kernel
  · unfold State.hostQueuesOk; decide +kernel
  · unfold State.uplinkOk; decide +kernel
  · unfold State.resultsOk; decide +kernel
  · unfold State.consumeOk; decide +kernel

theorem witness_StepKeepsClaimsAndIdentsDistinct : State.reset.tablesOk ∧ State.reset.claimsOk ∧ State.reset.identsOk ∧ State.reset.noneAsked ∧
    step State.reset = .next State.reset.sleepTick := by
  refine ⟨reset_tablesOk, ?_, ?_, rfl, rfl⟩
  · unfold State.claimsOk; decide +kernel
  · unfold State.identsOk; decide +kernel

theorem witness_StepKeepsCalls : State.reset.tablesOk ∧ State.reset.callsOk ∧ step State.reset = .next State.reset.sleepTick ∧
    (talking State.reset).callsOk := ⟨reset_tablesOk, reset_callsOk, rfl, callsOk_of_check (by decide +kernel)⟩

theorem witness_StepKeepsTextsAndPlayout : State.reset.tablesOk ∧ State.reset.textsOk ∧ State.reset.vcp.queuesOk ∧
    step State.reset = .next State.reset.sleepTick := by
  refine ⟨reset_tablesOk, ⟨?_, fun x o h => ?_, by decide +kernel⟩, ⟨by decide, by decide, fun _ => rfl, fun _ => rfl, fun p h => by cases h⟩, rfl⟩
  · unfold State.poolOk; decide +kernel
  · cases x <;> cases h

theorem witness_StepDrivesTheLines : exec .query State.reset = .next (go .query State.reset) ∧ State.reset.pinsOk ∧
    (dozing State.reset).drivePins.pinsOk ∧ State.reset.resetHeld = false := by
  refine ⟨rfl, ?_, ?_, rfl⟩
  · unfold State.pinsOk; decide +kernel
  · unfold State.pinsOk; decide +kernel

/-! ### More clauses, each with a state that meets its hypotheses -/

theorem witness_AckOutcomes_carried :
    let s := queued [passMsg 0] (ordered (orderA .signalling true) State.reset)
    s.rpt.order = some (orderA .signalling true) ∧ (orderA .signalling true).carriesHead = true ∧
    s.sge.queues.get (orderA .signalling true).sub = passMsg 0 :: [] ∧ (passMsg 0).opens = false := by decide +kernel

theorem witness_StoppedBlocksAreCounted_bad :
    let s (k : ClaimKind) := heldBy k listening
    (s .signalling).holderOf 0 = some ⟨.a, .signalling, 0, false⟩ ∧ (s .traffic).holderOf 0 = some ⟨.a, .traffic, 0, false⟩ ∧
    (s .handoverAccess).holderOf 0 = some ⟨.a, .handoverAccess, 0, false⟩ ∧ (s .traffic).dlc.filters.get .a = true ∧
    signalOk ⟨1, 7, none, none, .calling .international [4]⟩ = false ∧ (s .pagingListen).holderOf 0 = some ⟨.a, .pagingListen, 0, false⟩ ∧
    pageOk ⟨100, 4096, []⟩ = false ∧ (s .beaconRead).holderOf 0 = some ⟨.a, .beaconRead, 0, false⟩ ∧
    (s .search).holderOf 0 = some ⟨.a, .search, 0, false⟩ ∧ beaconOk ⟨7, 60, 5, 0, 0, 0, 4, -250, false, -100⟩ = false := by decide +kernel

/-- A REFUSAL of ident 4. -/
def refusal : SignalBlock := ⟨15, 4, none, some [.noRoute], .none⟩

/-- The SENT or LINKED transactions that a REFUSAL ends in A's frame, each with its state. -/
def refusable : List (Txn × State) :=
  [(txnA .link .psc .sent (some 9) none, served .a .attended State.reset), (txnA .link .psc .linked none (some 9), served .a .attended State.reset),
   (txnA .pass .host .sent (some 9) none, served .a .attended State.reset), (txnA .measReport .mob .sent (some 9) none, talking State.reset)]

theorem witness_AnswersAreMatched_refused : ∀ e ∈ refusable, let s := heldBy .signalling (opened (withTxn e.1 e.2))
    s.activityOk ∧ s.hears 0 sigA refusal ∧ s.txnBy .a 4 = some (0, e.1) ∧ s.sge.waiters = [] ∧ s.hlc.queue.length < 32 ∧
      (s.serving .a).any (·.barred) = false := by
  intro e h
  have d : ∀ e ∈ refusable, let s := heldBy .signalling (opened (withTxn e.1 e.2))
    activityCheck s = true ∧ s.hears 0 sigA refusal ∧ s.txnBy .a 4 = some (0, e.1) ∧ s.sge.waiters = [] ∧ s.hlc.queue.length < 32 ∧
      (s.serving .a).any (·.barred) = false := by unfold State.hears State.consumeOk; decide +kernel
  exact ⟨activityOk_of_check (d e h).1, (d e h).2⟩

theorem witness_PassThroughIsRouted_answer :
    let s := onLink (withTxn (txnA .pass .host .sent (some 9) none) State.reset)
    s.activityOk ∧ s.hears 0 sigA (sig 16 4) ∧ (heldBy .traffic s).hears 0 { sigA with kind := .traffic } (sig 63 4) ∧
    s.txnBy .a 4 = some (0, txnA .pass .host .sent (some 9) none) ∧ s.dlc.routes[16]? = some (.route .forward .defer) ∧
    s.hlc.queue.length < 32 ∧ (s.serving .a).any (·.barred) = false ∧ s.sge.waiters = [] ∧
    (s.record .a).standing = (s.record .a).standingNow ∧ lowestFree s.rta.claims ≠ none ∧ s.txnBy .a 5 = none := by
  refine ⟨activityOk_of_check (by decide +kernel), ?_⟩
  unfold State.hears State.consumeOk; decide +kernel

theorem witness_UpSignalIsAnswered_badParam :
    let f (sub : Byte) (body : List Byte) : HostFrame := ⟨.upSignal, sub, 9, body⟩
    let s (sub : Byte) (body : List Byte) := State.reset.onHlc fun h => { h with inbound := [f sub body] }
    (s 0xFF [0, 16, 0]).hlc.inbound = [f 0xFF [0, 16, 0]] ∧ (s 0xFF [0, 16, 0]).mayAct = true ∧ (s 0xFF [0, 16, 0]).resultPlaces < 8 ∧
    headerSub 0xFF = some none ∧ headerSub 2 = none ∧ (s 2 [0, 16, 0]).mayAct = true ∧ readAll readUpSignal [0] = none := by decide +kernel

theorem witness_AttachBeginsSearch_claim :
    let s := ask 0 8 [] (inState .a .detached State.reset)
    let g := { newClaim .a .search ⟨9, 15, 4, 64, false⟩ with state := .running, withdrawing := true }
    let r := s.onRta fun r => { r with claims := r.claims.set 3 (some g) }
    s.noneAsked ∧ s.hasClaim .a .search = false ∧ lowestFree s.rta.claims = some 0 ∧ r.noneAsked ∧ r.claimOf .a .search = some (3, g) ∧
    g.state = .running ∧ lowestFree (tableTaken s).rta.claims = none := by unfold State.noneAsked; decide +kernel

theorem witness_SleepEvaluationChoosesDepth_frame : (go .frameBoundary State.reset).rta.unit = none := by decide +kernel

theorem witness_MatchedPageIsAnswered_decided :
    let s := paged.onPscOf .a fun p => { p with listens := [⟨2002, true, true⟩] }
    let c := newClaim .a .pagingListen ⟨2002, 0, 2, 64, false⟩
    let older : Holder := ⟨.a, .pagingListen, 2000, false⟩
    let q := s.onRta fun r => { r with holders := r.holders.set 2 (some older) }
    s.holderOf 2002 = some ⟨.a, .pagingListen, 2002, false⟩ ∧ s.listenDecided .a 2002 = true ∧ c.kind = .pagingListen ∧
    some older ∈ q.rta.holders ∧ older.unitFirst ≠ q.clock.now := by decide +kernel

theorem witness_MissedOccasionRunFollowsEndCodes_quiet :
    let h : Listen := ⟨7, true, false⟩
    let p (n : Nat) (q : Int) : PscSub := { Reset.pscSub with listens := [h], relaxCount := n, thr := 3, level := some (-100), qmin := some q, margin := 8 }
    let s (n : Nat) (q : Int) := (withClaim 4 .a .measure ⟨9, 15, 1, 64, false⟩ State.reset).onPscOf .a fun _ => p n q
    (s 0 (-108)).pscOf .a = p 0 (-108) ∧ (p 0 (-108)).heardIn (some 7) = some h ∧ h.goodHeard = true ∧ h.matched = false ∧
    (p 0 (-108)).relaxCount < 3 ∧ ((-108 : Int) + (p 0 (-108)).margin ≤ -100) ∧ ¬ ((-107 : Int) + (p 0 (-107)).margin ≤ -100) ∧
    (p 2 (-108)).relaxCount + 1 = (p 2 (-108)).thr ∧ (p 0 (-108)).relaxCount + 1 ≠ (p 0 (-108)).thr ∧ (p 3 (-108)).thr ≤ (p 3 (-108)).relaxCount ∧
    (s 2 (-108)).claimOf .a .measure = some (4, newClaim .a .measure ⟨9, 15, 1, 64, false⟩) := by decide +kernel

/-- A's TRAFFIC placement due beside B's messages; two entries free, or one. -/
def contended (free : Nat) : State :=
  let s := (talking State.reset).onCal fun c => { c with trafficRetry := ⟨.due, .none⟩ }
  s.onRta fun r => { r with claims := List.replicate free none ++ List.replicate (12 - free) (some (newClaim .b .measure ⟨9, 15, 1, 64, false⟩)) }

/-- Placements asked for in the other order than that of their ranks. -/
def asksLate (s : State) : State := ((s.placeSearch .a).placeMeasure .a).ask .b .signalling (State.placeSignalling .b)

theorem witness_PlacementsAndTheirRetries_ranked :
    let l : List (ClaimKind × Sub) := [(.search, .a), (.measure, .a), (.signalling, .b)]
    let g (s : State) := asksLate (s.setAsked (some []))
    let due := contended 1
    (g (contended 2)).rta.asked = some l ∧
    placementOrder = placementOrder.take 5 ++ (.signalling, .b) :: placementOrder.drop 6 ∧
    (∀ f ∈ placementOrder.take 2, f ∉ l ∧ (g due).placementDue f.1 f.2 = false) ∧
    placementOrder = placementOrder.take 2 ++ (.traffic, .a) :: placementOrder.drop 3 ∧
    (g due).placementDue .traffic .a = true ∧ (ClaimKind.signalling, Sub.b) ∈ placementOrder.drop 3 ∧
    (g due).hasClaim .a .traffic = false ∧ lowestFree (g due).rta.claims ≠ none ∧
    (∀ f ∈ placementOrder.take 5, f ∉ l ∧ (asksLate ((holds 0 State.reset).setAsked (some []))).placementDue f.1 f.2 = false) ∧
    (asksLate (State.reset.setAsked (some []))).hasClaim .b .signalling = false := by decide +kernel

/-- The serving cell of A in a beacon. -/
def ownBeacon (area offset : Nat) (qmin : Int) (barred : Bool) : BeaconBlock := ⟨100, 50, area, 0, offset, 0, 5, qmin, barred, -100⟩

theorem witness_SearchKeepsAUsableBeacon_refresh :
    let s (k : ClaimKind) := heldBy k (served .a .camped State.reset)
    (s .beaconRead).activityOk ∧ (s .search).activityOk ∧ (s .beaconRead).holderOf 0 = some ⟨.a, .beaconRead, 0, false⟩ ∧
    (s .search).holderOf 0 = some ⟨.a, .search, 0, false⟩ ∧ (s .beaconRead).serving .a = some cell ∧ cell.cellId = (ownBeacon 5 3 (-250) false).cellId ∧
    beaconOk (ownBeacon 5 3 (-250) false) = true ∧ beaconOk (ownBeacon 6 4 (-251) true) = true ∧ cell.offset = 3 ∧ cell.area = 5 ∧
    cell.qmin = -250 ∧ ((s .beaconRead).record .a).dueFor 6 = true ∧ (s .beaconRead).activity (Sub.other .a) ≠ .inCall ∧
    (s .beaconRead).takesOffer .a ((s .beaconRead).areaOffer .a 6) = true ∧ (s .beaconRead).activity .a = .camped ∧
    ((s .beaconRead).record .a).identity = some [1, 2, 3, 4, 0, 8, 1, 5] ∧ (served .a .inCall State.reset).activity .a ≠ .camped := by
  refine ⟨activityOk_of_check (by decide +kernel), activityOk_of_check (by decide +kernel), ?_⟩
  decide +kernel

theorem witness_ReselectionReads_refresh :
    let s := (besides { near .tracked 0 2 with allowed := false } (served .a .camped State.reset)).onServing .a fun v => { v with confirmed := false }
    s.serving .a = some { cell with confirmed := false } ∧ s.activity .a = .camped ∧ s.hasClaim .a .beaconRead = false ∧ s.placementsDue = [] ∧
    lowestFree s.rta.claims ≠ none ∧ s.noneAsked ∧ s.rta.claims.length = 12 ∧ (taken s.rta.claims).length ≤ 10 ∧
    (∃ i n, (some 15 : Option Nat) = some i ∧ entryAt (s.mobOf .a).neighbours i = some n ∧ n.allowed = false) ∧
    (served .a .inCall s).activity .a ≠ .camped ∧
    ((s.onMobOf .a fun m => { m with readPurpose := some .refresh }).mobOf .a).readPurpose = some .refresh := by
  unfold State.noneAsked
  exact ⟨by decide +kernel, by decide +kernel, by decide +kernel, by decide +kernel, by decide +kernel, by decide +kernel, by decide +kernel,
    by decide +kernel, ⟨15, { near .tracked 0 2 with allowed := false }, rfl, by decide +kernel, rfl⟩, by decide +kernel, by decide +kernel⟩

theorem witness_IncomingCalls_releaseDone :
    let done : SignalBlock := ⟨9, 4, none, none, .none⟩
    let named := onLink (withTxn (txnA .release (.ctx 0) .sent (some 9) none) (calling .releasing .attended State.reset))
    let plain := listening
    named.callsOk ∧ named.hears 0 sigA done ∧ named.sge.waiters = [] ∧
    named.txnBy .a 4 = some (0, txnA .release (.ctx 0) .sent (some 9) none) ∧ (named.ctx 0).state = .releasing ∧ (named.ctx 0).sub = .a ∧
    (named.ctx 0).endCause = some .hostRelease ∧ (named.ctx 0).screenedOut = false ∧ named.hlc.queue.length < 32 ∧
    ((named.txnsOf .a).find? fun e => e.2.kind == .link && e.2.state == .linked) = some (7, { txnA .link .psc .linked none (some 1024) with ident := 12 }) ∧
    plain.callsOk ∧ plain.hears 0 sigA done ∧ plain.hasLinked .a = false ∧ plain.txnBy .a 4 = none ∧ (onLink State.reset).callsOk ∧
    (onLink State.reset).hears 0 sigA done ∧ (onLink State.reset).hasLinked .a = true ∧ (onLink State.reset).txnBy .a 4 = none := by
  intro done named plain
  have d : callsCheck named = true ∧ callsCheck plain = true ∧ callsCheck (onLink State.reset) = true := by decide +kernel
  simp only [callsOk_of_check d.1, callsOk_of_check d.2.1, callsOk_of_check d.2.2, true_and]
  unfold State.hears State.consumeOk; decide +kernel

/-- The other answers a context's transaction takes: code, kind, and the state. -/
def progressed : List (Nat × TxnKind × State) :=
  [(2, .setup, calling .originating .attended State.reset), (3, .setup, calling .originating .attended State.reset),
   (3, .setup, withCtx 0 { ctxA .originating with progress := .proceeding } (served .a .attended State.reset)),
   (2, .setup, withCtx 0 { ctxA .originating with progress := .alert } (served .a .attended State.reset)),
   (15, .connect, calling .connecting .attended State.reset), (15, .release, calling .releasing .attended State.reset)]

theorem witness_CallAnswersMoveTheirContext_more : ∀ e ∈ progressed,
    let s := heldBy .signalling (opened (withTxn (txnA e.2.1 (.ctx 0) .sent (some 9) none) e.2.2))
    let b : SignalBlock := ⟨e.1, 4, some 2, if e.1 = 15 then some [.noRoute] else none, .none⟩
    s.callsOk ∧ s.hears 0 sigA b ∧ s.answersCtx .a b 0 (txnA e.2.1 (.ctx 0) .sent (some 9) none) 0 ∧ s.hlc.queue.length < 32 ∧
      s.hasPlace .a (some (.ctx 0)) = true := by
  intro e h
  have d : ∀ e ∈ progressed,
    let s := heldBy .signalling (opened (withTxn (txnA e.2.1 (.ctx 0) .sent (some 9) none) e.2.2))
    let b : SignalBlock := ⟨e.1, 4, some 2, if e.1 = 15 then some [.noRoute] else none, .none⟩
    callsCheck s = true ∧ s.hears 0 sigA b ∧ s.answersCtx .a b 0 (txnA e.2.1 (.ctx 0) .sent (some 9) none) 0 ∧ s.hlc.queue.length < 32 ∧
      s.hasPlace .a (some (.ctx 0)) = true := by
    unfold State.hears State.consumeOk State.answersCtx; decide +kernel
  exact ⟨callsOk_of_check (d e h).1, (d e h).2⟩

theorem witness_SpeechIsQueued_more :
    let t (k : ClaimKind) := heldBy k (opened State.reset)
    let s (n late : Nat) := speaking .playing (some 127) ((List.range n).map fun k => ⟨BitVec.ofNat 8 (k + 128), forty⟩) late [] (t .traffic)
    (t .handoverAccess).holderOf 0 = some ⟨.a, .handoverAccess, 0, false⟩ ∧ (t .handoverAccess).dlc.filters.get .a = true ∧
    (s 1 0).vcp.playout ≠ .stopped ∧ seqAhead 127 (BitVec.ofNat 8 128) = true ∧ (∃ q ∈ (s 1 0).vcp.queue, q.seq = BitVec.ofNat 8 128) ∧
    8 ≤ (s 8 0).vcp.queue.length ∧ (∀ q ∈ (s 8 0).vcp.queue, q.seq ≠ BitVec.ofNat 8 136) ∧ seqAhead 127 (BitVec.ofNat 8 136) = true ∧
    voiceOk ⟨136, forty⟩ = true ∧ voiceOk ⟨136, []⟩ = false ∧ seqAhead 127 (BitVec.ofNat 8 100) = false ∧ (s 1 3).vcp.lateRun = 3 ∧
    ((s 1 0).onVcp fun v => { v with resync := true }).vcp.resync = true ∧ 1 < (s 1 3).vcp.depth := by decide +kernel

theorem witness_UnitsEndAndClaimsAreSettled_long :
    let c := newClaim .a .search ⟨100, 15, 4, 4090, false⟩
    c.withdrawing = false ∧ c.perFrame = false ∧ c.period = 4090 ∧ latestBefore (c.first + frameOf 4090) c.slack 104 = false ∧
    frameDist c.first 104 < 4090 ∧ c.first + frameOf 4090 ≠ 104 ∧ (c.laterAfter 4090 104) = true ∧
    frameDist (c.first + frameOf 4090) 104 ≤ c.slack := by decide +kernel

/-! ### Single points: spacing, the order of placements, listens, reselection -/

/-- A SEARCH of 4090 frames that ran from frame 100 is open again at frame 94 of the next round, and not at frame 104 (R47). -/
theorem test_long_period_keeps_its_spacing :
    let c := newClaim .a .search ⟨100, 15, 4, 4090, false⟩
    let g := c.rearm .missed 104
    let s := (atFrame 103 State.reset).onRta fun r => { r with claims := r.claims.set 0 (some g) }
    g.first = 94 ∧ g.later = true ∧ s.eligible 104 g = false ∧ (newClaim .a .measure ⟨100, 15, 1, 64, false⟩).rearm .done 101 =
      { newClaim .a .measure ⟨164, 15, 1, 64, false⟩ with lastEnd := some .done } := by decide +kernel

/-- One entry is free: of what one boundary asks for, the first in rank gets it, a due placement that outranks it before it (R36). -/
theorem test_placements_go_by_rank :
    let kinds (s : State) : List (Sub × ClaimKind) := (taken s.rta.claims).filterMap fun e => if e.1 = 0 then some (e.2.sub, e.2.kind) else none
    let plain := (contended 1).onCal fun c => { c with trafficRetry := ⟨.none, .none⟩ }
    kinds (plain.inRankOrder asksLate) = [(.b, .signalling)] ∧ kinds ((contended 1).inRankOrder asksLate) = [(.a, .traffic)] ∧
    kinds (asksLate plain) = [(.a, .search)] := by decide +kernel

/-- A listen decided in frame 17 whose claim is placed again for frame 20: a PAGE of frame 18 told in frame 20 still finds its record (R71). -/
theorem test_decided_listen_stays_decided :
    let c := newClaim .a .pagingListen ⟨20, 0, 2, 64, false⟩
    let s := ((withClaim 0 .a .pagingListen ⟨20, 0, 2, 64, false⟩ (atFrame 20 (served .a .camped State.reset))).onRta fun r => { r with
      holders := r.holders.set 2 (some ⟨.a, .pagingListen, 17, false⟩) }).onPscOf .a fun p => { p with listens := [⟨17, true, true⟩] }
    (s.startUnit 0 c).listenDecided .a 17 = true ∧ (s.startUnit 0 c).listenDecided .a 20 = false ∧
    (go (.pageBlock 18 true ⟨100, 0, [itemA .text]⟩) (s.startUnit 0 c)).txnsOf .a = [] := by decide +kernel

/-- A read that ends DONE in CAMPED while an access goes on whose call has ended is swapped in (R106). -/
theorem test_reselection_during_an_access :
    let s := (besides (near .tracked 0 2) (served .a .camped State.reset)).onMobOf .a fun m => { m with
      hoState := .access, readPurpose := some (.reselect 15 7) }
    let t := s.readEnded .a .done (some (beacon7 false (-200)))
    (t.serving .a).map (·.cellId) = some 7 ∧ (t.mobOf .a).hoState = .access ∧ (t.mobOf .a).readPurpose = none := by decide +kernel

theorem witness_CallAnswersMoveTheirContext_noPlace :
    let s := heldBy .signalling (opened (crowded (.ctx 2) (withTxn (txnA .hold (.ctx 0) .sent (some 9) none)
      (asking (.answer 2) (withCtx 2 { ctxA .offered with answerPending := true, callRef := 3 } (calling .holding .inCall State.reset))))))
    let b : SignalBlock := ⟨6, 4, some 2, none, .none⟩
    s.callsOk ∧ s.hears 0 sigA b ∧ s.answersCtx .a b 0 (txnA .hold (.ctx 0) .sent (some 9) none) 0 ∧ (s.ctx 0).state = .holding ∧
    s.cal.pendingReq = some ⟨.answer 2, 0, 9, none⟩ ∧ (s.ctx 2).state = .offered ∧ (s.ctx 2).answerPending = true ∧
    s.hasPlace .a (some (.ctx 2)) = false ∧ ∀ m ∈ s.sge.queues.get .a ++ s.sge.holds.get .a, m.isOpenerOf 4 = false := by
  intro s b
  have d : callsCheck s = true := by decide +kernel
  refine ⟨callsOk_of_check d, ?_⟩
  unfold State.hears State.consumeOk State.answersCtx; decide +kernel

theorem witness_HandoverCommandIsTaken_order :
    (newClaim .a .handoverAccess ⟨1001, 8, 4, 0, false⟩).kind = .handoverAccess ∧
    ((go (.signalBlock 1000 true (command 5107)) handedOver).mobOf .a).hoCmd = some ⟨22, 6, 310, 1500, 0⟩ := by decide +kernel

/-- The access order names the target of the command, also when a beacon of the target has moved the serving record's timing (R49). -/
theorem test_access_order_names_the_target :
    let s := (go (.signalBlock 1000 true (command 5107)) handedOver).onServing .a fun v => { v with offset := 7, phase := 3 }
    let t := go .frameBoundary s
    (t.rpt.order.map fun o => (o.claimKind, o.freq, o.offset, o.phase)) = some (.handoverAccess, 310, 1500, 0) := by decide +kernel

theorem witness_SleepEvaluationChoosesDepth_present :
    let s := (withClaim 0 .a .measure ⟨2, 15, 1, 64, false⟩ State.reset).onClock fun c => { c with tick := 256 }
    s.wakeDistance = some 2 ∧ s.maySleep = true ∧ 2 * 256 - s.clock.tick ≤ 256 := by decide +kernel

theorem test_sleep_stays_awake_at_a_gap_of_256 :
    let s := (withClaim 0 .a .measure ⟨2, 15, 1, 64, false⟩ State.reset).onClock fun c => { c with tick := 256 }
    s.evaluate.psc.power = .awake ∧ (s.enterLight 3).recomputeWake.psc.power = .awake := by decide +kernel

theorem witness_FramesAreCarried_noTransfer : State.reset.hlc.link = .none ∧
    (State.reset.onHlc fun h => { h with link := .carrying }).hlc.link ≠ .none := by decide +kernel

theorem witness_DetachTearsDown_badParam :
    (ask 0xFF 9 [] State.reset).asks (req 0xFF 9 []) [] 9 [] ∧ headerSub 0xFF = some none ∧
    (ask 2 9 [] State.reset).asks (req 2 9 []) [] 9 [] ∧ headerSub 2 = none ∧
    (ask 1 9 [0] State.reset).asks (req 1 9 [0]) [] 9 [0] := by
  unfold State.asks; decide +kernel

theorem witness_MatchedPageIsAnswered_refused :
    let s := (served .b .attended paged).onSge fun g => { g with
      txns := (List.range 8).map fun n => some { txnA .pass .host .sent (some 9) none with sub := .b, ident := BitVec.ofNat 4 n } }
    s.activityOk ∧ s.holderOf 2002 = some ⟨.a, .pagingListen, 2002, false⟩ ∧ s.listenDecided .a 2002 = false ∧
    [itemA .call].find? (s.record .a).matchesItem = some (itemA .call) ∧ s.pageForbidden .a = false ∧ s.hlc.queue.length < 32 ∧
    s.takesOffer .a ⟨some .psc, some .link, 0, some .call, .pageResponse (itemA .call).identity .call⟩ = false := by
  refine ⟨activityOk_of_check (by decide +kernel), ?_⟩
  decide +kernel

/-- A text of A acknowledged while neither the uplink queue nor TXT's hold has a place. -/
def unplaced : State := withTxn (txnA .textOut .txt .sent (some 9) none) (crowded .txt ((onLink State.reset).setOutgoing .a (some sending)))

theorem witness_TextSegmentsAreStoredAndAnswered_noPlace :
    unplaced.activityOk ∧ unplaced.hears 0 sigA ⟨11, 4, none, none, .none⟩ ∧ unplaced.outgoingOf .a = some sending ∧
    unplaced.txnBy .a 4 = some (0, txnA .textOut .txt .sent (some 9) none) ∧ unplaced.sge.waiters = [] ∧
    unplaced.hasPlace .a (some .txt) = false ∧
    ∀ m, m ∈ unplaced.sge.queues.get .a ∨ m ∈ unplaced.sge.holds.get .a → m.isOpenerOf 4 = false := by
  refine ⟨activityOk_of_check (by decide +kernel), ?_, by decide +kernel, by decide +kernel, by decide +kernel, by decide +kernel, ?_⟩
  · unfold State.hears State.consumeOk; decide +kernel
  · have h : (unplaced.sge.queues.get .a ++ unplaced.sge.holds.get .a).all (fun m => !m.isOpenerOf 4) = true := by decide +kernel
    intro m hm
    simpa using List.all_eq_true.mp h m (List.mem_append.mpr hm)

theorem test_unplaced_segment_is_due :
    let t := go (.signalBlock 0 true ⟨11, 4, none, none, .none⟩) unplaced
    t.outgoingOf .a = some { sending with segments := [[8]], nextSeq := 3, segmentDue := true } ∧ t.sge.waiters = [⟨.segment, .a, false⟩] := by
  decide +kernel

theorem witness_GrantAndContest_orders :
    let n := near .tracked 0 2
    let s := copied (besides n (served .a .camped State.reset))
    let c (k : ClaimKind) := newClaim .a k ⟨1, 15, 4, 64, false⟩
    (s.mobOf (c .pagingListen).sub).serving = some cell ∧ (c .measure).kind = .measure ∧ (c .search).kind = .search ∧ (c .beaconRead).kind = .beaconRead ∧
    ((s.onMobOf .a fun m => { m with readPurpose := some (.reselect 15 7) }).mobOf .a).readPurpose = some (.reselect 15 7) ∧
    entryAt (s.mobOf .a).neighbours 15 = some n ∧ n.cellId = 7 ∧
    ((s.onMobOf .a fun m => { m with readPurpose := some .refresh }).mobOf .a).readPurpose = some .refresh ∧
    s.rta.copies.get (c .traffic).sub = some ⟨50, 3, 0⟩ ∧ (c .signalling).kind = .signalling := by decide +kernel

/-- Sixteen neighbours, the odd ones on one channel. -/
def surrounded (m : MobSub) : MobSub :=
  { m with neighbours := (List.range 16).map fun i => some ⟨200 + i, if i % 2 = 1 then 60 else 70 + i, 0, true, .unmeasured, none, 0, 0⟩,
           rotation := 12, lastFreq := some 50, searchPos := 17 }

theorem witness_MeasurementResults_whole :
    let s := served .a .camped State.reset
    let m := surrounded (s.mobOf .a)
    let around := s.onMobOf .a surrounded
    let cells : List ListedCell := [⟨some 15, 7, 60⟩, ⟨some 0, 8, 60⟩]
    m.neighbours.length = 16 ∧ m.listedNeighbours.length = 7 ∧ m.listedNeighbours.filterMap (·.index) = [12, 13, 14, 15, 0, 1, 2] ∧
    around.activityOk ∧ (around.mobOf .a).serving = some cell ∧ (∀ c ∈ cells, c.index ≠ none) ∧
    cells.Pairwise (fun c d => c.index ≠ d.index) ∧ (around.mobOf .a).hoState ≠ .access ∧
    entryAt (around.mobOf .a).neighbours 15 ≠ none ∧ cell.floorRun + 1 < 4 := by
  refine ⟨by decide +kernel, by decide +kernel, by decide +kernel, activityOk_of_check (by decide +kernel), ?_⟩
  decide +kernel

theorem test_search_list_and_its_places :
    let m := surrounded Reset.mobSub
    m.searchList = [70, 60, 72, 74, 76, 78, 80, 82, 84, 50] ∧ m.takeSearchFreq = (82, { m with searchPos := 8 }) ∧
    Reset.mobSub.takeSearchFreq = (0, { Reset.mobSub with bandScan := 1 }) := by decide +kernel

theorem witness_SearchKeepsAUsableBeacon_list :
    let m := surrounded Reset.mobSub
    m.searchList ≠ [] ∧ m.searchList[17 % 10]? = some 82 ∧ Reset.mobSub.searchList = [] ∧ m.searchList[1]? = some 60 ∧
    (∃ n, some n ∈ m.neighbours ∧ n.freq = 60) ∧ m.lastFreq = some 50 :=
  ⟨by decide +kernel, by decide +kernel, by decide +kernel, by decide +kernel,
    ⟨⟨201, 60, 0, true, .unmeasured, none, 0, 0⟩, by decide +kernel, rfl⟩, rfl⟩

/-- A SEARCH of A in its last frame, with a beacon kept. -/
def searched : State :=
  withUnit { unitOf .search State.reset with length := 1, kept := some (beacon7 false (-200)) }
    (withClaim 3 .a .search ⟨0, 15, 4, 640, false⟩ (inState .a .noService State.reset))

theorem witness_UnitsEndAndClaimsAreSettled_unit :
    let u : RadioUnit := { unitOf .search State.reset with length := 1, kept := some (beacon7 false (-200)) }
    searched.callsOk ∧ searched.rpt.order = none ∧ searched.rta.unit = some u ∧ u.length ≤ frameDist u.first (searched.clock.now + 1) ∧
    u.kind = .search ∧ u.withdrawn = false ∧ searched.activity u.sub = .noService ∧
    searched.claimOf u.sub u.kind = some (3, newClaim .a .search ⟨0, 15, 4, 640, false⟩) ∧
    (withUnit u State.reset).claimOf u.sub u.kind = none ∧
    entryAt searched.rta.claims 3 = some (newClaim .a .search ⟨0, 15, 4, 640, false⟩) := by
  refine ⟨callsOk_of_check (by decide +kernel), ?_⟩
  decide +kernel

theorem test_search_over_camps : ((go .frameBoundary searched).serving .a).map (fun v => (v.cellId, v.fs)) = some (7, some (-3200)) ∧
    (go .frameBoundary searched).rta.unit = none := by decide +kernel

theorem witness_HostDozesAndQueries_records : (65535 : Nat) < 65536 ∧ (-32768 : Int) ≤ -32768 ∧ (32767 : Int) < 32768 ∧ (255 : Nat) < 256 ∧
    readInt (putInt (-32768)) = some (-32768, []) ∧ readNat (putNat 65535) = some (65535, []) := by decide +kernel

theorem witness_FramesAreCarried_layout :
    let r : ResultFrame := ⟨9, none, 20, .failed, [1, 2]⟩
    let s := State.reset.onHlc fun h => { h with sending := some .result, results := [r] }
    s.resetHeld = false ∧ s.hlc.sending = some .result ∧ s.hlc.results = [r] ∧
    ([.ok, .busy, .busyOther, .badParam, .state, .limit, .noService, .failed] : List ResultCode)[7]? = some r.code ∧
    s.dataOut = [0x81, 0xFF, 0, 4, 9, 20, 7, 1, 2] := by decide +kernel

theorem test_result_of_an_invalid_subscription_names_none :
    (go .radioHold (ask 0x42 18 [] State.reset)).hlc.results = [⟨9, none, 18, .badParam, []⟩] := by decide +kernel

/-! ### Timers, claims placed again, choices: further clauses, each with a state that meets its hypotheses -/

/-- One timer of every kind at work in A: a transaction's two, a queued and a held message's, a ringing context's, a text's, two placements'. -/
def timed : State :=
  let s := textAt .collecting .quiet (withCtx 2 { ctxA .offered with ring := some 9 } (withTxn (txnA .link .psc .linked (some 5) (some 7))
    (queued [passMsg 3] (served .a .attended State.reset))))
  (s.onMobOf .a fun m => { m with measRetry := some 4, searchRetry := some 0, hoState := .returnCheck, returnCounter := 6 }).onSge fun g =>
    { g with holds := ⟨[passMsg 3], []⟩ }

theorem test_boundary_counts_timers :
    let t := go .frameBoundary timed
    timed.rpt.order = none ∧ timed.rta.unit = none ∧ taken timed.rta.claims = [] ∧ (timed.mobOf .b).hoState ≠ .returnCheck ∧
    t.txnBy .a 4 = some (0, txnA .link .psc .linked (some 4) (some 6)) ∧ t.sge.queues.a = [passMsg 4] ∧ t.sge.holds.a = [passMsg 3] ∧
    (t.ctx 2).ring = some 8 ∧ (t.mobOf .a).measRetry = some 3 ∧ (t.mobOf .a).searchRetry = some 0 ∧ (t.mobOf .a).returnCounter = 5 := by
  decide +kernel

theorem witness_FrameBoundaryAdvancesFrame_deadline :
    let o := ordered { orderA .handoverAccess false with tag := 15 } (accessing false)
    (o.mobOf .a).hoState ≠ .returnCheck ∧ ((go .orderDeadline o).mobOf .a).hoState = .returnCheck ∧
    ((go .orderDeadline o).mobOf .a).returnNew = true := by decide +kernel

/-- A receiver under a radio hold, and one that A's SEARCH keeps, at a frame that a TRAFFIC of A and a listen of B ask for. -/
theorem witness_GrantAndContest_passedOver :
    let held := holds 1 (tuned State.reset)
    let kept := withUnit { unitOf .search (tuned State.reset) with first := 18 } (tuned State.reset)
    held.claimsOk ∧ held.unavailable false = true ∧ kept.claimsOk ∧ kept.unavailable false = false ∧ kept.rta.unit ≠ none ∧
    held.eligibles.map (fun e => (e.2.sub, e.2.kind)) = [(.a, .traffic), (.b, .pagingListen)] ∧
    kept.eligibles.map (fun e => (e.2.sub, e.2.kind)) = [(.a, .traffic), (.b, .pagingListen)] ∧ held.vcp.lost ≤ 255 ∧
    (held.grant false).vcp.lost = 1 ∧ (tuned State.reset).vcp.lost ≤ 255 := by
  unfold State.claimsOk; decide +kernel

theorem witness_GrantAndContest_boundary :
    let idle := State.reset.setAsked (some [])
    let busy := (withUnit (unitOf .search State.reset) State.reset).setAsked (some [])
    let c := newClaim .a .traffic standingWindow
    let one := (holds 1 (withClaim 11 .a .traffic standingWindow (copied (atFrame 18 State.reset)))).onVcp fun v => { v with lost := 255 }
    idle.rpt.order = none ∧ idle.rta.asked = some [] ∧ idle.rta.unit = none ∧ busy.rpt.order = none ∧ busy.rta.asked = some [] ∧
    busy.rta.unit = some (unitOf .search State.reset) ∧ frameDist (unitOf .search State.reset).first busy.clock.now < (unitOf .search State.reset).length ∧
    one.rpt.order = none ∧ one.rta.unit = none ∧ 0 < one.rta.holdCount ∧ taken one.rta.claims = [(11, c)] ∧ c.perFrame = c.kind.standing ∧
    c.kind.standing = true ∧ one.eligible (one.clock.now + 1) c = true := by decide +kernel

theorem witness_OrderFaultEndsUnit_traffic :
    let s (w : Bool) := withUnit { unitOf .traffic State.reset with withdrawn := w } (ordered (orderA .traffic false) State.reset)
    ∀ w, (s w).rpt.order = some (orderA .traffic false) ∧ ((s w).rta.unit.map fun u => (u.kind, u.withdrawn)) = some (.traffic, w) := by
  decide +kernel

/-- A's MEASURE at index 4 and SEARCH at index 5, as `f` leaves them. -/
def replaceable (f : Claim → Claim) (s : State) : State :=
  (withClaim 5 .a .search ⟨3, 15, 4, 640, false⟩ (withClaim 4 .a .measure ⟨3, 15, 1, 64, false⟩ s)).onRta fun r => { r with
    claims := r.claims.map (Option.map f) }

theorem witness_SettingsAreReplacedWhole_claims :
    let relaxing := State.reset.onPscOf .a fun p => { p with thr := 3, relaxCount := 3, factor := 2 }
    let s (f : Claim → Claim) := replaceable f relaxing
    let run (c : Claim) : Claim := { c with state := .running }
    let gone (c : Claim) : Claim := { c with withdrawing := true }
    let sleep (thr factor : Nat) := putNat 16 ++ putNat thr ++ putNat 0 ++ putNat factor ++ putNat 1 ++ putNat 60 ++ putNat 0
    let after (thr factor : Nat) := (go .setSleep (ask 0xFF 7 (sleep thr factor) (s id))).pscOf .a
    ((s id).claimOf .a .measure = some (4, newClaim .a .measure ⟨3, 15, 1, 64, false⟩) ∧
      (s run).claimOf .a .measure = some (4, run (newClaim .a .measure ⟨3, 15, 1, 64, false⟩)) ∧
      (s gone).claimOf .a .search = some (5, gone (newClaim .a .search ⟨3, 15, 4, 640, false⟩))) ∧
    ((s id).pscOf .a).relaxed = true ∧ (after 255 8).relaxed = false ∧ ((after 3 8).relaxed = true ∧ (after 3 8).factor = 8) ∧
    ((after 3 2).relaxed = true ∧ (after 3 2).factor = 2) ∧ ((s id).mobOf .a).params.period ≠ 16 ∧ ((s id).mobOf .a).params.searchInterval ≠ 4095 ∧
    (s id).claimOf .b .measure = none := by decide +kernel

/-- A schedule of A. -/
def listenOf : Schedule := scheduleOf cell none [1, 2, 3, 4, 0, 8, 1, 5]

/-- A's schedule set. -/
def scheduled (s : State) : State := s.onPscOf .a fun p => { p with schedule := some listenOf }

theorem witness_TimersAndWaitingMessages_claims :
    let s := queued [passMsg 1024] State.reset
    let l := scheduled (withTxn (txnA .link .psc .linked none (some 0)) (opened (served .a .attended State.reset)))
    s.claimsOk ∧ s.activityOk ∧ (s.sge.queues.get .a).eraseIdx 0 = [] ∧ s.txnsOf .a = [] ∧ l.callsOk ∧ l.sge.waiters = [] ∧
    l.txnBy .a 4 = some (0, txnA .link .psc .linked none (some 0)) ∧ (l.serving .a).any (·.barred) = false ∧
    (go (.linkIdle .a 4) l).activity .a = .camped ∧ (l.record .a).registration ≠ .rejected ∧ (l.pscOf .a).schedule = some listenOf ∧
    l.hasClaim .a .pagingListen = false ∧ l.rta.claims.length = 12 ∧ (taken l.rta.claims).length ≤ 8 := by
  refine ⟨by unfold State.claimsOk; decide +kernel, activityOk_of_check (by decide +kernel), by decide +kernel, by decide +kernel,
    callsOk_of_check (by decide +kernel), ?_⟩
  decide +kernel

theorem witness_UplinkPlacesAndIdents_stepping :
    let t (n : Ident) := some { txnA .pass .host .sent (some 9) none with ident := n }
    let s := State.reset.onSge fun g => { g with txns := t 15 :: t 0 :: g.txns.drop 2, nextIdent := ⟨15, 3⟩ }
    let o : Offer := ⟨some .host, some .pass, 0, none, .pass 20 []⟩
    let plain : Offer := ⟨some .host, none, 0, none, .pass 20 []⟩
    (∀ j, j < 2 → s.sge.nextIdent.get .a + BitVec.ofNat 4 j ∈ s.usedIdents .a) ∧ s.sge.nextIdent.get .a + BitVec.ofNat 4 2 ∉ s.usedIdents .a ∧
    s.takesOffer .a o = true ∧ s.takesOffer .a plain = true ∧ s.nextFreeIdent .a = 1 ∧ (s.offer .a o).2.sge.nextIdent = ⟨2, 3⟩ := by
  decide +kernel

/-- A SIGNALLING of A that runs and is being withdrawn. -/
def leavingClaim : Claim := { newClaim .a .signalling standingWindow with state := .running, withdrawing := true }

theorem witness_UplinkPlacesAndIdents_signalling :
    let q := queued [passMsg 0] State.reset
    let r := q.onRta fun r => { r with claims := r.claims.set 3 (some leavingClaim) }
    let p := withClaim 1 .a .traffic standingWindow q
    q.claimsOk ∧ r.claimsOk ∧ p.claimsOk ∧ q.noneAsked ∧ r.noneAsked ∧ p.noneAsked ∧ p.claimInPlace .a .traffic = true ∧
    (State.reset.sge.queues.get .a = [] ∧ State.reset.txnsOf .a = []) ∧ q.claimInPlace .a .traffic = false ∧ q.sge.queues.get .a ≠ [] ∧
    q.takesClaim .a .signalling ∧ r.claimInPlace .a .traffic = false ∧ r.sge.queues.get .a ≠ [] ∧ r.takesClaim .a .signalling := by
  refine ⟨?_, ?_, ?_, rfl, rfl, rfl, by decide +kernel, by decide +kernel, by decide +kernel, by decide +kernel, .inl (by decide +kernel),
    by decide +kernel, by decide +kernel, .inr ⟨3, leavingClaim, by decide +kernel, .inr rfl⟩⟩ <;> unfold State.claimsOk <;> decide +kernel

theorem witness_UpSignalIsAnswered_claim :
    let s := upSig 16 false (served .a .camped State.reset)
    let p := upSig 16 false (withClaim 1 .a .traffic standingWindow (talking State.reset))
    s.activityOk ∧ p.activityOk ∧ s.claimsOk ∧ p.claimsOk ∧ s.noneAsked ∧ p.noneAsked ∧ s.claimInPlace .a .traffic = false ∧
    s.takesClaim .a .signalling ∧ p.claimInPlace .a .traffic = true ∧ (p.activity .a).isCampedState = true ∧ p.mayAct = true := by
  refine ⟨activityOk_of_check (by decide +kernel), activityOk_of_check (by decide +kernel), ?_, ?_, rfl, rfl, by decide +kernel,
    .inl (by decide +kernel), by decide +kernel, by decide +kernel, by decide +kernel⟩ <;> unfold State.claimsOk <;> decide +kernel

theorem witness_SleepEvaluationChoosesDepth_recomputed :
    let s (p : Power) (n : Nat) (back : Nat) (w : Option Nat) := (withClaim 0 .a .measure ⟨frameOf n, 15, 1, 64, false⟩ State.reset).onPsc fun q =>
      { q with power := p, lightReturn := some (frameOf back), wakeTimer := w, notedS := 100 }
    State.reset.wakeDistance = none ∧ State.reset.psc.power = .awake ∧
    ((s .light 1 3 none).wakeDistance = some 1 ∧ 1 * 256 - (s .light 1 3 none).clock.tick ≤ 256) ∧
    ((s .light 3 4 none).wakeDistance = some 3 ∧ 256 < 3 * 256 - (s .light 3 4 none).clock.tick ∧
      (s .light 3 4 none).psc.lightReturn = some (frameOf 4) ∧ 3 - 1 < frameDist (s .light 3 4 none).clock.now (frameOf 4)) ∧
    (s .deep 1 0 none).psc.power = .deep ∧ 1 * 256 - (s .deep 1 0 none).clock.tick ≤ (s .deep 1 0 none).psc.notedS + 256 ∧
    (s .deep 3 0 none).wakeDistance = some 3 ∧ (s .deep 3 0 none).psc.notedS + 256 < 3 * 256 - (s .deep 3 0 none).clock.tick ∧
    (s .deep 3 0 (some 9)).psc.wakeTimer = some 9 ∧ (State.reset.place .a .measure ⟨3, 15, 1, 64, false⟩).1 = true ∧
    (withClaim 2 .a .traffic standingWindow State.reset).claimOf .a .traffic = some (2, newClaim .a .traffic standingWindow) := by
  decide +kernel

theorem witness_MatchedPageIsAnswered_heard :
    let l (n : Frame) (m : Bool) := paged.onPscOf .a fun p => { p with listens := [⟨n, false, m⟩] }
    (l 2002 false).holderOf 2002 = some ⟨.a, .pagingListen, 2002, false⟩ ∧ pageOk ⟨100, 0, []⟩ = true ∧ pageOk ⟨101, 0, []⟩ = true ∧
    ((l 2002 false).serving .a).map (·.cellId) = some 100 ∧ ([] : List PageItem).find? ((l 2002 false).record .a).matchesItem = none ∧
    (l 2002 true).listenDecided .a 2002 = true ∧ (l 2002 false).activityOk ∧ (l 2002 false).listenDecided .a 2002 = false ∧
    [itemA .text].find? ((l 2002 false).record .a).matchesItem = some (itemA .text) ∧
    ((l 2002 false).pscOf .a).heardIn (some 2002) = some ⟨2002, false, false⟩ ∧ ((l 2000 false).pscOf .a).heardIn (some 2002) = none := by
  refine ⟨by decide +kernel, by decide +kernel, by decide +kernel, by decide +kernel, by decide +kernel, by decide +kernel,
    activityOk_of_check (by decide +kernel), ?_⟩
  decide +kernel

theorem witness_PlacementsAndTheirRetries_activity :
    let s := scheduled (opened (served .a .attended State.reset))
    let refused := s.onRecord .a fun r => { r with registration := .rejected }
    let busy := withTxn (txnA .link .psc .queued none none) (served .a .camped State.reset)
    let call := withCtx 0 (ctxA .active) (served .a .attended State.reset)
    let retry := (talking State.reset).onCal fun c => { c with trafficRetry := ⟨.due, .none⟩ }
    s.noneAsked ∧ (s.serving .a).any (·.barred) = false ∧ (refused.record .a).registration = .rejected ∧ (s.record .a).registration ≠ .rejected ∧
    (s.pscOf .a).schedule = some listenOf ∧ s.hasClaim .a .pagingListen = false ∧ lowestFree s.rta.claims ≠ none ∧
    lowestFree (tableTaken s).rta.claims = none ∧ (tableTaken s).hasClaim .a .pagingListen = false ∧ s.claimsOk ∧ retry.claimsOk ∧
    s.derivedActivity .a = .camped ∧ s.activity .a = .attended ∧ (busy.derivedActivity .a = .attended ∧ busy.activity .a = .camped) ∧
    (call.derivedActivity .a = .inCall ∧ (call.activity .a).isBusy = true) := by
  unfold State.noneAsked State.claimsOk; decide +kernel

theorem witness_SearchKeepsAUsableBeacon_claims :
    searched.claimsOk ∧ searched.activity .a = .noService ∧ searched.noneAsked ∧ searched.hasClaim .a .measure = false ∧
    searched.rta.claims.length = 12 ∧ (taken searched.rta.claims).length ≤ 9 ∧ searched.claimInPlace .a .search = true ∧
    EndCode.missed ≠ .done ∧ (served .a .camped searched).activity .a ≠ .noService := by
  unfold State.noneAsked State.claimsOk; decide +kernel

theorem witness_ReselectionReads_report :
    let s := besides (near .tracked 0 2) (talking State.reset)
    let full := queued (List.replicate 6 (passMsg 0)) s
    s.activity .a = .inCall ∧ entryAt (s.mobOf .a).neighbours 15 = some (near .tracked 0 2) ∧ (s.mobOf .a).serving = some cell ∧
    (s.mobOf .a).hoState ≠ .access ∧ s.hasTxn .a .measReport = false ∧ (s.mobOf .a).guard = 0 ∧ s.takes .a .mob = true ∧ s.activityOk ∧
    (s.sge.queues.get .a).length < 6 ∧ full.takes .a .mob = true ∧ 6 ≤ (full.sge.queues.get .a).length ∧ (crowded .mob s).takes .a .mob = false ∧
    ((s.onMobOf .a fun m => { m with hoState := .access }).mobOf .a).hoState = .access ∧
    (withTxn (txnA .measReport .mob .sent (some 9) none) s).hasTxn .a .measReport = true ∧
    0 < ((s.onMobOf .a fun m => { m with guard := 1 }).mobOf .a).guard ∧ (served .a .attended State.reset).activity .a = .attended := by
  refine ⟨by decide +kernel, by decide +kernel, by decide +kernel, by decide +kernel, by decide +kernel, by decide +kernel, by decide +kernel,
    activityOk_of_check (by decide +kernel), ?_⟩
  decide +kernel

theorem test_report_in_call :
    let t := (besides (near .tracked 0 2) (talking State.reset)).actOnFiring .a 15
    t.sge.queues.a.map (·.body) = [.measReport (some (-200)) [(7, -125)]] := by decide +kernel

theorem witness_HandoverCommandIsTaken_slot :
    let e (cellId : Nat) (st : NeighbourState) : Option Neighbour := some { near st 0 0 with cellId := cellId }
    let m (l : List (Option Neighbour)) : MobSub := { Reset.mobSub with serving := some cell, neighbours := l }
    let named := m [e 1 .unmeasured, e 7 .tracked, none]
    let free := m [e 1 .lost, none, none]
    let lost := m [e 1 .unmeasured, e 2 .lost, e 3 .lost]
    let kept := m [e 1 .unmeasured, e 2 .tracked]
    (entryAt named.neighbours 1 = e 7 .tracked ∧ (∀ j, j < 1 → ∀ k ∈ entryAt named.neighbours j, k.cellId ≠ 7) ∧ named.slotFor 7 = some 1) ∧
    ((∀ j, j < 3 → ∀ k ∈ entryAt free.neighbours j, k.cellId ≠ 7) ∧ entryAt free.neighbours 1 = none ∧
      (∀ j, j < 1 → entryAt free.neighbours j ≠ none) ∧ free.slotFor 7 = some 1) ∧
    ((∀ j, j < 3 → ∀ k ∈ entryAt lost.neighbours j, k.cellId ≠ 7) ∧ (∀ i, i < 3 → entryAt lost.neighbours i ≠ none) ∧
      entryAt lost.neighbours 1 = e 2 .lost ∧ (∀ j, j < 1 → ∀ k ∈ entryAt lost.neighbours j, k.state ≠ .lost) ∧ lost.slotFor 7 = some 1) ∧
    ((∀ j, j < 2 → ∀ k ∈ entryAt kept.neighbours j, k.state ≠ .lost) ∧ kept.slotFor 7 = none) ∧ named.serving = some cell := by
  decide +kernel

/-- No context beside `i` is the subscription's, when none of the three is. -/
theorem onlyCtx {s : State} (hl : s.cal.contexts.length = 3) {x : Sub} {i : Nat} (h : ∀ j ∈ ctxIndexes, j ≠ i → s.ctxOf x j = false) :
    ∀ j, j ≠ i → s.ctxOf x j = false :=
  everyCtx hl (fun j e _ => by rw [State.ctxOf, e]; rfl) h

theorem witness_ReleaseEndsACall_traffic :
    let s := withClaim 3 .a .traffic standingWindow (releasable { ctxA .offered with ring := some 0 } true State.reset)
    (s.ctx 2).state = .offered ∧ (s.ctx 2).ring = some 0 ∧ s.takes .a (.ctx 2) = false ∧ s.claimsOk ∧ s.claimInPlace .a .traffic = true ∧
    ∀ j, j ≠ 2 → s.ctxOf .a j = false := by
  refine ⟨by decide +kernel, by decide +kernel, by decide +kernel, ?_, by decide +kernel, onlyCtx (by decide +kernel) (by decide +kernel)⟩
  unfold State.claimsOk; decide +kernel

theorem witness_WaitingConnectionBecomesActive_claims :
    let s := withClaim 4 .a .signalling standingWindow (withCtx 2 { ctxA .connecting with connectWaiting := true } (served .a .attended State.reset))
    s.activityOk ∧ s.claimsOk ∧ s.hasClaim .a .traffic = false ∧ lowestFree s.rta.claims ≠ none ∧ s.claimInPlace .a .signalling = true ∧
    (go (.connectWaitingResolved 2) s).claimInPlace .a .traffic = true := by
  refine ⟨activityOk_of_check (by decide +kernel), ?_⟩
  unfold State.claimsOk; decide +kernel

theorem witness_IncomingCallsAreOfferedAndReleased_last :
    let c := heldBy .traffic (opened (withClaim 3 .a .traffic standingWindow (talking State.reset)))
    let s := c.onMobOf .a fun m => { m with hoState := .returnCheck }
    s.hears 0 ⟨.a, .traffic, 0, false⟩ ⟨8, 3, some 2, none, .none⟩ ∧ s.activityOk ∧ s.sge.waiters = [] ∧ s.ctxByRef .a 2 = some 0 ∧
    (∀ j, j ≠ 0 → s.ctxOf .a j = false) ∧ s.claimsOk ∧ s.noneAsked ∧ (s.serving .a).any (·.barred) = false ∧
    (s.sge.queues.get .a).length < 6 ∧ s.hasClaim .a .signalling = false ∧ s.rta.claims.length = 12 ∧ (taken s.rta.claims).length ≤ 9 := by
  intro c s
  have d : activityCheck s = true := by decide +kernel
  have o : ∀ j, j ≠ 0 → s.ctxOf .a j = false := onlyCtx (by decide +kernel) (by decide +kernel)
  refine ⟨?_, activityOk_of_check d, by decide +kernel, by decide +kernel, o, ?_⟩
  · unfold State.hears State.consumeOk; decide +kernel
  · unfold State.claimsOk State.noneAsked; decide +kernel

theorem witness_FramesAreCarried_choice :
    let g : DownSpeech := ⟨.a, 0, 1, .silence, 0, []⟩
    let s (r : Bool) (slot : Option DownSpeech) (n : Nat) (b : Option Sending) := (backlog n State.reset).onHlc fun h => { h with
      results := if r then [⟨9, some .a, 20, .ok, []⟩] else [], slot := slot, sending := b }
    (s true (some g) 1 none).hlc.link = .none ∧ (s true (some g) 1 none).hlc.sending = none ∧ (s true (some g) 1 none).resetHeld = false ∧
    ((go .readOnlyTransfer (s true (some g) 1 none)).hlc.sending = some .result ∧
      (go .hostFrameStart (s false (some g) 1 none)).hlc.sending = some (.speech g) ∧
      (go .readOnlyTransfer (s false none 1 none)).hlc.sending = some .entry ∧ (go .readOnlyTransfer (s false none 0 none)).hlc.sending = none) ∧
    ((s false (some g) 1 none).onHlc fun h => { h with link := .carrying }).hlc.link = .carrying ∧
    (s true none 1 (some .entry)).hlc.sending = some .entry := by decide +kernel

end Sys2Proof.Tests
end

section
/-! Sitting 1: the sleep tick, and the reset state as the start of every invariant. -/

namespace Sys2Proof.Machine

/-- What a sleep tick does to the clock: the tick count goes up until the 256th, the frame number stays (R1). -/
theorem State.sleepTick_clock (s : State) :
    s.sleepTick.clock = ⟨s.clock.now, if s.clock.tick < 256 then s.clock.tick + 1 else s.clock.tick⟩ := by
  unfold State.sleepTick Config.frameTicks
  split <;> simp_all

/-- What a sleep tick inside a frame does to the two timers that count ticks (R79). -/
theorem State.sleepTick_timers {s : State} (h : s.clock.tick < 256) :
    s.sleepTick.psc.wakeTimer = s.psc.wakeTimer.map (· - 1) ∧ s.sleepTick.psc.settle = s.psc.settle.map (· - 1) := by
  simp [State.sleepTick, Config.frameTicks, h, State.elapse]

/-- Settles O2: with nothing waiting, `step` is the sleep tick. -/
theorem idleStepIsSleepTick : Obligations.IdleStepIsSleepTick := by
  intro s hp
  refine ⟨s.sleepTick, by simp [step, hp], ?_, ?_, State.sleepTick_timers, ?_⟩
  · rw [State.sleepTick_clock]
  · rw [State.sleepTick_clock]
  · simp

/-! ### The reset state -/

theorem reset_ctx (i : Nat) : State.reset.ctx i = Reset.context := by
  match i with
  | 0 | 1 | 2 => rfl
  | n + 3 => rfl

theorem reset_ctx_state (i : Nat) : (State.reset.ctx i).state = .idle := by rw [reset_ctx]; rfl

/-- After a reset nothing is served, and no call, text or transaction is open. -/
theorem reset_activityOk : State.reset.activityOk := by
  intro x; cases x <;> decide

theorem reset_contextsOk : State.reset.contextsOk := by
  refine ⟨rfl, fun i j h => ?_, fun i j h => ?_, by decide, fun i => ?_, by decide, fun i h => ?_, fun i t c h => ?_⟩
  · exact absurd (reset_ctx_state i) h
  · rw [reset_ctx_state] at h; cases h
  · rw [reset_ctx_state]; exact ⟨fun h => (by cases h), fun h => (by cases h)⟩
  · rw [reset_ctx] at h; cases h
  · exact absurd ((mem_taken _ _ _).2 h) (by rw [show taken State.reset.sge.txns = [] by decide]; exact List.not_mem_nil)

theorem reset_callsOk : State.reset.callsOk := by
  refine ⟨reset_activityOk, ?_, reset_contextsOk, ?_, ⟨fun i h => ?_, ?_⟩, ?_⟩
  · intro x; cases x <;> decide
  · intro h; cases h
  · rw [reset_ctx_state] at h; cases h
  · exact ⟨fun _ i => by rw [reset_ctx_state]; decide, fun _ => rfl⟩
  · intro x r h; cases x <;> cases h

/-- No neighbour, serving cell or return record stands in MOB's reset state. -/
theorem reset_levelsOk : Reset.mobSub.levelsOk := by
  refine ⟨fun v h => (by cases h), fun n h => ?_, fun r h => (by cases h)⟩
  exact absurd (List.eq_of_mem_replicate h) (by simp)

theorem reset_mob_tablesOk : Reset.mobSub.tablesOk := by
  refine ⟨⟨by decide, fun v h => (by cases h)⟩, fun r h => (by cases h), rfl⟩

theorem reset_textsOk : State.reset.textsOk := by
  refine ⟨by unfold State.poolOk; decide, fun x o h => ?_, ?_⟩
  · cases x <;> cases h
  · rw [show taken State.reset.txt.entries = [] by decide]; exact .nil

theorem reset_claimsOk : State.reset.claimsOk := by
  have h : taken State.reset.rta.claims = [] := by decide
  exact ⟨by rw [h]; exact .nil, by rw [h]; simp⟩

theorem reset_queuesOk : State.reset.vcp.queuesOk :=
  ⟨by decide, by decide, fun _ => rfl, fun _ => rfl, fun p h => (by cases h)⟩

/-- Settles O54: each invariant of the reset state, from the lemma about its part. -/
theorem resetMeetsTheInvariants : Obligations.ResetMeetsTheInvariants := by
  refine ⟨?_, ?_, ?_, ?_, ?_, ?_, ?_, rfl, reset_textsOk.1, ?_, reset_claimsOk, rfl, ?_, ⟨reset_levelsOk, reset_levelsOk⟩, reset_callsOk,
    reset_textsOk, reset_queuesOk, reset_mob_tablesOk, reset_mob_tablesOk, ?_⟩
  · unfold State.tablesOk; decide
  · unfold State.holdCountOk; decide
  · unfold State.faultCountOk; decide
  · unfold State.countsOk; decide
  · unfold State.hostQueuesOk; decide
  · unfold State.uplinkOk; decide
  · unfold State.resultsOk; decide
  · unfold State.consumeOk; decide
  · unfold State.identsOk; decide
  · intro i h; cases h

end Sys2Proof.Machine
end

section
/-! Sitting 1: tables whose entries have keys of their own, and how the shared table operations act on entries. -/

namespace Sys2Proof.Machine

/-! ### Entries of a table after an update -/

variable {α β : Type}

theorem entryAt_set (l : List (Option α)) (i j : Nat) (v : Option α) :
    entryAt (l.set i v) j = if i = j ∧ i < l.length then v else entryAt l j := by
  by_cases hij : i = j
  · subst hij
    by_cases hi : i < l.length
    · simp [entryAt, hi]
    · simp [entryAt, hi]
  · simp [entryAt, hij]

theorem entryAt_map (f : α → α) (l : List (Option α)) (i : Nat) : entryAt (l.map (Option.map f)) i = (entryAt l i).map f := by
  unfold entryAt
  rw [List.getElem?_map]
  cases l[i]? <;> rfl

theorem entryAt_modify (g : Option α → Option α) (hg : g none = none) (l : List (Option α)) (i j : Nat) :
    entryAt (l.modify i g) j = if i = j then g (entryAt l j) else entryAt l j := by
  unfold entryAt
  rw [List.getElem?_modify]
  split <;> cases l[j]? <;> simp [hg]

theorem entryAt_modify_map (f : α → α) (l : List (Option α)) (i j : Nat) :
    entryAt (l.modify i (Option.map f)) j = if i = j then (entryAt l j).map f else entryAt l j :=
  entryAt_modify _ rfl l i j

/-! ### Keys -/

/-- No two entries of a table have the same key. -/
def keysApart (key : α → β) (l : List (Option α)) : Prop :=
  ∀ i j v w, entryAt l i = some v → entryAt l j = some w → key v = key w → i = j

/-- Every entry of `m` has the key of the entry that stood at its index in `l`. -/
def keysFrom (key : α → β) (l m : List (Option α)) : Prop :=
  m.length = l.length ∧ ∀ i w, entryAt m i = some w → ∃ v, entryAt l i = some v ∧ key v = key w

theorem keysFrom.refl (key : α → β) (l : List (Option α)) : keysFrom key l l := ⟨rfl, fun _ w h => ⟨w, h, rfl⟩⟩

theorem keysFrom.apart {key : α → β} {l m : List (Option α)} (h : keysFrom key l m) (hl : keysApart key l) : keysApart key m := by
  intro i j v w hv hw e
  obtain ⟨v', hv', ev⟩ := h.2 i v hv
  obtain ⟨w', hw', ew⟩ := h.2 j w hw
  exact hl i j v' w' hv' hw' (by rw [ev, ew, e])

theorem keysFrom_modify (key : α → β) (g : Option α → Option α) (hn : g none = none) (hk : ∀ v w, g (some v) = some w → key v = key w)
    (l : List (Option α)) (i : Nat) : keysFrom key l (l.modify i g) := by
  refine ⟨by simp, fun j w hw => ?_⟩
  rw [entryAt_modify g hn] at hw
  split at hw
  · cases hv : entryAt l j with
    | none => rw [hv, hn] at hw; cases hw
    | some v => rw [hv] at hw; exact ⟨v, rfl, hk v w hw⟩
  · exact ⟨w, hw, rfl⟩

theorem keysFrom_map (key : α → β) (f : α → α) (hk : ∀ v, key (f v) = key v) (l : List (Option α)) :
    keysFrom key l (l.map (Option.map f)) := by
  refine ⟨by simp, fun j w hw => ?_⟩
  rw [entryAt_map] at hw
  obtain ⟨v, hv, e⟩ := Option.map_eq_some_iff.1 hw
  exact ⟨v, hv, by rw [← e, hk]⟩

theorem keysFrom_clear (key : α → β) (l : List (Option α)) (i : Nat) : keysFrom key l (l.set i none) := by
  refine ⟨by simp, fun j w hw => ?_⟩
  rw [entryAt_set] at hw
  split at hw
  · cases hw
  · exact ⟨w, hw, rfl⟩

/-- A new entry whose key no entry has leaves the keys apart. -/
theorem keysApart_set {key : α → β} {l : List (Option α)} (hl : keysApart key l) (i : Nat) (v : α)
    (hv : ∀ j w, entryAt l j = some w → key w ≠ key v) : keysApart key (l.set i (some v)) := by
  intro a b x y hx hy e
  rw [entryAt_set] at hx hy
  split at hx <;> split at hy
  · rename_i ha hb; exact ha.1.symm.trans hb.1
  · cases hx; exact absurd e.symm (hv b y hy)
  · cases hy; exact absurd e (hv a x hx)
  · exact hl a b x y hx hy e

/-- The taken entries of a table stand in the order of their indexes. -/
theorem takenFrom_sorted (n : Nat) (l : List (Option α)) : (takenFrom n l).Pairwise (fun e f => e.1 < f.1) := by
  induction l generalizing n with
  | nil => exact .nil
  | cons e l ih =>
    cases e with
    | none => exact ih (n + 1)
    | some v =>
      refine List.pairwise_cons.2 ⟨fun f hf => ?_, ih (n + 1)⟩
      exact ((mem_takenFrom l (n + 1) f.1 f.2).1 hf).1

theorem taken_sorted (l : List (Option α)) : (taken l).Pairwise (fun e f => e.1 < f.1) := takenFrom_sorted 0 l

theorem pairwise_taken_iff {R : α → α → Prop} (hs : ∀ v w, R v w → R w v) (l : List (Option α)) :
    (taken l).Pairwise (fun e f => R e.2 f.2) ↔ ∀ i j v w, entryAt l i = some v → entryAt l j = some w → i ≠ j → R v w := by
  constructor
  · intro h i j v w hi hj hne
    have symm : Std.Symm (fun e f : Nat × α => R e.2 f.2) := ⟨fun a b => hs a.2 b.2⟩
    exact h.forall ((mem_taken l i v).2 hi) ((mem_taken l j w).2 hj) (fun e => hne (congrArg Prod.fst e))
  · intro h
    refine (taken_sorted l).imp_of_mem fun {e f} he hf hlt => ?_
    exact h e.1 f.1 e.2 f.2 ((mem_taken ..).1 he) ((mem_taken ..).1 hf) (Nat.ne_of_lt hlt)

/-! ### The keys of claims and of transactions -/

/-- What names a claim: its subscription and kind. -/
def Claim.key (c : Claim) : Sub × ClaimKind := (c.sub, c.kind)

/-- What names a transaction: its subscription and ident. -/
def Txn.key (t : Txn) : Sub × Ident := (t.sub, t.ident)

/-- `claimsOk` as a property of the claim table's entries. -/
def claimsApart (l : List (Option Claim)) : Prop :=
  keysApart Claim.key l ∧ ∀ i c, entryAt l i = some c → c.perFrame = c.kind.standing

theorem State.claimsOk_iff (s : State) : s.claimsOk ↔ claimsApart s.rta.claims := by
  unfold State.claimsOk claimsApart
  rw [pairwise_taken_iff (R := fun c d : Claim => ¬ (c.sub = d.sub ∧ c.kind = d.kind)) (fun v w h e => h ⟨e.1.symm, e.2.symm⟩)]
  constructor
  · rintro ⟨h, p⟩
    refine ⟨fun i j v w hv hw e => ?_, fun i c hc => p (i, c) ((mem_taken ..).2 hc)⟩
    by_contra hne
    exact h i j v w hv hw hne ⟨congrArg Prod.fst e, congrArg Prod.snd e⟩
  · rintro ⟨h, p⟩
    exact ⟨fun i j v w hv hw hne e => hne (h i j v w hv hw (Prod.ext e.1 e.2)), fun e he => p e.1 e.2 ((mem_taken ..).1 he)⟩

/-- The idents of the open transactions of `x` are those of the table's entries. -/
theorem State.mem_usedIdents (s : State) (x : Sub) (n : Ident) :
    n ∈ s.usedIdents x ↔ ∃ i t, entryAt s.sge.txns i = some t ∧ t.sub = x ∧ t.ident = n := by
  simp only [State.usedIdents, State.txnsOf, State.openTxns, List.mem_map, List.mem_filter, Prod.exists, mem_taken, beq_iff_eq]
  constructor
  · rintro ⟨i, t, ⟨h, hx⟩, hn⟩; exact ⟨i, t, h, hx, hn⟩
  · rintro ⟨i, t, h, hx, hn⟩; exact ⟨i, t, ⟨h, hx⟩, hn⟩

theorem State.usedIdents_nodup_iff (s : State) (x : Sub) : (s.usedIdents x).Nodup ↔
    ∀ i j v w, entryAt s.sge.txns i = some v → entryAt s.sge.txns j = some w → i ≠ j → ¬ (v.sub = x ∧ w.sub = x ∧ v.ident = w.ident) := by
  rw [← pairwise_taken_iff (R := fun v w : Txn => ¬ (v.sub = x ∧ w.sub = x ∧ v.ident = w.ident))
    (fun v w h e => h ⟨e.2.1, e.1, e.2.2.symm⟩)]
  simp only [State.usedIdents, State.txnsOf, State.openTxns, List.Nodup, List.pairwise_map, List.pairwise_filter, beq_iff_eq]
  exact List.Pairwise.iff fun {e f} => ⟨fun h e => h e.1 e.2.1 e.2.2, fun h a b c => h ⟨a, b, c⟩⟩

/-- `identsOk` as a property of the transaction table's entries. -/
theorem State.identsOk_iff (s : State) : s.identsOk ↔ keysApart Txn.key s.sge.txns := by
  unfold State.identsOk
  rw [State.usedIdents_nodup_iff, State.usedIdents_nodup_iff]
  constructor
  · rintro ⟨ha, hb⟩ i j v w hv hw e
    by_contra hne
    have hs : v.sub = w.sub := congrArg Prod.fst e
    have hi : v.ident = w.ident := congrArg Prod.snd e
    cases hx : v.sub
    · exact ha i j v w hv hw hne ⟨hx, hs ▸ hx, hi⟩
    · exact hb i j v w hv hw hne ⟨hx, hs ▸ hx, hi⟩
  · intro h
    exact ⟨fun i j v w hv hw hne e => hne (h i j v w hv hw (Prod.ext (e.1.trans e.2.1.symm) e.2.2)),
      fun i j v w hv hw hne e => hne (h i j v w hv hw (Prod.ext (e.1.trans e.2.1.symm) e.2.2))⟩

/-! ### The next free ident (R6) -/

theorem freeIdent_of_skipped (used : List Ident) (fuel k : Nat) (n : Ident) (hk : k ≤ fuel)
    (hu : ∀ j, j < k → n + BitVec.ofNat 4 j ∈ used) (hf : n + BitVec.ofNat 4 k ∉ used) :
    freeIdent used fuel n = n + BitVec.ofNat 4 k := by
  induction fuel generalizing n k with
  | zero =>
    obtain rfl : k = 0 := by omega
    simp [freeIdent]
  | succ fuel ih =>
    cases k with
    | zero =>
      have hn : n ∉ used := by simpa using hf
      simp [freeIdent, hn]
    | succ k =>
      have hn : n ∈ used := by simpa using hu 0 (by omega)
      have shift : ∀ j, n + 1 + BitVec.ofNat 4 j = n + BitVec.ofNat 4 (j + 1) := by
        intro j
        rw [Nat.add_comm j 1, BitVec.ofNat_add, BitVec.add_assoc]; rfl
      have h := ih k (n + 1) (by omega) (fun j hj => by rw [shift]; exact hu (j + 1) (by omega)) (by rw [shift]; exact hf)
      rw [shift] at h
      simpa [freeIdent, hn] using h

/-- Of the sixteen idents a list of fewer than sixteen leaves one free. -/
theorem exists_free_ident (used : List Ident) (h : used.length < 16) (n : Ident) :
    ∃ k, k ≤ 15 ∧ n + BitVec.ofNat 4 k ∉ used := by
  by_contra hc
  have hall : ∀ m : Ident, m ∈ used := by
    intro m
    by_contra hm
    refine hc ⟨(m - n).toNat, by have := (m - n).isLt; omega, ?_⟩
    rw [BitVec.ofNat_toNat, BitVec.setWidth_eq, BitVec.add_comm, BitVec.sub_add_cancel]
    exact hm
  have hsub : (List.ofFn fun i : Fin 16 => BitVec.ofFin (w := 4) i).length ≤ used.length := by
    refine (List.Nodup.subperm ?_ fun m _ => hall m).length_le
    exact List.nodup_ofFn.2 fun i j e => by simpa using e
  simp only [List.length_ofFn] at hsub
  omega

theorem freeIdent_not_mem (used : List Ident) (h : used.length < 16) (n : Ident) : freeIdent used 15 n ∉ used := by
  have hex := exists_free_ident used h n
  classical
  let k := Nat.find hex
  have hk := Nat.find_spec hex
  have hmin : ∀ j, j < k → n + BitVec.ofNat 4 j ∈ used := by
    intro j hj
    by_contra hn
    exact Nat.find_min hex hj ⟨by have := hk.1; omega, hn⟩
  rw [freeIdent_of_skipped used 15 k n hk.1 hmin hk.2]
  exact hk.2

theorem takenFrom_length_le (n : Nat) (l : List (Option α)) : (takenFrom n l).length ≤ l.length := by
  induction l generalizing n with
  | nil => exact Nat.le_refl 0
  | cons e l ih =>
    have := ih (n + 1)
    cases e <;> simp [takenFrom] <;> omega

theorem State.usedIdents_length_le (s : State) (x : Sub) : (s.usedIdents x).length ≤ s.sge.txns.length := by
  simp only [State.usedIdents, State.txnsOf, State.openTxns, List.length_map]
  exact (List.length_filter_le _ _).trans (takenFrom_length_le 0 _)

theorem State.nextFreeIdent_free {s : State} (h : s.sge.txns.length = 8) (x : Sub) : s.nextFreeIdent x ∉ s.usedIdents x :=
  freeIdent_not_mem _ (by have := s.usedIdents_length_le x; omega) _

end Sys2Proof.Machine
end

section
/-! Sitting 1: what the part's own work, requests of the host aside, keeps: the settings, the sizes of the tables, the bounds of counts and
queues, one claim per kind and subscription, one transaction per ident. Each operation is passed over once. -/

namespace Sys2Proof.Machine

/-! ### Block by block -/

/-- The Radio Port's fault count stays below four (R51). -/
@[simp] abbrev Rpt.evolves (r q : Rpt) : Prop := r.faultCount ≤ 3 → q.faultCount ≤ 3

/-- The arbiter keeps its settings and the sizes of its tables, and claims apart (R35, R53). -/
@[simp] abbrev Rta.evolves (r q : Rta) : Prop :=
  q.policies = r.policies ∧ q.tuneAway = r.tuneAway ∧ q.holdCount = r.holdCount ∧ q.claims.length = r.claims.length ∧
    q.marks.length = r.marks.length ∧ (claimsApart r.claims → claimsApart q.claims) ∧ (r.asked = none → q.asked = none)

/-- The classifier keeps its routes, its counts at most 255. -/
@[simp] abbrev Dlc.evolves (d e : Dlc) : Prop :=
  e.routes = d.routes ∧ (d.unattributed ≤ 255 → e.unattributed ≤ 255) ∧ (d.filtered.a ≤ 255 → e.filtered.a ≤ 255) ∧
    (d.filtered.b ≤ 255 → e.filtered.b ≤ 255)

/-- The Signalling Engine keeps its table's size, its queues and count in bounds, and idents apart (R6, R9, R11). -/
@[simp] abbrev Sge.evolves (g h : Sge) : Prop :=
  h.txns.length = g.txns.length ∧ (g.stray ≤ 255 → h.stray ≤ 255) ∧ (g.queues.a.length ≤ 6 → h.queues.a.length ≤ 6) ∧
    (g.queues.b.length ≤ 6 → h.queues.b.length ≤ 6) ∧ (g.txns.length = 8 → keysApart Txn.key g.txns → keysApart Txn.key h.txns)

/-- The settings of PSC for a subscription stay (R78). -/
@[simp] abbrev PscSub.evolves (p q : PscSub) : Prop := q.thr = p.thr ∧ q.factor = p.factor ∧ q.margin = p.margin

/-- The mobility parameters stay, and the neighbour table has its size (R86, R89). -/
@[simp] abbrev MobSub.evolves (m n : MobSub) : Prop := n.params = m.params ∧ n.neighbours.length = m.neighbours.length

/-- The Voice Path's counts stay at most 255 (R137). -/
@[simp] abbrev Vcp.evolves (v w : Vcp) : Prop :=
  (v.overflow ≤ 255 → w.overflow ≤ 255) ∧ (v.late ≤ 255 → w.late ≤ 255) ∧ (v.lost ≤ 255 → w.lost ≤ 255) ∧
    (v.upDrop ≤ 255 → w.upDrop ≤ 255)

/-- The text table keeps its size, the counts stay at most 255 (R149, R152). -/
@[simp] abbrev Txt.evolves (u v : Txt) : Prop :=
  v.entries.length = u.entries.length ∧ (u.congestion ≤ 255 → v.congestion ≤ 255) ∧ (u.blocked ≤ 255 → v.blocked ≤ 255)

/-- The host link keeps the host state and what it holds for the host, adding to it only at the tail and up to its capacity (R168). -/
@[simp] abbrev Hlc.evolves (h k : Hlc) : Prop :=
  k.host = h.host ∧ k.inbound = h.inbound ∧ h.results <+: k.results ∧ h.queue <+: k.queue ∧ (h.queue.length ≤ 32 → k.queue.length ≤ 32) ∧
    (h.lostReports ≤ 255 → k.lostReports ≤ 255)

/-- `t` is a state that the part's own work may make of `s`. -/
structure State.Evolves (s t : State) : Prop where
  rpt : s.rpt.evolves t.rpt
  rta : s.rta.evolves t.rta
  dlc : s.dlc.evolves t.dlc
  sge : s.sge.evolves t.sge
  numbers : t.sbs.numbers = s.sbs.numbers
  settleS : t.psc.settleS = s.psc.settleS
  psc : ∀ x, (s.pscOf x).evolves (t.pscOf x)
  mob : ∀ x, (s.mobOf x).evolves (t.mobOf x)
  contexts : t.cal.contexts.length = s.cal.contexts.length
  vcp : s.vcp.evolves t.vcp
  txt : s.txt.evolves t.txt
  hlc : s.hlc.evolves t.hlc
  places : t.resultPlaces ≤ s.resultPlaces

theorem Rpt.evolves_trans {a b c : Rpt} (h : a.evolves b) (k : b.evolves c) : a.evolves c := k ∘ h

theorem Rta.evolves_trans {a b c : Rta} (h : a.evolves b) (k : b.evolves c) : a.evolves c := by
  obtain ⟨h1, h2, h3, h4, h5, h6, h7⟩ := h
  obtain ⟨k1, k2, k3, k4, k5, k6, k7⟩ := k
  exact ⟨k1.trans h1, k2.trans h2, k3.trans h3, k4.trans h4, k5.trans h5, k6 ∘ h6, k7 ∘ h7⟩

theorem Dlc.evolves_trans {a b c : Dlc} (h : a.evolves b) (k : b.evolves c) : a.evolves c := by
  obtain ⟨h1, h2, h3, h4⟩ := h
  obtain ⟨k1, k2, k3, k4⟩ := k
  exact ⟨k1.trans h1, k2 ∘ h2, k3 ∘ h3, k4 ∘ h4⟩

theorem Sge.evolves_trans {a b c : Sge} (h : a.evolves b) (k : b.evolves c) : a.evolves c := by
  obtain ⟨h1, h2, h3, h4, h5⟩ := h
  obtain ⟨k1, k2, k3, k4, k5⟩ := k
  exact ⟨k1.trans h1, k2 ∘ h2, k3 ∘ h3, k4 ∘ h4, fun n u => k5 (h1.trans n) (h5 n u)⟩

theorem PscSub.evolves_trans {a b c : PscSub} (h : a.evolves b) (k : b.evolves c) : a.evolves c :=
  ⟨k.1.trans h.1, k.2.1.trans h.2.1, k.2.2.trans h.2.2⟩

theorem MobSub.evolves_trans {a b c : MobSub} (h : a.evolves b) (k : b.evolves c) : a.evolves c := ⟨k.1.trans h.1, k.2.trans h.2⟩

theorem Vcp.evolves_trans {a b c : Vcp} (h : a.evolves b) (k : b.evolves c) : a.evolves c :=
  ⟨k.1 ∘ h.1, k.2.1 ∘ h.2.1, k.2.2.1 ∘ h.2.2.1, k.2.2.2 ∘ h.2.2.2⟩

theorem Txt.evolves_trans {a b c : Txt} (h : a.evolves b) (k : b.evolves c) : a.evolves c :=
  ⟨k.1.trans h.1, k.2.1 ∘ h.2.1, k.2.2 ∘ h.2.2⟩

theorem Hlc.evolves_trans {a b c : Hlc} (h : a.evolves b) (k : b.evolves c) : a.evolves c := by
  obtain ⟨h1, h2, h3, h4, h5, h6⟩ := h
  obtain ⟨k1, k2, k3, k4, k5, k6⟩ := k
  exact ⟨k1.trans h1, k2.trans h2, h3.trans k3, h4.trans k4, k5 ∘ h5, k6 ∘ h6⟩

@[simp] theorem State.Evolves.refl (s : State) : s.Evolves s where
  rpt := id
  rta := ⟨rfl, rfl, rfl, rfl, rfl, id, id⟩
  dlc := ⟨rfl, id, id, id⟩
  sge := ⟨rfl, id, id, id, fun _ => id⟩
  numbers := rfl
  settleS := rfl
  psc := fun _ => ⟨rfl, rfl, rfl⟩
  mob := fun _ => ⟨rfl, rfl⟩
  contexts := rfl
  vcp := ⟨id, id, id, id⟩
  txt := ⟨rfl, id, id⟩
  hlc := ⟨rfl, rfl, List.prefix_rfl, List.prefix_rfl, id, id⟩
  places := Nat.le_refl _

theorem State.Evolves.trans {s t u : State} (h : s.Evolves t) (k : t.Evolves u) : s.Evolves u where
  rpt := Rpt.evolves_trans h.rpt k.rpt
  rta := Rta.evolves_trans h.rta k.rta
  dlc := Dlc.evolves_trans h.dlc k.dlc
  sge := Sge.evolves_trans h.sge k.sge
  numbers := k.numbers.trans h.numbers
  settleS := k.settleS.trans h.settleS
  psc := fun x => PscSub.evolves_trans (h.psc x) (k.psc x)
  mob := fun x => MobSub.evolves_trans (h.mob x) (k.mob x)
  contexts := k.contexts.trans h.contexts
  vcp := Vcp.evolves_trans h.vcp k.vcp
  txt := Txt.evolves_trans h.txt k.txt
  hlc := Hlc.evolves_trans h.hlc k.hlc
  places := k.places.trans h.places

theorem State.Evolves.foldl {α : Type} {f : State → α → State} (hf : ∀ (t : State) (a : α), t.Evolves (f t a)) (l : List α) {s t : State}
    (h : s.Evolves t) : s.Evolves (l.foldl f t) := by
  induction l generalizing t with
  | nil => exact h
  | cons a l ih => exact ih (h.trans (hf t a))

/-! ### One block changed -/

section Blocks
variable {s t : State}

@[simp] theorem State.onClock_evolves {f : Clock → Clock} (h : s.Evolves t) : s.Evolves (t.onClock f) := { h with }

@[simp] theorem State.onRpt_evolves {f : Rpt → Rpt} (h : s.Evolves t) (hf : t.rpt.evolves (f t.rpt)) : s.Evolves (t.onRpt f) :=
  { h with rpt := Rpt.evolves_trans h.rpt hf }

@[simp] theorem State.onRta_evolves {f : Rta → Rta} (h : s.Evolves t) (hf : t.rta.evolves (f t.rta)) : s.Evolves (t.onRta f) :=
  { h with rta := Rta.evolves_trans h.rta hf }

@[simp] theorem State.onDlc_evolves {f : Dlc → Dlc} (h : s.Evolves t) (hf : t.dlc.evolves (f t.dlc)) : s.Evolves (t.onDlc f) :=
  { h with dlc := Dlc.evolves_trans h.dlc hf }

@[simp] theorem State.onSge_evolves {f : Sge → Sge} (h : s.Evolves t) (hf : t.sge.evolves (f t.sge)) : s.Evolves (t.onSge f) :=
  { h with sge := Sge.evolves_trans h.sge hf }

@[simp] theorem State.onRecord_evolves {x : Sub} {f : SubRecord → SubRecord} (h : s.Evolves t) : s.Evolves (t.onRecord x f) := { h with }

@[simp] theorem State.onPsc_evolves {f : Psc → Psc} (h : s.Evolves t) (hs : ∀ p, (f p).settleS = p.settleS)
    (hp : ∀ x, (t.psc.per.get x).evolves ((f t.psc).per.get x)) : s.Evolves (t.onPsc f) :=
  { h with settleS := (hs _).trans h.settleS, psc := fun x => PscSub.evolves_trans (h.psc x) (hp x) }

@[simp] theorem State.onPscOf_evolves {x : Sub} {f : PscSub → PscSub} (h : s.Evolves t) (hf : (t.pscOf x).evolves (f (t.pscOf x))) :
    s.Evolves (t.onPscOf x f) := by
  refine State.onPsc_evolves h (fun _ => rfl) fun y => ?_
  rw [PerSub.get_upd]
  split
  · next e => subst e; exact hf
  · simp

@[simp] theorem State.onMob_evolves {f : PerSub MobSub → PerSub MobSub} (h : s.Evolves t)
    (hf : ∀ x, (t.mob.get x).evolves ((f t.mob).get x)) : s.Evolves (t.onMob f) :=
  { h with mob := fun x => MobSub.evolves_trans (h.mob x) (hf x) }

@[simp] theorem State.onMobOf_evolves {x : Sub} {f : MobSub → MobSub} (h : s.Evolves t) (hf : (t.mobOf x).evolves (f (t.mobOf x))) :
    s.Evolves (t.onMobOf x f) := by
  refine State.onMob_evolves h fun y => ?_
  rw [PerSub.get_upd]
  split
  · next e => subst e; exact hf
  · simp

@[simp] theorem State.onCal_evolves {f : Cal → Cal} (h : s.Evolves t) (hc : ∀ c, (f c).contexts.length = c.contexts.length)
    (hp : ∀ c, (f c).pendingReq = c.pendingReq) : s.Evolves (t.onCal f) :=
  { h with
    contexts := (hc _).trans h.contexts
    places := by
      have e : (t.onCal f).resultPlaces = t.resultPlaces := by unfold State.resultPlaces; simp only [State.onCal_cal, hp]; rfl
      rw [e]; exact h.places }

@[simp] theorem State.onVcp_evolves {f : Vcp → Vcp} (h : s.Evolves t) (hf : t.vcp.evolves (f t.vcp)) : s.Evolves (t.onVcp f) :=
  { h with vcp := Vcp.evolves_trans h.vcp hf }

@[simp] theorem State.onTxt_evolves {f : Txt → Txt} (h : s.Evolves t) (hf : t.txt.evolves (f t.txt)) : s.Evolves (t.onTxt f) :=
  { h with txt := Txt.evolves_trans h.txt hf }

@[simp] theorem State.onHlc_evolves {f : Hlc → Hlc} (h : s.Evolves t) (hf : t.hlc.evolves (f t.hlc))
    (hr : ∀ k, (f k).results = k.results) : s.Evolves (t.onHlc f) :=
  { h with
    hlc := Hlc.evolves_trans h.hlc hf
    places := by
      have e : (t.onHlc f).resultPlaces = t.resultPlaces := by unfold State.resultPlaces; simp only [State.onHlc_hlc, hr]; rfl
      rw [e]; exact h.places }

end Blocks

/-! ### MOB's tables -/

@[simp] theorem MobSub.clearTriggers_keeps (m : MobSub) :
    m.clearTriggers.params = m.params ∧ m.clearTriggers.neighbours.length = m.neighbours.length := by simp [MobSub.clearTriggers]

@[simp] theorem MobSub.rerank_keeps (m : MobSub) : m.rerank.params = m.params ∧ m.rerank.neighbours = m.neighbours := by
  unfold MobSub.rerank; split <;> simp

@[simp] theorem MobSub.rerankAnew_keeps (m : MobSub) :
    m.rerankAnew.params = m.params ∧ m.rerankAnew.neighbours.length = m.neighbours.length := by simp [MobSub.rerankAnew]

@[simp] theorem MobSub.setTrigger_keeps (i n : Nat) (m : MobSub) :
    (m.setTrigger i n).params = m.params ∧ (m.setTrigger i n).neighbours.length = m.neighbours.length := by simp [MobSub.setTrigger]

@[simp] theorem MobSub.applyEntry_keeps (m : MobSub) (e : ListedCell × Option Int) :
    (m.applyEntry e).params = m.params ∧ (m.applyEntry e).neighbours.length = m.neighbours.length := by
  unfold MobSub.applyEntry; (repeat' split) <;> simp

@[simp] theorem MobSub.applyEntries_keeps (l : List (ListedCell × Option Int)) (m : MobSub) :
    (l.foldl MobSub.applyEntry m).params = m.params ∧ (l.foldl MobSub.applyEntry m).neighbours.length = m.neighbours.length := by
  induction l generalizing m with
  | nil => simp
  | cons e l ih => simp [ih]

@[simp] theorem MobSub.advanceRotation_keeps (cells : List ListedCell) (m : MobSub) :
    (m.advanceRotation cells).params = m.params ∧ (m.advanceRotation cells).neighbours = m.neighbours := by
  unfold MobSub.advanceRotation; split <;> simp

@[simp] theorem MobSub.trigger_keeps (m : MobSub) :
    m.trigger.2.params = m.params ∧ m.trigger.2.neighbours.length = m.neighbours.length := by
  unfold MobSub.trigger; dsimp only; (repeat' split) <;> simp

@[simp] theorem MobSub.takeTarget_keeps (v : Serving) (t : HoTarget) (m : MobSub) :
    (m.takeTarget v t).params = m.params ∧ (m.takeTarget v t).neighbours.length = m.neighbours.length := by
  unfold MobSub.takeTarget; dsimp only; split <;> simp

@[simp] theorem SlotRecord.restore_length (r : SlotRecord) (table : List (Option Neighbour)) : (r.restore table).length = table.length := by
  unfold SlotRecord.restore; split <;> simp

@[simp] theorem MobSub.takeSearchFreq_keeps (m : MobSub) :
    m.takeSearchFreq.2.params = m.params ∧ m.takeSearchFreq.2.neighbours = m.neighbours := by
  unfold MobSub.takeSearchFreq; dsimp only; split <;> simp

@[simp] theorem MobSub.count_keeps (m : MobSub) : m.count.params = m.params ∧ m.count.neighbours = m.neighbours := by simp [MobSub.count]

/-! ### The Voice Path's counts -/

@[simp] theorem satInc_count (n : Nat) : satInc 255 n ≤ 255 := satInc_le 255 n

@[simp] theorem Vcp.endFill_counts (v : Vcp) :
    v.endFill.overflow = v.overflow ∧ v.endFill.late = v.late ∧ v.endFill.lost = v.lost ∧ v.endFill.upDrop = v.upDrop := by
  unfold Vcp.endFill; split <;> simp

theorem Vcp.lateFrame_evolves (f : SpeechFrame) (v : Vcp) : v.evolves (v.lateFrame f) := by
  unfold Vcp.lateFrame; dsimp only; split <;> simp [Vcp.firstOfFill]

theorem Vcp.insertFrame_evolves (position : Seq) (f : SpeechFrame) (v : Vcp) : v.evolves (v.insertFrame position f) := by
  unfold Vcp.insertFrame; dsimp only; (repeat' split) <;> simp

theorem Vcp.goodVoice_evolves (x : Sub) (f : SpeechFrame) (v : Vcp) : v.evolves (v.goodVoice x f) := by
  unfold Vcp.goodVoice
  split
  · simp
  · split
    · simp [Vcp.firstOfFill]
    · split
      · exact Vcp.insertFrame_evolves ..
      · exact Vcp.lateFrame_evolves ..

theorem Vcp.countLost_evolves (v : Vcp) : v.evolves v.countLost := by simp [Vcp.countLost]

theorem Vcp.steal_evolves (v : Vcp) : v.evolves v.steal := by unfold Vcp.steal; split <;> simp

theorem Vcp.takeSpeech_evolves (v : Vcp) : v.evolves v.takeSpeech.2 := by unfold Vcp.takeSpeech; split <;> simp

/-! ### Claims -/

section Claims

theorem claimsApart_modify {l : List (Option Claim)} (i : Nat) (g : Option Claim → Option Claim) (hn : g none = none)
    (hg : ∀ c d, g (some c) = some d → c.key = d.key ∧ c.perFrame = d.perFrame) (h : claimsApart l) : claimsApart (l.modify i g) := by
  refine ⟨(keysFrom_modify Claim.key g hn (fun c d e => (hg c d e).1) l i).apart h.1, fun j d hd => ?_⟩
  obtain ⟨c, hc, e⟩ := (keysFrom_modify (fun c => (c.key, c.perFrame)) g hn (fun c d e => Prod.ext (hg c d e).1 (hg c d e).2) l i).2 j d hd
  have ek : c.kind = d.kind := congrArg (·.1.2) e
  have ep : c.perFrame = d.perFrame := congrArg (·.2) e
  rw [← ep, ← ek]; exact h.2 j c hc

theorem claimsApart_clear {l : List (Option Claim)} (i : Nat) (h : claimsApart l) : claimsApart (l.set i none) := by
  refine ⟨(keysFrom_clear Claim.key l i).apart h.1, fun j d hd => ?_⟩
  obtain ⟨c, hc, e⟩ := (keysFrom_clear (fun c : Claim => c) l i).2 j d hd
  have e' : c = d := e
  rw [← e']; exact h.2 j c hc

theorem claimsApart_map {l : List (Option Claim)} (f : Claim → Claim) (hf : ∀ c, (f c).key = c.key ∧ (f c).perFrame = c.perFrame)
    (h : claimsApart l) : claimsApart (l.map (Option.map f)) := by
  refine ⟨(keysFrom_map Claim.key f (fun c => (hf c).1) l).apart h.1, fun j d hd => ?_⟩
  rw [entryAt_map] at hd
  obtain ⟨c, hc, e⟩ := Option.map_eq_some_iff.1 hd
  subst e
  have ek : (f c).kind = c.kind := congrArg Prod.snd (hf c).1
  rw [(hf c).2, ek]; exact h.2 j c hc

theorem claimsApart_set {l : List (Option Claim)} (h : claimsApart l) (i : Nat) (c : Claim) (hc : c.perFrame = c.kind.standing)
    (hn : ∀ j d, entryAt l j = some d → ¬ (d.sub = c.sub ∧ d.kind = c.kind)) : claimsApart (l.set i (some c)) := by
  refine ⟨keysApart_set h.1 i c fun j d hd e => hn j d hd ⟨congrArg Prod.fst e, congrArg Prod.snd e⟩, fun j d hd => ?_⟩
  rw [entryAt_set] at hd
  split at hd
  · cases hd; exact hc
  · exact h.2 j d hd

variable {s t : State}

/-- A claim changed in place, its subscription and kind kept. -/
@[simp] theorem State.onClaim_evolves {i : Nat} {f : Claim → Claim} (h : s.Evolves t)
    (hf : ∀ c, (f c).sub = c.sub ∧ (f c).kind = c.kind ∧ (f c).perFrame = c.perFrame) : s.Evolves (t.onClaim i f) := by
  refine State.onRta_evolves h ⟨rfl, rfl, rfl, by simp, rfl, claimsApart_modify i _ rfl fun c d e => ?_, id⟩
  cases e
  obtain ⟨hs, hk, hp⟩ := hf c
  exact ⟨Prod.ext hs.symm hk.symm, hp.symm⟩

@[simp] theorem State.freeClaim_evolves (i : Nat) (h : s.Evolves t) : s.Evolves (t.freeClaim i) :=
  State.onRta_evolves h ⟨rfl, rfl, rfl, by simp, rfl, claimsApart_clear i, id⟩

@[simp] theorem Claim.takeWindow_key (w : Window) (c : Claim) :
    (c.takeWindow w).sub = c.sub ∧ (c.takeWindow w).kind = c.kind ∧ (c.takeWindow w).perFrame = c.perFrame := ⟨rfl, rfl, rfl⟩

@[simp] theorem Claim.placeAgain_key (w : Window) (c : Claim) :
    (c.placeAgain w).sub = c.sub ∧ (c.placeAgain w).kind = c.kind ∧ (c.placeAgain w).perFrame = c.perFrame := by
  unfold Claim.placeAgain; split <;> exact ⟨rfl, rfl, rfl⟩

theorem Claim.settled_key {c d : Claim} {code : EndCode} {n : Frame} (h : c.settled code n = some d) :
    c.key = d.key ∧ c.perFrame = d.perFrame := by
  unfold Claim.settled at h
  (repeat' split at h) <;> cases h <;> exact ⟨rfl, rfl⟩

end Claims

section Operations
variable {s t : State}

/-! ### Sleep -/

@[simp] theorem State.becomeAwake_evolves (h : s.Evolves t) :
    s.Evolves t.becomeAwake := by
  simp [State.becomeAwake, h]

@[simp] theorem State.enterWaking_evolves (h : s.Evolves t) :
    s.Evolves t.enterWaking := by
  simp [State.enterWaking, h]

@[simp] theorem State.enterDeep_evolves (gap : Option Nat) (h : s.Evolves t) :
    s.Evolves (t.enterDeep gap) := by
  simp [State.enterDeep, h]

@[simp] theorem State.enterLight_evolves (back : Frame) (h : s.Evolves t) :
    s.Evolves (t.enterLight back) := by
  simp [State.enterLight, h]

@[simp] theorem State.chooseDepth_evolves (h : s.Evolves t) :
    s.Evolves t.chooseDepth := by
  unfold State.chooseDepth; dsimp only; (repeat' split) <;> simp [h]

@[simp] theorem State.evaluate_evolves (h : s.Evolves t) :
    s.Evolves t.evaluate := by
  unfold State.evaluate; split <;> simp [h]

@[simp] theorem State.recomputeWake_evolves (h : s.Evolves t) :
    s.Evolves t.recomputeWake := by
  unfold State.recomputeWake; dsimp only; (repeat' split) <;> simp [h]

@[simp] theorem State.elapse_evolves (n : Nat) (h : s.Evolves t) :
    s.Evolves (t.elapse n) := by
  simp [State.elapse, h]

@[simp] theorem State.sleepTick_evolves (h : s.Evolves t) :
    s.Evolves t.sleepTick := by
  unfold State.sleepTick; split <;> simp [h]


/-! ### The host-bound queue, the classifier, transactions -/

/-- An entry joins the tail while there is a place, and is counted otherwise (R168). -/
@[simp] theorem State.offerEntry_evolves (e : HostEntry) (h : s.Evolves t) : s.Evolves (t.offerEntry e) := by
  unfold State.offerEntry
  refine State.onHlc_evolves h ?_ fun k => ?_
  · split
    · next hlt => exact ⟨rfl, rfl, List.prefix_rfl, List.prefix_append .., fun _ => by simpa [Config.hostDepth] using hlt, id⟩
    · simp
  · split <;> rfl


@[simp] theorem State.report_evolves (r : Report) (h : s.Evolves t) :
    s.Evolves (t.report r) := by
  simp [State.report, h]

@[simp] theorem State.reportWake_evolves (r : Report) (h : s.Evolves t) :
    s.Evolves (t.reportWake r) := by
  simp [State.reportWake, h]

theorem filtered_upd_evolves (x : Sub) (p : PerSub Nat) :
    (p.a ≤ 255 → (p.upd x (satInc 255)).a ≤ 255) ∧ (p.b ≤ 255 → (p.upd x (satInc 255)).b ≤ 255) := by
  cases x <;> simp [PerSub.upd, PerSub.set]


@[simp] theorem State.setFilter_evolves (x : Sub) (isOpen : Bool) (h : s.Evolves t) :
    s.Evolves (t.setFilter x isOpen) := by
  simp [State.setFilter, h]

@[simp] theorem State.countFiltered_evolves (x : Sub) (h : s.Evolves t) :
    s.Evolves (t.countFiltered x) := by
  exact State.onDlc_evolves h ⟨rfl, id, filtered_upd_evolves x _⟩

@[simp] theorem State.countUnattributed_evolves (h : s.Evolves t) :
    s.Evolves t.countUnattributed := by
  simp [State.countUnattributed, h]

@[simp] theorem State.countStray_evolves (h : s.Evolves t) :
    s.Evolves t.countStray := by
  simp [State.countStray, h]

@[simp] theorem State.onCtx_evolves {i : Nat} {f : CallContext → CallContext} (h : s.Evolves t) : s.Evolves (t.onCtx i f) := by
  simp [State.onCtx, h]

@[simp] theorem State.onTxn_evolves {i : Nat} {f : Txn → Txn} (h : s.Evolves t) (hf : ∀ p, (f p).sub = p.sub ∧ (f p).ident = p.ident) :
    s.Evolves (t.onTxn i f) := by
  refine State.onSge_evolves h ⟨by simp, id, id, id, fun _ => ?_⟩
  exact (keysFrom_modify Txn.key _ rfl (fun p q e => by cases e; exact Prod.ext (hf p).1.symm (hf p).2.symm) _ i).apart



/-! ### Placing and withdrawing claims -/

/-- A placement changes the claim in the table, or takes a free entry for one that is not there (R36). -/
@[simp] theorem State.place_evolves (x : Sub) (k : ClaimKind) (w : Window) (h : s.Evolves t) : s.Evolves (t.place x k w).2 := by
  unfold State.place
  dsimp only
  split
  · exact State.recomputeWake_evolves (State.onClaim_evolves h fun c => by simp)
  · next hn =>
    split
    · exact h
    · refine State.recomputeWake_evolves (State.onRta_evolves h ⟨rfl, rfl, rfl, by simp, rfl, fun hc => ?_, id⟩)
      exact claimsApart_set hc _ _ rfl fun j d hd => t.claimOf_none hn j d hd


@[simp] theorem State.unask_evolves (x : Sub) (k : ClaimKind) (h : s.Evolves t) :
    s.Evolves (t.unask x k) := by
  simp [State.unask, h]

@[simp] theorem State.ask_evolves {x : Sub} {k : ClaimKind} {now : State → State} (h : s.Evolves t) (hn : s.Evolves (now t)) :
    s.Evolves (t.ask x k now) := by
  unfold State.ask
  split
  · exact hn
  · next l hl => split
                 · exact h
                 · exact State.onRta_evolves h ⟨rfl, rfl, rfl, rfl, rfl, id, fun e => by rw [hl] at e; cases e⟩


@[simp] theorem State.markUnitWithdrawn_evolves (h : s.Evolves t) :
    s.Evolves t.markUnitWithdrawn := by
  unfold State.markUnitWithdrawn; split <;> simp [h]

@[simp] theorem State.dropPurpose_evolves (x : Sub) (k : ClaimKind) (h : s.Evolves t) :
    s.Evolves (t.dropPurpose x k) := by
  unfold State.dropPurpose; split <;> simp [h]

@[simp] theorem State.withdraw_evolves (x : Sub) (k : ClaimKind) (h : s.Evolves t) :
    s.Evolves (t.withdraw x k) := by
  unfold State.withdraw; dsimp only; (repeat' split) <;> simp (maxDischargeDepth := 20) [h]

@[simp] theorem State.suspendClaim_evolves (x : Sub) (k : ClaimKind) (h : s.Evolves t) :
    s.Evolves (t.suspendClaim x k) := by
  unfold State.suspendClaim; split
  · exact h
  · exact State.onClaim_evolves h fun c => by split <;> exact ⟨rfl, rfl, rfl⟩

@[simp] theorem State.resumeClaim_evolves (x : Sub) (k : ClaimKind) (h : s.Evolves t) :
    s.Evolves (t.resumeClaim x k) := by
  unfold State.resumeClaim; split
  · exact h
  · exact State.recomputeWake_evolves (State.onClaim_evolves h fun c => by split <;> exact ⟨rfl, rfl, rfl⟩)

@[simp] theorem State.withdrawAll_evolves (x : Sub) (h : s.Evolves t) :
    s.Evolves (t.withdrawAll x) := by
  simp (maxDischargeDepth := 20) [State.withdrawAll, h]


/-! ### Paging -/

@[simp] theorem State.replaceMeasure_evolves (x : Sub) (h : s.Evolves t) :
    s.Evolves (t.replaceMeasure x) := by
  unfold State.replaceMeasure; (repeat' split) <;> simp [h]

@[simp] theorem State.withRelax_evolves {x : Sub} {f : PscSub → PscSub} (h : s.Evolves t) (hf : (t.pscOf x).evolves (f (t.pscOf x))) :
    s.Evolves (t.withRelax x f) := by
  have k := State.onPscOf_evolves h hf
  unfold State.withRelax; dsimp only; split <;> simp only [State.replaceMeasure_evolves _ k, k]


@[simp] theorem State.clearRelax_evolves (x : Sub) (h : s.Evolves t) :
    s.Evolves (t.clearRelax x) := by
  simp [State.clearRelax, h]

@[simp] theorem State.giveLevel_evolves (x : Sub) (level : Option Int) (qmin : Int) (h : s.Evolves t) :
    s.Evolves (t.giveLevel x level qmin) := by
  exact State.withRelax_evolves h (by dsimp only; split <;> simp)

@[simp] theorem State.giveServingLevel_evolves (x : Sub) (h : s.Evolves t) :
    s.Evolves (t.giveServingLevel x) := by
  unfold State.giveServingLevel; split <;> simp [h]

@[simp] theorem State.clearRun_evolves (x : Sub) (h : s.Evolves t) :
    s.Evolves (t.clearRun x) := by
  simp [State.clearRun, h]

@[simp] theorem State.lostOccasion_evolves (x : Sub) (wasMissed : Bool) (h : s.Evolves t) :
    s.Evolves (t.lostOccasion x wasMissed) := by
  unfold State.lostOccasion; dsimp only; (repeat' split) <;> simp [h]

@[simp] theorem State.tryPaging_evolves (x : Sub) (h : s.Evolves t) :
    s.Evolves (t.tryPaging x) := by
  unfold State.tryPaging; split
  · exact h
  · split <;> (have k := congrArg Prod.snd ‹_ = (_, _)›; dsimp only at k; subst k; simp (maxDischargeDepth := 20) [h])

@[simp] theorem State.placePaging_evolves (x : Sub) (h : s.Evolves t) :
    s.Evolves (t.placePaging x) := by
  unfold State.placePaging; split <;> simp [h]

@[simp] theorem State.withdrawPaging_evolves (x : Sub) (h : s.Evolves t) :
    s.Evolves (t.withdrawPaging x) := by
  simp [State.withdrawPaging, h]

@[simp] theorem State.replacePaging_evolves (x : Sub) (h : s.Evolves t) :
    s.Evolves (t.replacePaging x) := by
  unfold State.replacePaging; (repeat' split) <;> simp [h]

@[simp] theorem State.recomputeSchedule_evolves (x : Sub) (h : s.Evolves t) :
    s.Evolves (t.recomputeSchedule x) := by
  unfold State.recomputeSchedule; dsimp only; (repeat' split) <;> simp [h]

@[simp] theorem State.quietListen_evolves (x : Sub) (l : Listen) (h : s.Evolves t) :
    s.Evolves (t.quietListen x l) := by
  unfold State.quietListen; split <;> simp [h]

@[simp] theorem State.listenEnded_evolves (x : Sub) (code : EndCode) (first : Option Frame) (h : s.Evolves t) :
    s.Evolves (t.listenEnded x code first) := by
  unfold State.listenEnded; (repeat' split) <;> simp [h]


/-! ### Signalling -/

theorem queue_append_le {q : PerSub (List Msg)} {x : Sub} (hx : (q.get x).length < 6) (m : Msg) :
    (q.a.length ≤ 6 → (q.upd x (· ++ [m])).a.length ≤ 6) ∧ (q.b.length ≤ 6 → (q.upd x (· ++ [m])).b.length ≤ 6) := by
  cases x <;> simp [PerSub.upd, PerSub.set, PerSub.get] at hx ⊢ <;> omega

theorem queue_erase_le (q : PerSub (List Msg)) (x : Sub) (i : Nat) :
    (q.a.length ≤ 6 → (q.upd x (·.eraseIdx i)).a.length ≤ 6) ∧ (q.b.length ≤ 6 → (q.upd x (·.eraseIdx i)).b.length ≤ 6) := by
  have le (l : List Msg) : (l.eraseIdx i).length ≤ l.length := List.length_eraseIdx_le l i
  have ha := le q.a
  have hb := le q.b
  cases x <;> simp (maxDischargeDepth := 20) only [PerSub.upd, PerSub.set, PerSub.get] <;> omega


@[simp] theorem State.enqueue_evolves (x : Sub) (m : Msg) (h : s.Evolves t) :
    s.Evolves (t.enqueue x m) := by
  unfold State.enqueue; split
  · simp [h]
  · next hq =>
    have hx : (t.sge.queues.get x).length < 6 := by
      exact Nat.lt_of_not_le fun hc => hq (decide_eq_true hc)
    obtain ⟨ha, hb⟩ := queue_append_le hx { m with wait := 0 }
    exact State.onSge_evolves h ⟨rfl, id, ha, hb, fun _ => id⟩

/-- A new transaction takes an ident that no open one of its subscription has (R6). -/
theorem State.offer_evolves_txn {x : Sub} {p : Txn} (hx : p.sub = x) (hp : p.ident = t.nextFreeIdent x) (i : Nat) (n : PerSub Ident)
    (h : s.Evolves t) : s.Evolves (t.onSge fun g => { g with txns := g.txns.set i (some p), nextIdent := n }) := by
  refine State.onSge_evolves h ⟨by simp, id, id, id, fun h8 hk => keysApart_set hk i p fun j q hq e => ?_⟩
  have hs : q.sub = x := (congrArg Prod.fst e).trans hx
  have hi : q.ident = t.nextFreeIdent x := (congrArg Prod.snd e).trans hp
  exact State.nextFreeIdent_free h8 x ((t.mem_usedIdents x _).2 ⟨j, q, hq, hs, hi⟩)


@[simp] theorem State.offer_evolves (x : Sub) (o : Offer) (h : s.Evolves t) :
    s.Evolves (t.offer x o).2 := by
  unfold State.offer; split
  · exact h
  · split
    · exact State.enqueue_evolves _ _ (State.offer_evolves_txn rfl rfl _ _ h)
    · exact State.enqueue_evolves _ _ h

@[simp] theorem State.offerPlain_evolves (x : Sub) (owner : Option Owner) (echo : Ident) (body : UpBody) (h : s.Evolves t) :
    s.Evolves (t.offerPlain x owner echo body) := by
  simp [State.offerPlain, h]

@[simp] theorem State.beginWait_evolves (w : WaitKind) (x : Sub) (h : s.Evolves t) :
    s.Evolves (t.beginWait w x) := by
  unfold State.beginWait; split <;> simp [h]

@[simp] theorem State.endWait_evolves (w : WaitKind) (x : Sub) (h : s.Evolves t) :
    s.Evolves (t.endWait w x) := by
  simp [State.endWait, h]

@[simp] theorem State.markWaiters_evolves (p : Waiter → Bool) (h : s.Evolves t) :
    s.Evolves (t.markWaiters p) := by
  simp [State.markWaiters, h]

@[simp] theorem State.clearDue_evolves (w : WaitKind) (x : Sub) (h : s.Evolves t) :
    s.Evolves (t.clearDue w x) := by
  simp [State.clearDue, h]

@[simp] theorem State.forgetHead_evolves (x : Sub) (h : s.Evolves t) :
    s.Evolves (t.forgetHead x) := by
  simp [State.forgetHead, h]

@[simp] theorem State.dropQueued_evolves (x : Sub) (pos : Nat) (h : s.Evolves t) :
    s.Evolves (t.dropQueued x pos) := by
  have erase {u : State} (k : s.Evolves u) : s.Evolves (u.onSge fun g => { g with queues := g.queues.upd x (·.eraseIdx pos) }) :=
    State.onSge_evolves k ⟨rfl, id, (queue_erase_le _ x pos).1, (queue_erase_le _ x pos).2, fun _ => id⟩
  unfold State.dropQueued; dsimp only; (repeat' split) <;> simp (maxDischargeDepth := 20) [h, erase]

@[simp] theorem State.removeMessage_evolves (x : Sub) (ident : Ident) (h : s.Evolves t) :
    s.Evolves (t.removeMessage x ident) := by
  unfold State.removeMessage; split <;> simp [h]

@[simp] theorem State.freeTxn_evolves (i : Nat) (h : s.Evolves t) :
    s.Evolves (t.freeTxn i) := by
  unfold State.freeTxn; split
  · exact h
  · have k : s.Evolves (t.onSge fun g => { g with txns := g.txns.set i none }) :=
      State.onSge_evolves h ⟨by simp, id, id, id, fun _ => (keysFrom_clear Txn.key _ i).apart⟩
    simp [k]

@[simp] theorem State.freeTxns_evolves (x : Sub) (p : Txn → Bool) (h : s.Evolves t) :
    s.Evolves (t.freeTxns x p) := by
  exact State.Evolves.foldl (fun u (e : Nat × Txn) => State.freeTxn_evolves e.1 (.refl u)) _ h

@[simp] theorem State.emptyUplink_evolves (x : Sub) (h : s.Evolves t) :
    s.Evolves (t.emptyUplink x) := by
  have k : s.Evolves (t.forgetHead x) := State.forgetHead_evolves x h
  refine State.onSge_evolves k ?_
  cases x <;> simp [PerSub.set]

@[simp] theorem State.placeSignalling_evolves (x : Sub) (h : s.Evolves t) :
    s.Evolves (t.placeSignalling x) := by
  simp [State.placeSignalling, h]

@[simp] theorem State.reexamine_evolves (x : Sub) (h : s.Evolves t) :
    s.Evolves (t.reexamine x) := by
  unfold State.reexamine; (repeat' split) <;> simp [h]

@[simp] theorem State.restartLinkIdle_evolves (x : Sub) (h : s.Evolves t) :
    s.Evolves (t.restartLinkIdle x) := by
  refine State.onSge_evolves h ⟨by simp, id, id, id, fun _ => (keysFrom_map Txn.key _ (fun p => ?_) _).apart⟩
  split <;> rfl

@[simp] theorem State.headLeaves_evolves (x : Sub) (h : s.Evolves t) :
    s.Evolves (t.headLeaves x) := by
  unfold State.headLeaves; dsimp only; (repeat' split) <;> simp [h]


/-! ### Subscriber Store -/

@[simp] theorem State.updateStanding_evolves (x : Sub) (h : s.Evolves t) :
    s.Evolves (t.updateStanding x) := by
  unfold State.updateStanding; dsimp only; (repeat' split) <;> simp [h]

@[simp] theorem State.pendUpdate_evolves (x : Sub) (byPage : Bool) (h : s.Evolves t) :
    s.Evolves (t.pendUpdate x byPage) := by
  simp [State.pendUpdate, h]

@[simp] theorem State.dropUpdate_evolves (x : Sub) (h : s.Evolves t) :
    s.Evolves (t.dropUpdate x) := by
  simp [State.dropUpdate, h]

@[simp] theorem State.openUpdate_evolves (x : Sub) (byPage : Bool) (h : s.Evolves t) :
    s.Evolves (t.openUpdate x byPage) := by
  unfold State.openUpdate; split
  · exact h
  · split
    · simp [h]
    · split <;> (have k := congrArg Prod.snd ‹_ = (_, _)›; dsimp only at k; subst k; simp (maxDischargeDepth := 20) [h])

@[simp] theorem State.areaPassed_evolves (x : Sub) (h : s.Evolves t) :
    s.Evolves (t.areaPassed x) := by
  unfold State.areaPassed; (repeat' split) <;> simp [h]

@[simp] theorem State.retryUpdate_evolves (x : Sub) (h : s.Evolves t) :
    s.Evolves (t.retryUpdate x) := by
  unfold State.retryUpdate; (repeat' split) <;> simp [h]

@[simp] theorem State.reject_evolves (x : Sub) (item : RejectItem) (h : s.Evolves t) :
    s.Evolves (t.reject x item) := by
  simp [State.reject, h]

@[simp] theorem State.areaAccepted_evolves (x : Sub) (area : Nat) (newAlias : Option AliasValue) (h : s.Evolves t) :
    s.Evolves (t.areaAccepted x area newAlias) := by
  unfold State.areaAccepted; dsimp only; (repeat' split) <;> simp [h]

@[simp] theorem State.areaEnded_evolves (x : Sub) (outcome : TxnOutcome) (accept : Option (Nat × Option AliasValue)) (h : s.Evolves t) :
    s.Evolves (t.areaEnded x outcome accept) := by
  unfold State.areaEnded; split <;> simp (maxDischargeDepth := 20) [h]


/-! ### Voice -/

@[simp] theorem State.sendSpeech_evolves (f : DownSpeech) (h : s.Evolves t) :
    s.Evolves (t.sendSpeech f) := by
  simp [State.sendSpeech, h]

@[simp] theorem State.voiceStart_evolves (x : Sub) (i : Nat) (h : s.Evolves t) :
    s.Evolves (t.voiceStart x i) := by
  simp [State.voiceStart, h]

@[simp] theorem State.voiceStop_evolves (h : s.Evolves t) :
    s.Evolves t.voiceStop := by
  simp [State.voiceStop, h]

@[simp] theorem State.trafficEnded_evolves (code : EndCode) (h : s.Evolves t) :
    s.Evolves (t.trafficEnded code) := by
  have k : s.Evolves (t.onVcp Vcp.countLost) := State.onVcp_evolves h (Vcp.countLost_evolves _)
  cases code <;> simp [State.trafficEnded, h, k]

@[simp] theorem State.fillHole_evolves (x : Sub) (i : Nat) (position : Seq) (h : s.Evolves t) :
    s.Evolves (t.fillHole x i position) := by
  unfold State.fillHole; dsimp only; (repeat' split) <;> simp [h]

@[simp] theorem State.playoutBoundary_evolves (h : s.Evolves t) :
    s.Evolves t.playoutBoundary := by
  unfold State.playoutBoundary; dsimp only; (repeat' split) <;> simp (maxDischargeDepth := 20) [h]

@[simp] theorem State.voiceHandover_evolves (h : s.Evolves t) :
    s.Evolves t.voiceHandover := by
  simp [State.voiceHandover, h]

@[simp] theorem State.voiceHandoverEnded_evolves (h : s.Evolves t) :
    s.Evolves t.voiceHandoverEnded := by
  simp [State.voiceHandoverEnded, h]


/-! ### Calls -/

@[simp] theorem State.moveCtx_evolves (i : Nat) (st : CallState) (h : s.Evolves t) :
    s.Evolves (t.moveCtx i st) := by
  unfold State.moveCtx; dsimp only; (repeat' split) <;> simp (maxDischargeDepth := 20) [h]

@[simp] theorem State.recordCause_evolves (i : Nat) (new : Cause) (h : s.Evolves t) :
    s.Evolves (t.recordCause i new) := by
  simp [State.recordCause, h]

@[simp] theorem State.reportEnded_evolves (i : Nat) (item : Option ErrorItem) (h : s.Evolves t) :
    s.Evolves (t.reportEnded i item) := by
  unfold State.reportEnded; dsimp only; (repeat' split) <;> simp [h]

@[simp] theorem State.dropTraffic_evolves (x : Sub) (h : s.Evolves t) :
    s.Evolves (t.dropTraffic x) := by
  unfold State.dropTraffic; dsimp only; split
  · exact h
  · refine State.onMobOf_evolves (by simp [h]) ?_
    split <;> simp

@[simp] theorem State.endCtx_evolves (i : Nat) (item : Option ErrorItem) (h : s.Evolves t) :
    s.Evolves (t.endCtx i item) := by
  simp (maxDischargeDepth := 20) [State.endCtx, h]

@[simp] theorem State.answerPending_evolves (code : ResultCode) (h : s.Evolves t) :
    s.Evolves (t.answerPending code) := by
  unfold State.answerPending; split
  · exact h
  · next p hp =>
    exact { h with
      hlc := Hlc.evolves_trans h.hlc ⟨rfl, rfl, List.prefix_append .., List.prefix_rfl, id, id⟩
      places := by
        have e : t.resultPlaces = t.hlc.results.length + 1 := by simp [State.resultPlaces, hp]
        have := h.places
        simp (maxDischargeDepth := 20) [State.resultPlaces, State.pushResult] at this ⊢; simp (maxDischargeDepth := 20) [hp] at this; omega }

@[simp] theorem State.ctxOffer_evolves (i : Nat) (k : TxnKind) (body : UpBody) (h : s.Evolves t) :
    s.Evolves (t.ctxOffer i k body).2 := by
  simp [State.ctxOffer, h]

@[simp] theorem State.connectAnswered_evolves (j : Nat) (h : s.Evolves t) :
    s.Evolves (t.connectAnswered j) := by
  unfold State.connectAnswered; dsimp only; split
  · split <;> (have k := congrArg Prod.snd ‹_ = (_, _)›; dsimp only at k; subst k; simp (maxDischargeDepth := 20) [h])
  · simp [h]

@[simp] theorem State.unanswer_evolves (j : Nat) (h : s.Evolves t) :
    s.Evolves (t.unanswer j) := by
  unfold State.unanswer; split <;> simp [h]

@[simp] theorem State.pendingLeft_evolves (i : Nat) (h : s.Evolves t) :
    s.Evolves (t.pendingLeft i) := by
  unfold State.pendingLeft; (repeat' split) <;> simp [h]

@[simp] theorem State.failPending_evolves (x : Sub) (h : s.Evolves t) :
    s.Evolves (t.failPending x) := by
  unfold State.failPending; (repeat' split) <;> simp [h]

@[simp] theorem State.releaseCtx_evolves (i : Nat) (cause : Cause) (h : s.Evolves t) :
    s.Evolves (t.releaseCtx i cause) := by
  unfold State.releaseCtx; dsimp only; (repeat' split) <;>
    (have k := congrArg Prod.snd ‹_ = (_, _)›; dsimp only at k; subst k; simp (maxDischargeDepth := 20) [h])

@[simp] theorem State.endAllCtxs_evolves (x : Sub) (cause : Cause) (h : s.Evolves t) :
    s.Evolves (t.endAllCtxs x cause) := by
  unfold State.endAllCtxs; dsimp only
  refine State.Evolves.foldl (fun u i => by simp) _ ?_
  split <;> simp [h]

@[simp] theorem State.placeTraffic_evolves (x : Sub) (h : s.Evolves t) :
    s.Evolves (t.placeTraffic x) := by
  unfold State.placeTraffic; split
  · exact h
  · split <;> (have k := congrArg Prod.snd ‹_ = (_, _)›; dsimp only at k; subst k)
    · dsimp only; split <;> simp (maxDischargeDepth := 20) [h]
    · simp [h]

@[simp] theorem State.becomeActive_evolves (i : Nat) (h : s.Evolves t) :
    s.Evolves (t.becomeActive i) := by
  simp (maxDischargeDepth := 20) [State.becomeActive, h]

@[simp] theorem State.callConnected_evolves (i : Nat) (h : s.Evolves t) :
    s.Evolves (t.callConnected i) := by
  unfold State.callConnected; split <;> simp [h]

@[simp] theorem State.moveActive_evolves (i : Nat) (h : s.Evolves t) :
    s.Evolves (t.moveActive i) := by
  simp [State.moveActive, h]

@[simp] theorem State.holdEnded_evolves (i : Nat) (ok : Bool) (h : s.Evolves t) :
    s.Evolves (t.holdEnded i ok) := by
  unfold State.holdEnded; dsimp only; (repeat' split) <;> simp (maxDischargeDepth := 20) [h]

@[simp] theorem State.resumeEnded_evolves (i : Nat) (ok : Bool) (h : s.Evolves t) :
    s.Evolves (t.resumeEnded i ok) := by
  unfold State.resumeEnded; split <;> simp [h]

@[simp] theorem State.ctxOutcome_evolves (i : Nat) (k : TxnKind) (o : TxnOutcome) (h : s.Evolves t) :
    s.Evolves (t.ctxOutcome i k o) := by
  unfold State.ctxOutcome; (repeat' split) <;> simp [h]

@[simp] theorem State.ctxProgress_evolves (i : Nat) (alert : Bool) (h : s.Evolves t) :
    s.Evolves (t.ctxProgress i alert) := by
  unfold State.ctxProgress; dsimp only; (repeat' split) <;> simp [h]

@[simp] theorem State.takeSetup_evolves (x : Sub) (i ref : Nat) (ident : Ident) (number : Digits) (h : s.Evolves t) :
    s.Evolves (t.takeSetup x i ref ident number) := by
  unfold State.takeSetup; dsimp only; (repeat' split) <;> simp (maxDischargeDepth := 20) [h]

@[simp] theorem State.setupIn_evolves (x : Sub) (ident : Ident) (ref : Nat) (type : NumberType) (digits : Digits) (h : s.Evolves t) :
    s.Evolves (t.setupIn x ident ref type digits) := by
  unfold State.setupIn; (repeat' split) <;> simp [h]

@[simp] theorem State.networkRelease_evolves (x : Sub) (ident : Ident) (ref : Nat) (item : Option ErrorItem) (h : s.Evolves t) :
    s.Evolves (t.networkRelease x ident ref item) := by
  unfold State.networkRelease; dsimp only; (repeat' split) <;> simp (maxDischargeDepth := 20) [h]


/-! ### Texts -/

@[simp] theorem State.onText_evolves {i : Nat} {f : TextEntry → TextEntry} (h : s.Evolves t) : s.Evolves (t.onText i f) := by
  simp [State.onText, h]


@[simp] theorem State.freeText_evolves (i : Nat) (h : s.Evolves t) :
    s.Evolves (t.freeText i) := by
  unfold State.freeText; split <;> simp [h]

@[simp] theorem State.offerText_evolves (i : Nat) (h : s.Evolves t) :
    s.Evolves (t.offerText i) := by
  unfold State.offerText; (repeat' split)
  · exact h
  · next hm =>
    have hq : t.hlc.queue.length < 32 := by
      simp only [State.mayDeliver, Bool.and_eq_true] at hm; exact of_decide_eq_true hm.1.2
    refine State.onHlc_evolves (by simp [h]) ?_ (fun _ => rfl)
    exact ⟨rfl, rfl, List.prefix_rfl, List.prefix_append .., fun _ => by simpa using hq, id⟩
  · exact h

@[simp] theorem State.offerTexts_evolves (h : s.Evolves t) :
    s.Evolves t.offerTexts := by
  exact State.Evolves.foldl (fun u i => by simp) _ h

@[simp] theorem State.completeText_evolves (i : Nat) (d : Delivery) (h : s.Evolves t) :
    s.Evolves (t.completeText i d) := by
  simp (maxDischargeDepth := 20) [State.completeText, h]

@[simp] theorem State.ackText_evolves (x : Sub) (ident : Ident) (h : s.Evolves t) :
    s.Evolves (t.ackText x ident) := by
  simp [State.ackText, h]

@[simp] theorem State.nakText_evolves (x : Sub) (ident : Ident) (item : ErrorItem) (h : s.Evolves t) :
    s.Evolves (t.nakText x ident item) := by
  simp [State.nakText, h]

@[simp] theorem State.congested_evolves (x : Sub) (ident : Ident) (h : s.Evolves t) :
    s.Evolves (t.congested x ident) := by
  simp [State.congested, h]

@[simp] theorem State.checkWhole_evolves (i : Nat) (h : s.Evolves t) :
    s.Evolves (t.checkWhole i) := by
  unfold State.checkWhole; (repeat' split) <;> simp [h]

@[simp] theorem State.firstSegment_evolves (x : Sub) (ident : Ident) (g : Segment) (h : s.Evolves t) :
    s.Evolves (t.firstSegment x ident g) := by
  unfold State.firstSegment; dsimp only; (repeat' split) <;> simp (maxDischargeDepth := 20) [h]

@[simp] theorem State.laterSegment_evolves (x : Sub) (ident : Ident) (i : Nat) (e : TextEntry) (g : Segment) (h : s.Evolves t) :
    s.Evolves (t.laterSegment x ident i e g) := by
  unfold State.laterSegment; (repeat' split) <;> simp (maxDischargeDepth := 20) [h]

@[simp] theorem State.textSegment_evolves (x : Sub) (ident : Ident) (g : Segment) (h : s.Evolves t) :
    s.Evolves (t.textSegment x ident g) := by
  unfold State.textSegment; split <;> simp [h]

@[simp] theorem State.textDeadline_evolves (i : Nat) (h : s.Evolves t) :
    s.Evolves (t.textDeadline i) := by
  unfold State.textDeadline; (repeat' split) <;> simp [h]

@[simp] theorem State.setOutgoing_evolves (x : Sub) (o : Option Outgoing) (h : s.Evolves t) :
    s.Evolves (t.setOutgoing x o) := by
  simp [State.setOutgoing, h]

@[simp] theorem State.offerSegment_evolves (x : Sub) (h : s.Evolves t) :
    s.Evolves (t.offerSegment x).2 := by
  unfold State.offerSegment; split
  · exact h
  · dsimp only; split <;> (have k := congrArg Prod.snd ‹_ = (_, _)›; dsimp only at k; subst k; simp (maxDischargeDepth := 20) [h])

@[simp] theorem State.sendSegment_evolves (x : Sub) (h : s.Evolves t) :
    s.Evolves (t.sendSegment x) := by
  unfold State.sendSegment; split <;>
    (have k := congrArg Prod.snd ‹_ = (_, _)›; dsimp only at k; subst k) <;> (try split) <;> simp (maxDischargeDepth := 20) [h]

@[simp] theorem State.dropOutgoing_evolves (x : Sub) (h : s.Evolves t) :
    s.Evolves (t.dropOutgoing x) := by
  unfold State.dropOutgoing; split <;> simp (maxDischargeDepth := 20) [h]

@[simp] theorem State.failText_evolves (x : Sub) (cause : TextFailCause) (h : s.Evolves t) :
    s.Evolves (t.failText x cause) := by
  unfold State.failText; split <;> simp [h]

@[simp] theorem State.segmentAcked_evolves (x : Sub) (h : s.Evolves t) :
    s.Evolves (t.segmentAcked x) := by
  unfold State.segmentAcked; dsimp only; (repeat' split) <;> simp (maxDischargeDepth := 20) [h]

@[simp] theorem State.textOutEnded_evolves (x : Sub) (outcome : TxnOutcome) (h : s.Evolves t) :
    s.Evolves (t.textOutEnded x outcome) := by
  unfold State.textOutEnded; split <;> simp [h]


/-! ### Mobility -/

@[simp] theorem State.onServing_evolves (x : Sub) (f : Serving → Serving) (h : s.Evolves t) :
    s.Evolves (t.onServing x f) := by
  simp [State.onServing, h]

@[simp] theorem State.setCopy_evolves (x : Sub) (h : s.Evolves t) :
    s.Evolves (t.setCopy x) := by
  unfold State.setCopy; split <;> simp [h]

@[simp] theorem State.servingSet_evolves (x : Sub) (h : s.Evolves t) :
    s.Evolves (t.servingSet x) := by
  simp (maxDischargeDepth := 20) [State.servingSet, h]

@[simp] theorem State.tryMeasure_evolves (x : Sub) (h : s.Evolves t) :
    s.Evolves (t.tryMeasure x) := by
  unfold State.tryMeasure; dsimp only; split <;> (have k := congrArg Prod.snd ‹_ = (_, _)›; dsimp only at k; subst k; simp [h])

@[simp] theorem State.trySearch_evolves (x : Sub) (h : s.Evolves t) :
    s.Evolves (t.trySearch x) := by
  unfold State.trySearch; dsimp only; split <;> (have k := congrArg Prod.snd ‹_ = (_, _)›; dsimp only at k; subst k; simp [h])

@[simp] theorem State.placeMeasure_evolves (x : Sub) (h : s.Evolves t) :
    s.Evolves (t.placeMeasure x) := by
  simp [State.placeMeasure, h]

@[simp] theorem State.placeSearch_evolves (x : Sub) (h : s.Evolves t) :
    s.Evolves (t.placeSearch x) := by
  simp [State.placeSearch, h]

@[simp] theorem State.readFailed_evolves (x : Sub) (i cellId : Nat) (h : s.Evolves t) :
    s.Evolves (t.readFailed x i cellId) := by
  refine State.onMobOf_evolves h ?_
  dsimp only; split <;> simp

@[simp] theorem State.readRefused_evolves (x : Sub) (h : s.Evolves t) :
    s.Evolves (t.readRefused x) := by
  unfold State.readRefused; dsimp only; (repeat' split) <;> simp [h]

@[simp] theorem State.tryRead_evolves (x : Sub) (h : s.Evolves t) :
    s.Evolves (t.tryRead x) := by
  unfold State.tryRead; split <;> (have k := congrArg Prod.snd ‹_ = (_, _)›; dsimp only at k; subst k; simp [h])

@[simp] theorem State.placeRead_evolves (x : Sub) (purpose : ReadPurpose) (h : s.Evolves t) :
    s.Evolves (t.placeRead x purpose) := by
  simp (maxDischargeDepth := 20) [State.placeRead, h]

@[simp] theorem State.refreshRead_evolves (x : Sub) (h : s.Evolves t) :
    s.Evolves (t.refreshRead x) := by
  unfold State.refreshRead; (repeat' split) <;> simp [h]

@[simp] theorem State.passOutcome_evolves (p : Txn) (o : TxnOutcome) (h : s.Evolves t) :
    s.Evolves (t.passOutcome p o) := by
  unfold State.passOutcome; split <;> simp [h]

@[simp] theorem State.teardownOutcome_evolves (p : Txn) (o : TxnOutcome) (h : s.Evolves t) :
    s.Evolves (t.teardownOutcome p o) := by
  unfold State.teardownOutcome; split <;> simp [h]

@[simp] theorem State.teardownSge_evolves (x : Sub) (o : TxnOutcome) (h : s.Evolves t) :
    s.Evolves (t.teardownSge x o) := by
  exact State.emptyUplink_evolves x (State.Evolves.foldl (fun _ _ => by simp) _ h)

@[simp] theorem State.writeActivity_evolves (x : Sub) (a : Activity) (h : s.Evolves t) :
    s.Evolves (t.writeActivity x a) := by
  unfold State.writeActivity; dsimp only; (repeat' split) <;> simp [h]

@[simp] theorem State.loseService_evolves (x : Sub) (h : s.Evolves t) :
    s.Evolves (t.loseService x) := by
  unfold State.loseService; split
  · exact h
  · simp (maxDischargeDepth := 20) [h, PscSub.tornDown, MobSub.afterLoss]

@[simp] theorem State.enterCamped_evolves (x : Sub) (h : s.Evolves t) :
    s.Evolves (t.enterCamped x) := by
  unfold State.enterCamped; dsimp only; (repeat' split) <;> simp (maxDischargeDepth := 20) [h]

@[simp] theorem State.enterBusy_evolves (x : Sub) (h : s.Evolves t) :
    s.Evolves (t.enterBusy x) := by
  simp (maxDischargeDepth := 20) [State.enterBusy, h]

@[simp] theorem State.derive_evolves (x : Sub) (h : s.Evolves t) :
    s.Evolves (t.derive x) := by
  unfold State.derive; dsimp only; (repeat' split) <;> simp (maxDischargeDepth := 20) [h]

@[simp] theorem State.settleAlone_evolves (x : Sub) (h : s.Evolves t) :
    s.Evolves (t.settleAlone x) := by
  simp [State.settleAlone, h]

@[simp] theorem State.tryOnce_evolves (w : WaitKind) (x : Sub) (h : s.Evolves t) :
    s.Evolves (t.tryOnce w x) := by
  unfold State.tryOnce; (repeat' split) <;> simp [h]

@[simp] theorem State.tryWaiter_evolves (hold : Option Sub) (e : Waiter) (h : s.Evolves t) : s.Evolves (State.tryWaiter hold t e) := by
  unfold State.tryWaiter; dsimp only; split <;> simp (maxDischargeDepth := 20) [h]


@[simp] theorem State.tryWaiters_evolves (hold : Option Sub) (h : s.Evolves t) :
    s.Evolves (t.tryWaiters hold) := by
  exact State.Evolves.foldl (fun _ _ => by simp) _ h

@[simp] theorem State.settle_evolves (x : Sub) (h : s.Evolves t) :
    s.Evolves (t.settle x) := by
  unfold State.settle; dsimp only; (repeat' split) <;> simp [h]

@[simp] theorem State.lose_evolves (x : Sub) (h : s.Evolves t) :
    s.Evolves (t.lose x) := by
  simp [State.lose, h]


/-! ### Reselection -/

@[simp] theorem State.notActedOn_evolves (x : Sub) (h : s.Evolves t) :
    s.Evolves (t.notActedOn x) := by
  simp [State.notActedOn, h]

@[simp] theorem State.offerReport_evolves (x : Sub) (h : s.Evolves t) :
    s.Evolves (t.offerReport x) := by
  unfold State.offerReport; split <;> (have k := congrArg Prod.snd ‹_ = (_, _)›; dsimp only at k; subst k; simp [h])

@[simp] theorem State.actOnFiring_evolves (x : Sub) (i : Nat) (h : s.Evolves t) :
    s.Evolves (t.actOnFiring x i) := by
  unfold State.actOnFiring; (repeat' split) <;> simp [h]

@[simp] theorem State.afterResult_evolves (x : Sub) (fires : Option Nat) (h : s.Evolves t) :
    s.Evolves (t.afterResult x fires) := by
  unfold State.afterResult; dsimp only; (repeat' split) <;> simp (maxDischargeDepth := 20) [h]

@[simp] theorem State.processResult_evolves (x : Sub) (cells : List ListedCell) (result : List (Option Int)) (h : s.Evolves t) :
    s.Evolves (t.processResult x cells result) := by
  unfold State.processResult; dsimp only; split <;> simp (maxDischargeDepth := 20) [h]

@[simp] theorem State.measureEnded_evolves (x : Sub) (code : EndCode) (cells : List ListedCell) (result : Option (List (Option Int))) (h : s.Evolves t) :
    s.Evolves (t.measureEnded x code cells result) := by
  unfold State.measureEnded; split <;> simp [h]

@[simp] theorem State.reselect_evolves (x : Sub) (i : Nat) (v : Serving) (n : Neighbour) (b : BeaconBlock) (h : s.Evolves t) :
    s.Evolves (t.reselect x i v n b) := by
  simp (maxDischargeDepth := 20) [State.reselect, h, MobSub.swap]

@[simp] theorem State.readEnded_evolves (x : Sub) (code : EndCode) (kept : Option BeaconBlock) (h : s.Evolves t) :
    s.Evolves (t.readEnded x code kept) := by
  unfold State.readEnded; dsimp only; (repeat' split) <;> simp [h]

@[simp] theorem State.searchEnded_evolves (x : Sub) (code : EndCode) (freq : Nat) (kept : Option BeaconBlock) (h : s.Evolves t) :
    s.Evolves (t.searchEnded x code freq kept) := by
  unfold State.searchEnded; (repeat' split) <;> simp (maxDischargeDepth := 20) [h, MobSub.camp]

@[simp] theorem State.refreshServing_evolves (x : Sub) (v : Serving) (b : BeaconBlock) (h : s.Evolves t) :
    s.Evolves (t.refreshServing x v b) := by
  unfold State.refreshServing; dsimp only; (repeat' split) <;> simp (maxDischargeDepth := 20) [h]

@[simp] theorem State.keepBeacon_evolves (x : Sub) (kind : ClaimKind) (first : Frame) (b : BeaconBlock) (h : s.Evolves t) :
    s.Evolves (t.keepBeacon x kind first b) := by
  simp [State.keepBeacon, h]

@[simp] theorem State.beaconDelivered_evolves (x : Sub) (kind : ClaimKind) (first : Frame) (b : BeaconBlock) (h : s.Evolves t) :
    s.Evolves (t.beaconDelivered x kind first b) := by
  unfold State.beaconDelivered; dsimp only; (repeat' split) <;> simp [h]


/-! ### Handover -/

@[simp] theorem State.accessOver_evolves (x : Sub) (h : s.Evolves t) :
    s.Evolves (t.accessOver x) := by
  simp [State.accessOver, h]

@[simp] theorem State.accessSucceeded_evolves (x : Sub) (r : ReturnRecord) (cmd : HoCommand) (h : s.Evolves t) :
    s.Evolves (t.accessSucceeded x r cmd) := by
  simp (maxDischargeDepth := 20) [State.accessSucceeded, h]

@[simp] theorem State.accessFailed_evolves (x : Sub) (r : ReturnRecord) (cmd : HoCommand) (h : s.Evolves t) :
    s.Evolves (t.accessFailed x r cmd) := by
  simp (maxDischargeDepth := 20) [State.accessFailed, h]

@[simp] theorem State.accessEnded_evolves (x : Sub) (code : EndCode) (goodNotice : Bool) (h : s.Evolves t) :
    s.Evolves (t.accessEnded x code goodNotice) := by
  unfold State.accessEnded; (repeat' split) <;> simp [h]

@[simp] theorem State.takeCommand_evolves (x : Sub) (v : Serving) (c : HoTarget) (h : s.Evolves t) :
    s.Evolves (t.takeCommand x v c) := by
  unfold State.takeCommand; dsimp only; split <;> (have k := congrArg Prod.snd ‹_ = (_, _)›; dsimp only at k; subst k; simp (maxDischargeDepth := 20) [h])

@[simp] theorem State.hoCommand_evolves (x : Sub) (c : HoTarget) (h : s.Evolves t) :
    s.Evolves (t.hoCommand x c) := by
  unfold State.hoCommand; (repeat' split) <;> simp [h]

@[simp] theorem State.trafficNotice_evolves (x : Sub) (h : s.Evolves t) :
    s.Evolves (t.trafficNotice x) := by
  exact State.onMobOf_evolves h (by split <;> simp)

@[simp] theorem State.secondFailure_evolves (x : Sub) (h : s.Evolves t) :
    s.Evolves (t.secondFailure x) := by
  simp [State.secondFailure, h]


/-! ### Answers -/

@[simp] theorem State.linkEnded_evolves (p : Txn) (o : TxnOutcome) (h : s.Evolves t) :
    s.Evolves (t.linkEnded p o) := by
  unfold State.linkEnded; dsimp only; (repeat' split) <;> simp [h]

@[simp] theorem State.reportEndedTxn_evolves (x : Sub) (o : TxnOutcome) (h : s.Evolves t) :
    s.Evolves (t.reportEndedTxn x o) := by
  unfold State.reportEndedTxn; split <;> simp [h]

@[simp] theorem State.tellOwner_evolves (p : Txn) (o : TxnOutcome) (accept : Option (Nat × Option AliasValue)) (h : s.Evolves t) :
    s.Evolves (t.tellOwner p o accept) := by
  unfold State.tellOwner; (repeat' split) <;> simp [h]

@[simp] theorem State.endTxnWith_evolves (i : Nat) (o : TxnOutcome) (accept : Option (Nat × Option AliasValue)) (h : s.Evolves t) :
    s.Evolves (t.endTxnWith i o accept) := by
  unfold State.endTxnWith; split <;> simp (maxDischargeDepth := 20) [h]

@[simp] theorem State.endTxn_evolves (i : Nat) (o : TxnOutcome) (h : s.Evolves t) :
    s.Evolves (t.endTxn i o) := by
  simp [State.endTxn, h]

@[simp] theorem State.linkGranted_evolves (i : Nat) (h : s.Evolves t) :
    s.Evolves (t.linkGranted i) := by
  simp [State.linkGranted, h]

@[simp] theorem State.provisional_evolves (i : Nat) (p : Txn) (alert : Bool) (h : s.Evolves t) :
    s.Evolves (t.provisional i p alert) := by
  unfold State.provisional; dsimp only; split <;> simp [h]

@[simp] theorem State.answered_evolves (i : Nat) (p : Txn) (b : SignalBlock) (h : s.Evolves t) :
    s.Evolves (t.answered i p b) := by
  unfold State.answered; split <;> simp [h]

@[simp] theorem State.answerCode_evolves (x : Sub) (b : SignalBlock) (h : s.Evolves t) :
    s.Evolves (t.answerCode x b) := by
  unfold State.answerCode; (repeat' split) <;> simp [h]

@[simp] theorem State.releaseFrom_evolves (x : Sub) (b : SignalBlock) (h : s.Evolves t) :
    s.Evolves (t.releaseFrom x b) := by
  unfold State.releaseFrom; dsimp only; (repeat' split) <;> simp (maxDischargeDepth := 20) [h]

@[simp] theorem State.releaseDone_evolves (x : Sub) (b : SignalBlock) (h : s.Evolves t) :
    s.Evolves (t.releaseDone x b) := by
  unfold State.releaseDone; dsimp only; (repeat' split) <;> simp [h]

@[simp] theorem State.hoCommandFrom_evolves (x : Sub) (b : SignalBlock) (h : s.Evolves t) :
    s.Evolves (t.hoCommandFrom x b) := by
  unfold State.hoCommandFrom; dsimp only; (repeat' split) <;> simp (maxDischargeDepth := 20) [h]

@[simp] theorem State.setupFrom_evolves (x : Sub) (b : SignalBlock) (h : s.Evolves t) :
    s.Evolves (t.setupFrom x b) := by
  unfold State.setupFrom; split <;> simp [h]

@[simp] theorem State.textFrom_evolves (x : Sub) (b : SignalBlock) (h : s.Evolves t) :
    s.Evolves (t.textFrom x b) := by
  unfold State.textFrom; split <;> simp [h]

@[simp] theorem State.passAnswer_evolves (x : Sub) (b : SignalBlock) (h : s.Evolves t) :
    s.Evolves (t.passAnswer x b) := by
  unfold State.passAnswer; (repeat' split) <;> simp [h]

@[simp] theorem State.sgeTakes_evolves (x : Sub) (b : SignalBlock) (h : s.Evolves t) :
    s.Evolves (t.sgeTakes x b) := by
  unfold State.sgeTakes; dsimp only; (repeat' split) <;> simp [h]


/-! ### The arbiter and the orders -/

@[simp] theorem State.placeNow_evolves (k : ClaimKind) (x : Sub) (h : s.Evolves t) :
    s.Evolves (t.placeNow k x) := by
  unfold State.placeNow; split <;> simp [h]

@[simp] theorem State.takeTurn_evolves (e : ClaimKind × Sub) (h : s.Evolves t) : s.Evolves (t.takeTurn e) := by
  unfold State.takeTurn; (repeat' split) <;> simp [h]


@[simp] theorem State.takeStanding_evolves (h : s.Evolves t) :
    s.Evolves t.takeStanding := by
  exact State.Evolves.foldl (fun _ _ => by simp) _ h

/-- What is asked for within a step is gone when it ends; the rest of the step's work counts. -/
theorem State.inRankOrder_evolves {act : State → State} (ha : ∀ u : State, u.Evolves (act u)) (h : s.Evolves t) :
    s.Evolves (t.inRankOrder act) := by
  have k : (t.setAsked (some [])).Evolves (placementOrder.foldl State.takeTurn (act (t.setAsked (some [])))) :=
    State.Evolves.foldl (fun _ _ => by simp) _ (ha _)
  obtain ⟨h1, h2, h3, h4, h5, h6, _⟩ := k.rta
  exact h.trans { k with rta := ⟨h1, h2, h3, h4, h5, h6, id⟩ }


@[simp] theorem State.settleClaim_evolves (i : Nat) (code : EndCode) (h : s.Evolves t) :
    s.Evolves (t.settleClaim i code) := by
  refine State.onRta_evolves h ⟨rfl, rfl, rfl, by simp, rfl, claimsApart_modify i _ rfl fun c d e => ?_, id⟩
  exact Claim.settled_key e

@[simp] theorem State.tellClaimOwner_evolves (x : Sub) (k : ClaimKind) (code : EndCode) (u : Option RadioUnit) (h : s.Evolves t) :
    s.Evolves (t.tellClaimOwner x k code u) := by
  unfold State.tellClaimOwner; split <;> simp [h]

@[simp] theorem State.endUnit_evolves (faulted : Bool) (h : s.Evolves t) :
    s.Evolves (t.endUnit faulted) := by
  unfold State.endUnit; dsimp only; (repeat' split) <;> simp (maxDischargeDepth := 20) [h]

@[simp] theorem State.faultOrder_evolves (errors : List OrderError) (h : s.Evolves t) :
    s.Evolves (t.faultOrder errors) := by
  unfold State.faultOrder; split
  · exact h
  · dsimp only; split
    · exact State.endUnit_evolves _ (State.reportWake_evolves _ (State.onRpt_evolves h fun _ => Nat.zero_le _))
    · next hc =>
      refine State.endUnit_evolves _ (State.onRpt_evolves h fun _ => ?_)
      have hn : ¬ 4 ≤ t.rpt.faultCount + 1 := hc
      show t.rpt.faultCount + 1 ≤ 3; omega

@[simp] theorem State.cleanAck_evolves (o : Order) (h : s.Evolves t) :
    s.Evolves (t.cleanAck o) := by
  unfold State.cleanAck; dsimp only; (repeat' split) <;> simp (maxDischargeDepth := 20) [h]

@[simp] theorem State.sendOrder_evolves (o : Order) (h : s.Evolves t) :
    s.Evolves (t.sendOrder o) := by
  simp [State.sendOrder, h]

@[simp] theorem State.uplinkBlock_evolves (x : Sub) (k : ClaimKind) (h : s.Evolves t) :
    s.Evolves (t.uplinkBlock x k).2.2 := by
  unfold State.uplinkBlock; dsimp only; (repeat' split)
  · exact State.onVcp_evolves h (Vcp.steal_evolves _)
  · exact h
  · exact State.onVcp_evolves h (f := fun _ => t.vcp.takeSpeech.2) (Vcp.takeSpeech_evolves t.vcp)
  · exact h

@[simp] theorem State.orderCell_evolves (x : Sub) (k : ClaimKind) (h : s.Evolves t) :
    s.Evolves (t.orderCell x k).2 := by
  unfold State.orderCell; split <;> simp [h]

@[simp] theorem State.orderContent_evolves (x : Sub) (k : ClaimKind) (h : s.Evolves t) :
    s.Evolves (t.orderContent x k).2.2 := by
  unfold State.orderContent; split <;> simp [h]

@[simp] theorem State.beginListen_evolves (x : Sub) (k : ClaimKind) (h : s.Evolves t) :
    s.Evolves (t.beginListen x k) := by
  unfold State.beginListen; split <;> simp [h]

@[simp] theorem State.startUnit_evolves (i : Nat) (c : Claim) (h : s.Evolves t) :
    s.Evolves (t.startUnit i c) := by
  simp (maxDischargeDepth := 20) [State.startUnit, h]

@[simp] theorem State.passOver_evolves (code : EndCode) (e : Nat × Claim) (h : s.Evolves t) : s.Evolves (t.passOver code e) := by
  unfold State.passOver; split <;> simp [h]

theorem Rta.best_evolves (r : Rta) (l : List (Nat × Claim)) : r.evolves (r.best l).2 := by
  unfold Rta.best Rta.contest; dsimp only; (repeat' split) <;> simp


@[simp] theorem State.grant_evolves (recovery : Bool) (h : s.Evolves t) :
    s.Evolves (t.grant recovery) := by
  have passed (code : EndCode) (l : List (Nat × Claim)) {u : State} (k : s.Evolves u) : s.Evolves (l.foldl (State.passOver code) u) :=
    State.Evolves.foldl (fun v e => by simp) l k
  have best (l : List (Nat × Claim)) : s.Evolves (t.onRta fun _ => (t.rta.best l).2) := State.onRta_evolves h (Rta.best_evolves _ l)
  unfold State.grant; dsimp only; (repeat' split) <;> simp only [passed, best, h, State.startUnit_evolves]

@[simp] theorem State.expireWindow_evolves (e : Nat × Claim) (h : s.Evolves t) : s.Evolves (t.expireWindow e) := by
  unfold State.expireWindow; (repeat' split) <;> simp [h]


@[simp] theorem State.expireWindows_evolves (h : s.Evolves t) :
    s.Evolves t.expireWindows := by
  exact State.Evolves.foldl (fun _ _ => by simp) _ h

@[simp] theorem State.recordHolder_evolves (h : s.Evolves t) :
    s.Evolves t.recordHolder := by
  simp [State.recordHolder, h]

@[simp] theorem State.decide_evolves (h : s.Evolves t) :
    s.Evolves t.decide := by
  unfold State.decide; dsimp only; (repeat' split) <;> simp (maxDischargeDepth := 20) [h]

@[simp] theorem State.countTimers_evolves (h : s.Evolves t) :
    s.Evolves t.countTimers := by
  have wait (q : List Msg) : (q.map fun m : Msg => { m with wait := min Config.waitLimit (m.wait + 1) }).length = q.length := by simp
  have hs : s.Evolves (t.onSge Sge.count) := State.onSge_evolves h
    ⟨by simp [Sge.count], id, by simp [Sge.count], by simp [Sge.count], fun _ => (keysFrom_map Txn.key _ (fun _ => by rfl) _).apart⟩
  have count (now : Frame) (p : PscSub) : p.evolves (p.count now) := by unfold PscSub.count; split <;> simp
  refine State.onPsc_evolves (State.onMob_evolves (by simp [hs, Cal.count, Txt.count]) fun x => ?_) (fun _ => rfl) fun x => ?_
  · cases x <;> simp [PerSub.get]
  · cases x <;> exact count ..

@[simp] theorem State.openWindows_evolves (h : s.Evolves t) :
    s.Evolves t.openWindows := by
  exact State.onRta_evolves h ⟨rfl, rfl, rfl, by simp, rfl, claimsApart_map _ fun c => ⟨rfl, rfl⟩, id⟩

@[simp] theorem State.nextFrame_evolves (h : s.Evolves t) :
    s.Evolves t.nextFrame := by
  simp [State.nextFrame, h]

@[simp] theorem State.arbitrate_evolves (h : s.Evolves t) :
    s.Evolves t.arbitrate := by
  unfold State.arbitrate; dsimp only; (repeat' split) <;> simp (maxDischargeDepth := 20) [h]

@[simp] theorem State.boundary_evolves (h : s.Evolves t) :
    s.Evolves t.boundary := by
  have k := State.inRankOrder_evolves (act := State.arbitrate) (fun u => by simp) (State.openWindows_evolves (State.countTimers_evolves (State.nextFrame_evolves h)))
  unfold State.boundary; dsimp only; split <;> simp [k]


/-! ### Blocks -/

@[simp] theorem State.accessNotice_evolves (g : Holder) (good : Bool) (h : s.Evolves t) :
    s.Evolves (t.accessNotice g good) := by
  unfold State.accessNotice; split <;> simp [h]

theorem State.classify_evolves {deliver : Holder → State → State} (hd : ∀ (g : Holder) (u : State), u.Evolves (deliver g u)) (frame : Frame)
    (b : BlockKind) (good : Bool) (h : s.Evolves t) : s.Evolves (t.classify frame b good deliver) := by
  unfold State.classify; dsimp only; (repeat' split)
  · simp [h]
  · exact State.Evolves.trans (by simp [h]) (hd ..)
  · simp [h]


@[simp] theorem State.pageResponse_evolves (x : Sub) (frame : Frame) (i : PageItem) (h : s.Evolves t) :
    s.Evolves (t.pageResponse x frame i) := by
  unfold State.pageResponse; split
  · simp [h]
  · split <;> (have k := congrArg Prod.snd ‹_ = (_, _)›; dsimp only at k; subst k; simp (maxDischargeDepth := 20) [h])

@[simp] theorem State.pageUpdate_evolves (x : Sub) (h : s.Evolves t) :
    s.Evolves (t.pageUpdate x) := by
  unfold State.pageUpdate; dsimp only; (repeat' split) <;> simp [h]

@[simp] theorem State.pageMatched_evolves (x : Sub) (frame : Frame) (i : PageItem) (h : s.Evolves t) :
    s.Evolves (t.pageMatched x frame i) := by
  unfold State.pageMatched; dsimp only; split <;> simp [h]

@[simp] theorem State.onListen_evolves (x : Sub) (first : Frame) (f : Listen → Listen) (h : s.Evolves t) :
    s.Evolves (t.onListen x first f) := by
  simp [State.onListen, h]

@[simp] theorem State.pageDelivered_evolves (g : Holder) (frame : Frame) (b : PageBlock) (h : s.Evolves t) :
    s.Evolves (t.pageDelivered g frame b) := by
  unfold State.pageDelivered; dsimp only; (repeat' split) <;> simp (maxDischargeDepth := 20) [h]

@[simp] theorem State.route_evolves (x : Sub) (frame : Frame) (b : SignalBlock) (h : s.Evolves t) :
    s.Evolves (t.route x frame b) := by
  unfold State.route; dsimp only; (repeat' split) <;> simp [h]

@[simp] theorem State.noticeTraffic_evolves (g : Holder) (h : s.Evolves t) :
    s.Evolves (t.noticeTraffic g) := by
  unfold State.noticeTraffic; split <;> simp [h]

@[simp] theorem State.signalDelivered_evolves (g : Holder) (frame : Frame) (good : Bool) (b : SignalBlock) (h : s.Evolves t) :
    s.Evolves (t.signalDelivered g frame good b) := by
  unfold State.signalDelivered; split <;> simp (maxDischargeDepth := 20) [h]

@[simp] theorem State.voiceDelivered_evolves (g : Holder) (good : Bool) (b : VoiceBlock) (h : s.Evolves t) :
    s.Evolves (t.voiceDelivered g good b) := by
  unfold State.voiceDelivered; split
  · exact State.onVcp_evolves (State.noticeTraffic_evolves _ h) (Vcp.goodVoice_evolves ..)
  · exact State.onVcp_evolves h (Vcp.countLost_evolves _)

@[simp] theorem State.holdResult_evolves (entries : List (Option Int)) (h : s.Evolves t) :
    s.Evolves (t.holdResult entries) := by
  simp [State.holdResult, h]

end Operations

end Sys2Proof.Machine
end

section
/-! Sitting 1: what the rows keep, the requests of the host with them. -/

namespace Sys2Proof.Machine

/-! ### Rows of the part's own work -/

section Rows
variable {s t : State}

@[simp] theorem State.drivePins_evolves (h : s.Evolves t) : s.Evolves t.drivePins := { h with }

@[simp] theorem State.chooseOutbound_evolves (h : s.Evolves t) : s.Evolves t.chooseOutbound := by
  unfold State.chooseOutbound; (repeat' split) <;> simp [h]

@[simp] theorem State.finish_evolves (before : State) (h : s.Evolves t) : s.Evolves (before.finish t) := by
  unfold State.finish; dsimp only; split <;> simp (maxDischargeDepth := 20) [h]

@[simp] theorem State.passTicks_evolves (n : Nat) (h : s.Evolves t) : s.Evolves (t.passTicks n) := by simp [State.passTicks, h]

@[simp] theorem State.lightReturn_evolves (h : s.Evolves t) : s.Evolves t.lightReturn := by
  unfold State.lightReturn; (repeat' split) <;> simp [h]

@[simp] theorem State.wakeExpiry_evolves (h : s.Evolves t) : s.Evolves t.wakeExpiry := by
  unfold State.wakeExpiry; (repeat' split) <;> simp [h]

@[simp] theorem State.settleEnd_evolves (h : s.Evolves t) : s.Evolves t.settleEnd := by
  unfold State.settleEnd; (repeat' split) <;> simp [h]

@[simp] theorem State.returnExpiry_evolves (x : Sub) (h : s.Evolves t) : s.Evolves (t.returnExpiry x) := by
  unfold State.returnExpiry; split <;> simp [h]

@[simp] theorem State.answerExpiry_evolves (x : Sub) (ident : Ident) (h : s.Evolves t) : s.Evolves (t.answerExpiry x ident) := by
  unfold State.answerExpiry; (repeat' split) <;> simp [h]

@[simp] theorem State.waitExpiry_evolves (x : Sub) (pos : Nat) (h : s.Evolves t) : s.Evolves (t.waitExpiry x pos) := by
  unfold State.waitExpiry; (repeat' split) <;> simp [h]

@[simp] theorem State.idleExpiry_evolves (x : Sub) (ident : Ident) (h : s.Evolves t) : s.Evolves (t.idleExpiry x ident) := by
  unfold State.idleExpiry; (repeat' split) <;> simp [h]

@[simp] theorem State.noticeExpiry_evolves (x : Sub) (h : s.Evolves t) : s.Evolves (t.noticeExpiry x) := by
  unfold State.noticeExpiry; (repeat' split) <;> simp [h]

@[simp] theorem State.ringExpiry_evolves (i : Nat) (h : s.Evolves t) : s.Evolves (t.ringExpiry i) := by
  unfold State.ringExpiry; split <;> simp [h]

@[simp] theorem State.deadlineExpiry_evolves (i : Nat) (h : s.Evolves t) : s.Evolves (t.deadlineExpiry i) := by
  unfold State.deadlineExpiry; (repeat' split) <;> simp [h]

@[simp] theorem State.orderAck_evolves (tag : Ident) (errors : List OrderError) (h : s.Evolves t) : s.Evolves (t.orderAck tag errors) := by
  unfold State.orderAck; (repeat' split) <;> simp [h]

@[simp] theorem MobSub.entersCheck_keeps (b m : MobSub) :
    (b.entersCheck m).params = m.params ∧ (b.entersCheck m).neighbours = m.neighbours := by
  unfold MobSub.entersCheck; split <;> simp

@[simp] theorem State.deadlinePasses_evolves (h : s.Evolves t) : s.Evolves t.deadlinePasses := by
  refine State.onMob_evolves (State.inRankOrder_evolves (fun u => by simp) h) fun x => ?_
  cases x <;> simp [PerSub.get]

@[simp] theorem State.enqueueHeld_evolves (x : Sub) (h : s.Evolves t) : s.Evolves (t.enqueueHeld x) := by
  unfold State.enqueueHeld; (repeat' split) <;> simp (maxDischargeDepth := 20) [h]

@[simp] theorem State.waiterRetry_evolves (w : WaitKind) (x : Sub) (h : s.Evolves t) : s.Evolves (t.waiterRetry w x) := by
  unfold State.waiterRetry; split <;> simp (maxDischargeDepth := 20) [h]

@[simp] theorem State.pagingRetry_evolves (x : Sub) (h : s.Evolves t) : s.Evolves (t.pagingRetry x) := by
  unfold State.pagingRetry; split <;> simp [h]

@[simp] theorem State.measureRetry_evolves (x : Sub) (h : s.Evolves t) : s.Evolves (t.measureRetry x) := by
  unfold State.measureRetry; split <;> simp [h]

@[simp] theorem State.searchRetry_evolves (x : Sub) (h : s.Evolves t) : s.Evolves (t.searchRetry x) := by
  unfold State.searchRetry; split <;> simp [h]

@[simp] theorem State.trafficRetry_evolves (x : Sub) (h : s.Evolves t) : s.Evolves (t.trafficRetry x) := by
  unfold State.trafficRetry; split <;> simp [h]

@[simp] theorem State.waitingResolved_evolves (i : Nat) (h : s.Evolves t) : s.Evolves (t.waitingResolved i) := by
  unfold State.waitingResolved; dsimp only; split <;> simp [h]

@[simp] theorem State.frameWakes_evolves (h : s.Evolves t) : s.Evolves t.frameWakes := by
  unfold State.frameWakes; split <;> simp [h]

@[simp] theorem State.frameStart_evolves (h : s.Evolves t) : s.Evolves t.frameStart := by
  unfold State.frameStart; (repeat' split) <;> simp [h]

@[simp] theorem State.readOnly_evolves (h : s.Evolves t) : s.Evolves t.readOnly := by
  unfold State.readOnly; split <;> simp [h]

@[simp] theorem State.transferOver_evolves (midFrame : Bool) (h : s.Evolves t) : s.Evolves (t.transferOver midFrame) := by
  unfold State.transferOver; split <;> simp [h]

end Rows

/-! ### What may be made of a state at all

`Evolves` says that the settings stay; the host changes them, takes what it is sent and brings new frames. -/

/-- `t` keeps the bounds that `s` keeps, and takes up to `n` more places of the result queue. -/
structure State.Admits (n : Nat) (s t : State) : Prop where
  tables : s.tablesOk → t.tablesOk
  consume : s.consumeOk → t.consumeOk
  holdCount : s.holdCountOk → t.holdCountOk
  faultCount : s.faultCountOk → t.faultCountOk
  counts : s.countsOk → t.countsOk
  hostQueues : s.hostQueuesOk → t.hostQueuesOk
  uplink : s.uplinkOk → t.uplinkOk
  claims : s.claimsOk → t.claimsOk
  idents : s.tablesOk → s.identsOk → t.identsOk
  asked : s.noneAsked → t.noneAsked
  places : t.resultPlaces ≤ s.resultPlaces + n

theorem State.Evolves.tables {s t : State} (h : s.Evolves t) (k : s.tablesOk) : t.tablesOk := by
  obtain ⟨k1, k2, k3, k4, k5, k6, k7, k8, k9, k10⟩ := k
  obtain ⟨hp, -, -, hc, hm, -, -⟩ := h.rta
  exact ⟨h.sge.1.trans k1, hc.trans k2, (congrArg List.length h.dlc.1).trans k3, (congrArg List.length h.numbers).trans k4,
    (h.mob .a).2.trans k5, (h.mob .b).2.trans k6, h.contexts.trans k7, h.txt.1.trans k8, (congrArg List.length hp).trans k9, hm.trans k10⟩

theorem State.Evolves.counts {s t : State} (h : s.Evolves t) (k : s.countsOk) : t.countsOk := by
  obtain ⟨k1, k2, k3, k4, k5, k6, k7, k8, k9, k10, k11⟩ := k
  obtain ⟨-, d2, d3, d4⟩ := h.dlc
  obtain ⟨v1, v2, v3, v4⟩ := h.vcp
  obtain ⟨-, -, -, -, -, l⟩ := h.hlc
  exact ⟨h.sge.2.1 k1, d2 k2, d3 k3, d4 k4, v1 k5, v2 k6, v3 k7, v4 k8, h.txt.2.1 k9, h.txt.2.2 k10, l k11⟩

/-- The part's own work keeps every bound. -/
theorem State.Evolves.admits {s t : State} (h : s.Evolves t) : s.Admits 0 t := by
  obtain ⟨-, -, hold, -, -, claims, asked⟩ := h.rta
  obtain ⟨-, -, qa, qb, idents⟩ := h.sge
  obtain ⟨-, inb, -, -, queue, -⟩ := h.hlc
  exact {
    tables := h.tables
    consume := fun k => by unfold State.consumeOk; rw [h.dlc.1]; exact k
    holdCount := fun k => by unfold State.holdCountOk; rw [hold]; exact k
    faultCount := h.rpt
    counts := h.counts
    hostQueues := fun k => ⟨queue k.1, by rw [inb]; exact k.2⟩
    uplink := fun k => ⟨qa k.1, qb k.2⟩
    claims := fun k => t.claimsOk_iff.2 (claims (s.claimsOk_iff.1 k))
    idents := fun kt k => t.identsOk_iff.2 (idents kt.1 (s.identsOk_iff.1 k))
    asked := asked
    places := h.places }

theorem State.Admits.trans {n m : Nat} {s t u : State} (h : s.Admits n t) (k : t.Admits m u) : s.Admits (n + m) u where
  tables := k.tables ∘ h.tables
  consume := k.consume ∘ h.consume
  holdCount := k.holdCount ∘ h.holdCount
  faultCount := k.faultCount ∘ h.faultCount
  counts := k.counts ∘ h.counts
  hostQueues := k.hostQueues ∘ h.hostQueues
  uplink := k.uplink ∘ h.uplink
  claims := k.claims ∘ h.claims
  idents := fun kt => k.idents (h.tables kt) ∘ h.idents kt
  asked := k.asked ∘ h.asked
  places := by have := h.places; have := k.places; omega

theorem State.Admits.evolves {n : Nat} {s t u : State} (h : s.Admits n t) (k : t.Evolves u) : s.Admits n u := h.trans k.admits

theorem State.Admits.refl (s : State) : s.Admits 0 s := (State.Evolves.refl s).admits

theorem State.Admits.mono {n m : Nat} {s t : State} (h : s.Admits n t) (k : n ≤ m) : s.Admits m t :=
  { h with places := h.places.trans (by omega) }

/-! ### The Host Link Controller's part -/

/-- A change of HLC's own within the bounds of what it holds. -/
theorem State.onHlc_admits (s : State) (f : Hlc → Hlc) (n : Nat) (hq : s.hlc.queue.length ≤ 32 → (f s.hlc).queue.length ≤ 32)
    (hi : s.hlc.inbound.length ≤ 4 → (f s.hlc).inbound.length ≤ 4) (hl : s.hlc.lostReports ≤ 255 → (f s.hlc).lostReports ≤ 255)
    (hr : (f s.hlc).results.length ≤ s.hlc.results.length + n) : s.Admits n (s.onHlc f) :=
  { State.Admits.refl s with
    counts := fun ⟨k1, k2, k3, k4, k5, k6, k7, k8, k9, k10, k11⟩ => ⟨k1, k2, k3, k4, k5, k6, k7, k8, k9, k10, hl k11⟩
    hostQueues := fun k => ⟨hq k.1, hi k.2⟩
    places := by
      have e : (s.onHlc f).resultPlaces = (f s.hlc).results.length + (if s.cal.pendingReq.isSome then 1 else 0) := rfl
      have e' : s.resultPlaces = s.hlc.results.length + (if s.cal.pendingReq.isSome then 1 else 0) := rfl
      omega }

theorem State.reply_admits (f : HostFrame) (request : Byte) (code : ResultCode) (data : List Byte) (s : State) :
    s.Admits 1 (s.reply f request code data) :=
  s.onHlc_admits (fun h => { h with results := h.results ++ [⟨f.tag, f.resultSub, request, code, data⟩] }) 1 id id id (by simp)

theorem State.popInbound_admits (s : State) : s.Admits 0 s.popInbound :=
  s.onHlc_admits _ 0 id (fun h => by simp only [List.length_tail]; omega) id (Nat.le_refl _)

theorem State.hostAwake_admits (s : State) : s.Admits 0 s.hostAwake := by
  unfold State.hostAwake
  split
  · exact .refl s
  · exact (s.onHlc_admits _ 0 id id id (Nat.le_refl _)).evolves (State.offerTexts_evolves (.refl _))

theorem State.hostDozing_admits (s : State) : s.Admits 0 s.hostDozing := s.onHlc_admits _ 0 id id id (Nat.le_refl _)

theorem State.badFrame_admits (reason : BadReason) (bytes : List Byte) (s : State) : s.Admits 0 (s.badFrame reason bytes) :=
  (State.report_evolves _ (.refl s)).admits.trans (State.hostAwake_admits _)

theorem State.takeFrame_admits (bytes : List Byte) (s : State) : s.Admits 0 (s.takeFrame bytes) := by
  unfold State.takeFrame
  split
  · exact State.badFrame_admits ..
  · split
    · next hlt =>
      refine s.onHlc_admits _ 0 id (fun _ => ?_) id (Nat.le_refl _)
      simp only [Config.inboundDepth] at hlt
      simp only [List.length_append, List.length_singleton]; omega
    · exact State.badFrame_admits ..

theorem State.frameReceived_admits (bytes : List Byte) (s : State) : s.Admits 0 (s.frameReceived bytes) := by
  have idle : s.Admits 0 (s.onHlc fun h => { h with rx := .idle }) := s.onHlc_admits _ 0 id id id (Nat.le_refl _)
  unfold State.frameReceived
  split
  · exact .refl s
  · exact .refl s
  · exact idle
  · dsimp only; split
    · exact idle
    · exact idle.trans (State.takeFrame_admits ..)

theorem State.entrySent_admits (s : State) : s.Admits 0 s.entrySent := by
  have tail : s.Admits 0 (s.onHlc fun h => { h with queue := h.queue.tail }) :=
    s.onHlc_admits _ 0 (fun h => by simp only [List.length_tail]; omega) id id (Nat.le_refl _)
  unfold State.entrySent
  refine tail.evolves (State.offerTexts_evolves ?_)
  split <;> simp

theorem State.outboundSent_admits (s : State) : s.Admits 0 s.outboundSent := by
  unfold State.outboundSent
  split
  · unfold State.frameSent
    dsimp only
    refine State.Admits.trans (n := 0) ?_ (State.onHlc_admits _ (fun h => { h with sending := none }) 0 id id id (Nat.le_refl _))
    split
    · exact .refl s
    · exact s.onHlc_admits _ 0 id id id (by simp)
    · refine s.onHlc_admits _ 0 ?_ ?_ ?_ ?_ <;> split <;> simp
    · exact s.entrySent_admits
  · exact .refl s

/-! ### The rows -/

/-- What a row that the host's request begins makes of a state: nothing beyond the part's own work, or a RESULT while there is a place. -/
def State.RowAdmits (s t : State) : Prop := s.Admits 0 t ∨ s.resultPlaces < 8 ∧ s.Admits 1 t

theorem State.RowAdmits.evolves {s t u : State} (h : s.RowAdmits t) (k : t.Evolves u) : s.RowAdmits u := by
  cases h with
  | inl h => exact .inl (h.evolves k)
  | inr h => exact .inr ⟨h.1, h.2.evolves k⟩

theorem State.RowAdmits.results {s t : State} (h : s.RowAdmits t) (k : s.resultsOk) : t.resultsOk := by
  unfold State.resultsOk at *
  cases h with
  | inl h => have := h.places; omega
  | inr h => have := h.1; have := h.2.places; omega

theorem State.RowAdmits.admits {s t : State} (h : s.RowAdmits t) : s.Admits 1 t := by
  cases h with
  | inl h => exact h.mono (by omega)
  | inr h => exact h.2

theorem State.request_admits {code : Nat} {act : HostFrame → List Byte → State → State}
    (h : ∀ (f : HostFrame) (body : List Byte) (t : State), t.Admits 1 (act f body t)) (s : State) : s.RowAdmits (s.request code act) := by
  have bad (f : HostFrame) (c : Byte) : s.Admits 1 (s.popInbound.hostAwake.reply f c .badParam []).evaluate :=
    ((s.popInbound_admits.trans (State.hostAwake_admits _)).trans (State.reply_admits ..)).evolves (State.evaluate_evolves (.refl _))
  unfold State.request
  split
  · exact .inl (.refl s)
  · split
    · exact .inl (.refl s)
    · next hg =>
      have room : s.resultPlaces < 8 := by
        refine Nat.lt_of_not_le fun hc => hg ?_
        rw [Bool.or_eq_true]; exact .inr (decide_eq_true hc)
      split
      · exact .inr ⟨room, bad ..⟩
      · split
        · exact .inr ⟨room, (s.popInbound_admits.trans (h ..)).evolves (State.evaluate_evolves (.refl _))⟩
        · split
          · exact .inl (.refl s)
          · exact .inr ⟨room, bad ..⟩

theorem State.serve_admits {code : Nat} {act : HostFrame → List Byte → State → Answer}
    (h : ∀ (f : HostFrame) (body : List Byte) (t : State), t.Admits 0 (act f body t).2.2) (s : State) : s.RowAdmits (s.serve code act) :=
  State.request_admits (fun f body t => (t.hostAwake_admits.trans (h f body _)).trans (State.reply_admits ..)) s

theorem withSub_admits {α : Type} {r : Reader α} {act : Sub → α → State → Answer} (h : ∀ (x : Sub) (v : α) (t : State), t.Admits 0 (act x v t).2.2)
    (f : HostFrame) (body : List Byte) (t : State) : t.Admits 0 (withSub r act f body t).2.2 := by
  unfold withSub; split
  · exact h ..
  · exact .refl t

theorem withoutSub_admits {α : Type} {r : Reader α} {act : α → State → Answer}
    (h : ∀ (v : α) (t : State) (l : List Byte), r l = some (v, []) → t.Admits 0 (act v t).2.2)
    (f : HostFrame) (body : List Byte) (t : State) : t.Admits 0 (withoutSub r act f body t).2.2 := by
  unfold withoutSub; split
  · next v _ hv =>
    unfold readAll at hv
    split at hv
    · next e => cases hv; exact h _ t _ e
    · cases hv
  · exact .refl t

/-! ### What the requests set -/

theorem State.doConfigure_admits (x : Sub) (v : ConfigValues) (s : State) : s.Admits 0 (s.doConfigure x v).2.2 := by
  unfold State.doConfigure accept refuse
  (repeat' split) <;> exact State.Evolves.admits (by simp)

theorem State.doNumbers_admits (l : List NumberEntry) (s : State) : s.Admits 0 (s.doNumbers l).2.2 := by
  unfold State.doNumbers accept refuse
  split
  · exact .refl s
  · exact { State.Admits.refl s with
      tables := fun ⟨k1, k2, k3, _, k5, k6, k7, k8, k9, k10⟩ => ⟨k1, k2, k3, padTable_length .., k5, k6, k7, k8, k9, k10⟩ }

theorem State.doAttach_admits (x : Sub) (s : State) : s.Admits 0 (s.doAttach x).2.2 := by
  unfold State.doAttach accept refuse
  split <;> exact State.Evolves.admits (by simp (maxDischargeDepth := 20))

/-- A neighbour table of the right size in place of one, the parameters being free. -/
theorem State.onMobOf_admits (x : Sub) (f : MobSub → MobSub) (s : State)
    (h : (s.mobOf x).neighbours.length = 16 → (f (s.mobOf x)).neighbours.length = 16) : s.Admits 0 (s.onMobOf x f) :=
  { State.Admits.refl s with
    tables := fun ⟨k1, k2, k3, k4, k5, k6, k7, k8, k9, k10⟩ => by
      cases x
      · exact ⟨k1, k2, k3, k4, h k5, k6, k7, k8, k9, k10⟩
      · exact ⟨k1, k2, k3, k4, k5, h k6, k7, k8, k9, k10⟩ }

theorem State.detachTexts_admits (x : Sub) (s : State) : s.Admits 0 (s.detachTexts x) := by
  unfold State.detachTexts
  dsimp only
  refine State.Admits.evolves (t := _) (State.Evolves.admits ?_ |>.trans (m := 0) (State.onHlc_admits _ _ 0 ?_ id id (Nat.le_refl _)))
    (State.offerTexts_evolves (.refl _))
  · exact State.Evolves.foldl (fun u i => by simp) _ (.refl s)
  · exact fun h => (List.length_filter_le ..).trans h

theorem State.sendNotice_evolves {s t : State} (x : Sub) (h : s.Evolves t) : s.Evolves (t.sendNotice x) := by simp [State.sendNotice, h]

theorem State.doDetach_admits (x : Sub) (s : State) : s.Admits 0 (s.doDetach x).2.2 := by
  unfold State.doDetach accept refuse
  split
  · exact .refl s
  · have record : s.Admits 0 (((s.detachRecord x).endAllCtxs x .detached).teardownSge x .detached) :=
      State.Evolves.admits (by simp (maxDischargeDepth := 20) [State.detachRecord])
    have texts := record.trans (State.detachTexts_admits x _)
    have claims := texts.evolves (u := (((((s.detachRecord x).endAllCtxs x .detached).teardownSge x .detached).detachTexts x).failText x
      .detached).withdrawAll x) (by simp)
    have mob := claims.trans (State.onMobOf_admits x MobSub.afterDetach _ fun _ => rfl)
    refine mob.evolves ?_
    dsimp only
    split <;> simp (maxDischargeDepth := 20) [PscSub.tornDown, State.sendNotice]

theorem neighbourTable_length (serving : Option Serving) (l : List NeighbourItem) : (neighbourTable serving l).length = 16 := by
  simp [neighbourTable, padTable_length, Config.neighbourEntries]

theorem State.doNeighbours_admits (x : Sub) (l : List NeighbourItem) (s : State) : s.Admits 0 (s.doNeighbours x l).2.2 := by
  unfold State.doNeighbours refuse
  (repeat' split)
  · exact .refl s
  · exact .refl s
  · exact (State.onMobOf_admits x (fun m => { m with neighbours := neighbourTable m.serving l, ranking := [], fired := false, rotation := 0 }) s
      fun _ => neighbourTable_length ..).evolves (by simp)

@[simp] theorem State.replaceSearch_evolves {s t : State} (x : Sub) (h : s.Evolves t) : s.Evolves (t.replaceSearch x) := by
  unfold State.replaceSearch; (repeat' split) <;> simp [h]

theorem State.doMobility_admits (x : Sub) (p : MobParams) (s : State) : s.Admits 0 (s.doMobility x p).2.2 := by
  unfold State.doMobility accept refuse
  split
  · exact .refl s
  · refine (State.onMobOf_admits x (fun m => { m with params := p }) s id).evolves ?_
    dsimp only; (repeat' split) <;> simp

/-- Routes set from index 16 on leave the fixed entries (R61, R62). -/
theorem take_setRoutes (l : List (Nat × RouteAction × RouteAction)) (t : List RouteEntry) (h : ∀ e ∈ l, 16 ≤ e.1) :
    (l.foldl (fun t e => t.set e.1 (.route e.2.1 e.2.2)) t).take 16 = t.take 16 ∧
      (l.foldl (fun t e => t.set e.1 (.route e.2.1 e.2.2)) t).length = t.length := by
  induction l generalizing t with
  | nil => exact ⟨rfl, rfl⟩
  | cons e l ih =>
    obtain ⟨ht, hl⟩ := ih (t.set e.1 (.route e.2.1 e.2.2)) fun f hf => h f (List.mem_cons_of_mem _ hf)
    have he := h e (List.mem_cons_self ..)
    refine ⟨ht.trans ?_, hl.trans (List.length_set ..)⟩
    rw [List.take_set_of_le he]

theorem State.doRoutes_admits (l : List (Nat × RouteAction × RouteAction)) (s : State) : s.Admits 0 (s.doRoutes l).2.2 := by
  unfold State.doRoutes accept refuse
  (repeat' split)
  · exact .refl s
  · exact .refl s
  · next hlow =>
    have high : ∀ e ∈ l, 16 ≤ e.1 := fun e he => by
      by_contra hc
      exact hlow (List.any_eq_true.2 ⟨e, he, decide_eq_true (by omega)⟩)
    obtain ⟨ht, hl⟩ := take_setRoutes l s.dlc.routes high
    exact { State.Admits.refl s with
      tables := fun ⟨k1, k2, k3, k4, k5, k6, k7, k8, k9, k10⟩ => ⟨k1, k2, hl.trans k3, k4, k5, k6, k7, k8, k9, k10⟩
      consume := ht.trans }

theorem readMany_length {α : Type} (r : Reader α) (n : Nat) (l : List Byte) (v : List α) (rest : List Byte)
    (h : readMany r n l = some (v, rest)) : v.length = n := by
  induction n generalizing l v rest with
  | zero => cases h; rfl
  | succ n ih =>
    simp only [readMany, readThen] at h
    split at h
    · cases h
    · split at h
      · cases h
      · next hv => cases h; simp [ih _ _ _ hv]

/-- SET_ARBITRATION carries a policy for every kind (R53). -/
theorem readArbitration_length (l : List Byte) (v : List Policy × Bool × Bool) (rest : List Byte)
    (h : readArbitration l = some (v, rest)) : v.1.length = 7 := by
  simp only [readArbitration, readThen, readPure] at h
  (repeat' split at h) <;> cases h
  exact readMany_length _ _ _ _ _ ‹_›

theorem State.doArbitration_admits (v : List Policy × Bool × Bool) (hv : v.1.length = 7) (s : State) : s.Admits 0 (s.doArbitration v).2.2 :=
  { State.Admits.refl s with
    tables := fun ⟨k1, k2, k3, k4, k5, k6, k7, k8, _, k10⟩ => ⟨k1, k2, k3, k4, k5, k6, k7, k8, hv, k10⟩ }

/-- The settings of PSC are in no bound. -/
theorem State.onPsc_admits (f : Psc → Psc) (s : State) : s.Admits 0 (s.onPsc f) := { State.Admits.refl s with }

theorem State.setRelax_admits (x : Sub) (thr factor margin : Nat) (s : State) : s.Admits 0 (s.setRelax x thr factor margin) := by
  unfold State.setRelax State.withRelax State.onPscOf
  dsimp only; split
  · exact (State.onPsc_admits _ s).evolves (State.replaceMeasure_evolves x (.refl _))
  · exact State.onPsc_admits ..

theorem State.doSleep_admits (v : SleepValues) (s : State) : s.Admits 0 (s.doSleep v).2.2 := by
  unfold State.doSleep accept refuse
  split
  · exact .refl s
  · exact ((State.onPsc_admits ..).trans (State.setRelax_admits ..)).trans (State.setRelax_admits ..)

theorem State.doRadioHold_admits (s : State) : s.Admits 0 s.doRadioHold.2.2 := by
  unfold State.doRadioHold refuse
  split
  · exact .refl s
  · next hc =>
    have hlt : s.rta.holdCount + 1 ≤ 15 := by simp only [Config.holdLimit] at hc; omega
    exact { State.Admits.refl s with holdCount := fun _ => hlt }

theorem State.doRadioRelease_admits (s : State) : s.Admits 0 s.doRadioRelease.2.2 := by
  unfold State.doRadioRelease refuse
  split
  · exact .refl s
  · exact { State.Admits.refl s with holdCount := fun k => (Nat.sub_le ..).trans k }

/-! ### What the calls, the texts and the messages of the host begin -/

theorem State.ctxOffer_some {s t u : State} {i : Nat} {k : TxnKind} {b : UpBody} {o : Option Ident} (e : u.ctxOffer i k b = (o, t))
    (h : s.Evolves u) : s.Evolves t := by
  have k' := State.ctxOffer_evolves i k b h
  rwa [e] at k'

theorem State.doDial_admits (x : Sub) (d : Digits) (s : State) : s.Admits 0 (s.doDial x d).2.2 := by
  have dial (i : Nat) : s.Evolves (s.dialOn x i d).2.2 := by
    unfold State.dialOn refuse; dsimp only
    split
    · next e => exact State.settle_evolves _ (State.moveCtx_evolves _ _ (State.ctxOffer_some e (by simp)))
    · exact .refl s
  unfold State.doDial refuse
  (repeat' split) <;> exact State.Evolves.admits (by simp [dial])

theorem State.doReject_admits (j : Nat) (s : State) : s.Admits 0 (s.doReject j).2.2 := by
  unfold State.doReject accept refuse
  (repeat' split) <;> exact State.Evolves.admits (by simp)

theorem State.doHangUp_admits (j : Nat) (s : State) : s.Admits 0 (s.doHangUp j).2.2 := by
  unfold State.doHangUp accept refuse
  (repeat' split) <;> exact State.Evolves.admits (by simp)

theorem State.doSendText_admits (x : Sub) (v : Digits × List (List Byte)) (s : State) : s.Admits 0 (s.doSendText x v).2.2 := by
  have start : s.Evolves (s.startText x v.1 v.2).2.2 := by
    unfold State.startText refuse; dsimp only
    split <;> (have k := congrArg Prod.snd ‹_ = (_, _)›; dsimp only at k; subst k; simp (maxDischargeDepth := 20))
  unfold State.doSendText refuse
  (repeat' split) <;> exact State.Evolves.admits (by simp [start])

/-- A pending request reserves one place (R166). -/
theorem State.recordPending_admits (p : PendingReq) (s : State) : s.Admits 1 (s.recordPending p) :=
  { State.Admits.refl s with
    places := by
      have e : (s.recordPending p).resultPlaces = s.hlc.results.length + 1 := rfl
      have e' : s.resultPlaces = s.hlc.results.length + (if s.cal.pendingReq.isSome then 1 else 0) := rfl
      omega }

theorem CallAnswer.now_admits {s t : State} (f : HostFrame) (code : Nat) (rc : ResultCode) (h : s.Evolves t) :
    s.Admits 1 ((CallAnswer.now rc t).finish f code) :=
  h.admits.trans (State.reply_admits ..)

theorem State.pendingSettle_admits {s t : State} (p : PendingReq) (x : Sub) (h : s.Evolves t) : s.Admits 1 ((t.recordPending p).settle x) :=
  (h.admits.trans (State.recordPending_admits p t)).evolves (State.settle_evolves x (.refl _))

theorem State.answerByHold_admits (f : HostFrame) (j k code : Nat) (s : State) : s.Admits 1 ((s.answerByHold f j k).finish f code) := by
  unfold State.answerByHold
  split
  · exact CallAnswer.now_admits f code _ (.refl s)
  · split
    · exact CallAnswer.now_admits f code _ (.refl s)
    · next e => exact State.pendingSettle_admits _ _ (by simp (maxDischargeDepth := 20) [State.ctxOffer_some e (.refl s)])

theorem State.answerNow_admits (f : HostFrame) (j code : Nat) (s : State) : s.Admits 1 ((s.answerNow j).finish f code) := by
  unfold State.answerNow
  split
  · exact CallAnswer.now_admits f code _ (.refl s)
  · next e => exact CallAnswer.now_admits f code _ (by simp (maxDischargeDepth := 20) [State.ctxOffer_some e (.refl s)])

theorem State.doAnswer_admits (f : HostFrame) (j code : Nat) (s : State) : s.Admits 1 ((s.doAnswer f j).finish f code) := by
  have now (rc : ResultCode) : s.Admits 1 ((CallAnswer.now rc s).finish f code) := CallAnswer.now_admits f code rc (.refl s)
  unfold State.doAnswer
  (repeat' split)
  all_goals first | exact now _ | exact State.answerByHold_admits .. | exact State.answerNow_admits ..

theorem State.doHold_admits (f : HostFrame) (code : Nat) (s : State) : s.Admits 1 ((s.doHold f).finish f code) := by
  have now (rc : ResultCode) : s.Admits 1 ((CallAnswer.now rc s).finish f code) := CallAnswer.now_admits f code rc (.refl s)
  unfold State.doHold
  (repeat' split)
  · exact now _
  · exact now _
  · exact now _
  · next e => exact State.pendingSettle_admits _ _ (by simp (maxDischargeDepth := 20) [State.ctxOffer_some e (.refl s)])

theorem State.doResume_admits (f : HostFrame) (code : Nat) (s : State) : s.Admits 1 ((s.doResume f).finish f code) := by
  have now (rc : ResultCode) : s.Admits 1 ((CallAnswer.now rc s).finish f code) := CallAnswer.now_admits f code rc (.refl s)
  unfold State.doResume
  (repeat' split)
  · exact now _
  · exact now _
  · exact now _
  · next e => exact State.pendingSettle_admits _ _ (by simp (maxDischargeDepth := 20) [State.ctxOffer_some e (.refl s)])

theorem State.serveCall_admits {α : Type} {code : Nat} {r : Reader α} {act : HostFrame → α → State → CallAnswer}
    (h : ∀ (f : HostFrame) (v : α) (t : State), t.Admits 1 ((act f v t).finish f code)) (s : State) : s.RowAdmits (s.serveCall code r act) := by
  refine State.request_admits (fun f body t => ?_) s
  dsimp only; split
  · exact t.hostAwake_admits.trans (h ..)
  · exact t.hostAwake_admits.trans (State.reply_admits ..)

theorem State.doDoze_admits (f : HostFrame) (body : List Byte) (s : State) : s.Admits 1 (s.doDoze f body) := by
  unfold State.doDoze
  (repeat' split)
  · exact s.hostAwake_admits.trans (State.reply_admits ..)
  · exact s.hostAwake_admits.trans (State.reply_admits ..)
  · exact s.hostDozing_admits.trans (State.reply_admits ..)

theorem State.answerQuery_admits (name : RecordName) (x : Sub) (s : State) : s.Admits 0 (s.answerQuery name x).2.2 := by
  unfold State.answerQuery
  dsimp only; split
  · exact s.onHlc_admits _ 0 id id (fun _ => Nat.zero_le _) (Nat.le_refl _)
  · exact .refl s

theorem State.doQuery_admits (f : HostFrame) (body : List Byte) (s : State) : s.Admits 0 (s.doQuery f body).2.2 := by
  unfold State.doQuery refuse
  (repeat' split)
  all_goals first | exact .refl s | exact State.answerQuery_admits ..

theorem State.sendPass_evolves (x : Sub) (code : Nat) (expect : Bool) (payload : List Byte) (s : State) :
    s.Evolves (s.sendPass x code expect payload).2.2 := by
  unfold State.sendPass refuse
  dsimp only
  split <;> (have k := congrArg Prod.snd ‹_ = (_, _)›; dsimp only at k; subst k; simp)

theorem State.doUpSignal_evolves (f : HostFrame) (s : State) : s.Evolves (s.doUpSignal f).2.2 := by
  unfold State.doUpSignal refuse
  (repeat' split) <;> simp [State.sendPass_evolves]

theorem State.actUpSignal_admits (s : State) : s.RowAdmits s.actUpSignal := by
  unfold State.actUpSignal
  split
  · exact .inl (.refl s)
  · next f _ _ =>
    split
    · exact .inl (.refl s)
    · next hg =>
      have room : s.resultPlaces < 8 := by
        refine Nat.lt_of_not_le fun hc => hg ?_
        rw [Bool.or_eq_true]; exact .inr (decide_eq_true hc)
      have done := (s.popInbound_admits.trans (State.hostAwake_admits _)).evolves (State.doUpSignal_evolves f _)
      exact .inr ⟨room, (done.trans (State.reply_admits ..)).evolves (State.evaluate_evolves (.refl _))⟩

theorem Vcp.upSpeech_evolves (x : Option Sub) (bytes : List Byte) (v : Vcp) : v.evolves (v.upSpeech x bytes) := by
  unfold Vcp.upSpeech; (repeat' split) <;> simp

theorem State.actUpSpeech_admits (s : State) : s.Admits 0 s.actUpSpeech := by
  unfold State.actUpSpeech
  (repeat' split)
  · exact .refl s
  · exact .refl s
  · refine (s.popInbound_admits.trans (State.hostAwake_admits _)).evolves ?_
    exact State.evaluate_evolves (State.onVcp_evolves (.refl _) (Vcp.upSpeech_evolves ..))

/-- The reset values meet every bound. -/
theorem State.takeReset_admits (cause : ResetCause) (s : State) : s.Admits 0 (s.takeReset cause) := by
  obtain ⟨tables, hold, fault, counts, -, uplink, -, -, -, consume, claims, asked, idents, -⟩ := resetMeetsTheInvariants
  exact {
    tables := fun _ => tables
    consume := fun _ => consume
    holdCount := fun _ => hold
    faultCount := fun _ => fault
    counts := fun _ => counts
    hostQueues := fun _ => ⟨by simp [State.takeReset, Hlc.cutBy, Reset.hlc], Nat.zero_le _⟩
    uplink := fun _ => uplink
    claims := fun _ => claims
    idents := fun _ _ => idents
    asked := fun _ => asked
    places := Nat.zero_le _ }

/-! ### Every row -/

theorem State.Evolves.row {s t : State} (h : s.Evolves t) : s.RowAdmits t := .inl h.admits

theorem State.answer_admits {s u t : State} (h : s.RowAdmits u) (e : s.answer u = .next t) : s.RowAdmits t := by
  cases e
  exact h.evolves (State.finish_evolves s (.refl u))

theorem State.answer_evolves {s u t : State} (h : s.Evolves u) (e : s.answer u = .next t) : s.RowAdmits t :=
  State.answer_admits h.row e

/-- Every row keeps the bounds; a row of the host takes a place of the result queue only while there is one. -/
theorem exec_admits (c : Instr) (s t : State) (e : exec c s = .next t) : s.RowAdmits t := by
  cases c
  case resetInputAssert => exact State.answer_evolves (s := s) (u := { s with resetHeld := true }) { State.Evolves.refl s with } e
  case resetInputRelease =>
    change (if s.resetHeld then _ else _) = _ at e
    split at e
    · cases e; exact .inl (s.takeReset_admits .pin)
    · exact State.answer_evolves (.refl s) e
  case reset =>
    change (if s.resetTaken then _ else _) = _ at e
    split at e
    · cases e; exact .inl (s.takeReset_admits .request)
    · exact State.answer_admits (State.serve_admits (fun f b u => .refl u) s) e
  case frameBoundary => exact State.answer_evolves (State.boundary_evolves (.refl s)) e
  case lightReturn => exact State.answer_evolves (State.lightReturn_evolves (.refl s)) e
  case wakeTimerExpiry => exact State.answer_evolves (State.wakeExpiry_evolves (.refl s)) e
  case settleCountEnd => exact State.answer_evolves (State.settleEnd_evolves (.refl s)) e
  case orderDeadline => exact State.answer_evolves (State.deadlinePasses_evolves (.refl s)) e
  case textOfferRetry => exact State.answer_evolves (State.offerTexts_evolves (.refl s)) e
  case hostFrameStart => exact State.answer_evolves (State.frameStart_evolves (.refl s)) e
  case readOnlyTransfer => exact State.answer_evolves (State.readOnly_evolves (.refl s)) e
  case outboundFrameSent => exact State.answer_admits (.inl s.outboundSent_admits) e
  case upSignal => exact State.answer_admits s.actUpSignal_admits e
  case upSpeech => exact State.answer_admits (.inl s.actUpSpeech_admits) e
  case returnCounterExpiry x => exact State.answer_evolves (State.inRankOrder_evolves (fun u => by simp) (.refl s)) e
  case detachNoticeExpiry x => exact State.answer_evolves (State.inRankOrder_evolves (fun u => by simp) (.refl s)) e
  case ringTimeout x => exact State.answer_evolves (State.inRankOrder_evolves (fun u => by simp) (.refl s)) e
  case reassemblyDeadline x => exact State.answer_evolves (State.deadlineExpiry_evolves x (.refl s)) e
  case heldMessageEnqueue x => exact State.answer_evolves (State.enqueueHeld_evolves x (.refl s)) e
  case pendingUpdateRetry x => exact State.answer_evolves (State.waiterRetry_evolves .update x (.refl s)) e
  case segmentDueRetry x => exact State.answer_evolves (State.waiterRetry_evolves .segment x (.refl s)) e
  case pagingPlacementRetry x => exact State.answer_evolves (State.pagingRetry_evolves x (.refl s)) e
  case measurePlacementRetry x => exact State.answer_evolves (State.measureRetry_evolves x (.refl s)) e
  case searchPlacementRetry x => exact State.answer_evolves (State.searchRetry_evolves x (.refl s)) e
  case trafficPlacementRetry x => exact State.answer_evolves (State.trafficRetry_evolves x (.refl s)) e
  case connectWaitingResolved x => exact State.answer_evolves (State.waitingResolved_evolves x (.refl s)) e
  case hostFrameReceived l => exact State.answer_admits (.inl (s.frameReceived_admits l)) e
  case transferEnd b => exact State.answer_evolves (State.transferOver_evolves b (.refl s)) e
  case answerTimerExpiry x n => exact State.answer_evolves (State.inRankOrder_evolves (fun u => by simp) (.refl s)) e
  case waitTimerExpiry x n => exact State.answer_evolves (State.inRankOrder_evolves (fun u => by simp) (.refl s)) e
  case linkIdle x n => exact State.answer_evolves (State.inRankOrder_evolves (fun u => by simp) (.refl s)) e
  case orderAck x l => exact State.answer_evolves (State.orderAck_evolves x l (.refl s)) e
  case measurementResult l => exact State.answer_evolves (State.holdResult_evolves l (.refl s)) e
  case pageBlock frame good b => exact State.answer_evolves (State.classify_evolves (fun g u => by split <;> simp) _ _ _ (.refl s)) e
  case beaconBlock frame good b => exact State.answer_evolves (State.classify_evolves (fun g u => by split <;> simp) _ _ _ (.refl s)) e
  case signalBlock frame good b => exact State.answer_evolves (State.classify_evolves (fun g u => by simp) _ _ _ (.refl s)) e
  case voiceBlock frame good b => exact State.answer_evolves (State.classify_evolves (fun g u => by simp) _ _ _ (.refl s)) e
  case configureSubscription => exact State.answer_admits (State.serve_admits (withSub_admits State.doConfigure_admits) s) e
  case loadNeighbours => exact State.answer_admits (State.serve_admits (withSub_admits State.doNeighbours_admits) s) e
  case loadNumbers => exact State.answer_admits (State.serve_admits (withoutSub_admits fun v u _ _ => u.doNumbers_admits v) s) e
  case loadRoutes => exact State.answer_admits (State.serve_admits (withoutSub_admits fun v u _ _ => u.doRoutes_admits v) s) e
  case setMobility => exact State.answer_admits (State.serve_admits (withSub_admits State.doMobility_admits) s) e
  case setArbitration =>
    exact State.answer_admits (State.serve_admits (withoutSub_admits fun v u l h => u.doArbitration_admits v (readArbitration_length l v [] h)) s) e
  case setSleep => exact State.answer_admits (State.serve_admits (withoutSub_admits fun v u _ _ => u.doSleep_admits v) s) e
  case attach => exact State.answer_admits (State.serve_admits (withSub_admits fun x _ u => u.doAttach_admits x) s) e
  case detach => exact State.answer_admits (State.serve_admits (withSub_admits fun x _ u => u.doDetach_admits x) s) e
  case dial => exact State.answer_admits (State.serve_admits (withSub_admits State.doDial_admits) s) e
  case reject => exact State.answer_admits (State.serve_admits (withoutSub_admits fun v u _ _ => u.doReject_admits v) s) e
  case hangUp => exact State.answer_admits (State.serve_admits (withoutSub_admits fun v u _ _ => u.doHangUp_admits v) s) e
  case sendText => exact State.answer_admits (State.serve_admits (withSub_admits State.doSendText_admits) s) e
  case radioHold => exact State.answer_admits (State.serve_admits (withoutSub_admits fun _ u _ _ => u.doRadioHold_admits) s) e
  case radioRelease => exact State.answer_admits (State.serve_admits (withoutSub_admits fun _ u _ _ => u.doRadioRelease_admits) s) e
  case answer => exact State.answer_admits (State.serveCall_admits (fun f j u => u.doAnswer_admits f j 11) s) e
  case hold => exact State.answer_admits (State.serveCall_admits (fun f _ u => u.doHold_admits f 14) s) e
  case resume => exact State.answer_admits (State.serveCall_admits (fun f _ u => u.doResume_admits f 15) s) e
  case query => exact State.answer_admits (State.serve_admits State.doQuery_admits s) e
  case hostDoze => exact State.answer_admits (State.request_admits State.doDoze_admits s) e

theorem step_admits (s t : State) (e : step s = .next t) : s.RowAdmits t := by
  unfold step at e
  split at e
  · cases e; exact (State.sleepTick_evolves (.refl s)).row
  · next c rest _ =>
    have taken : s.Evolves { s with pending := rest } := { State.Evolves.refl s with }
    cases exec_admits c _ t e with
    | inl h => exact .inl (taken.admits.trans h)
    | inr h => exact .inr ⟨h.1, taken.admits.trans h.2⟩

/-- Settles O56: every row keeps each bound (`exec_admits`). -/
theorem stepKeepsCapacities : Obligations.StepKeepsCapacities := by
  refine ⟨fun s t ⟨hold, fault, counts, hostQueues, uplink, results⟩ e => ?_, fun s t ⟨tables, consume⟩ e => ?_⟩
  · have row := step_admits s t e
    have h := row.admits
    exact ⟨h.holdCount hold, h.faultCount fault, h.counts counts, h.hostQueues hostQueues, h.uplink uplink, row.results results⟩
  · have h := (step_admits s t e).admits
    exact ⟨h.tables tables, h.consume consume⟩

/-- Settles O57: claims and idents stay apart in every row, and no placement is left asked for (`exec_admits`). -/
theorem stepKeepsClaimsAndIdentsDistinct : Obligations.StepKeepsClaimsAndIdentsDistinct := by
  refine ⟨fun s t ⟨tables, claims, idents⟩ e => ?_, fun s t asked e => (step_admits s t e).admits.asked asked⟩
  have h := (step_admits s t e).admits
  exact ⟨h.claims claims, h.idents tables idents⟩

end Sys2Proof.Machine
end

section
/-! Sitting 1: the receiver frame boundary, from the timers it counts to the decision. -/

namespace Sys2Proof.Machine

/-! ### The clock and the outside of a boundary -/

theorem State.boundary_clock (s : State) : s.boundary.clock = ⟨s.clock.now + 1, 0⟩ := by
  have k : (s.nextFrame.countTimers.openWindows.inRankOrder State.arbitrate).clock = ⟨s.clock.now + 1, 0⟩ := by
    simp [(State.inRankOrder_keeps State.arbitrate _).2.2.2.1, State.nextFrame]
  unfold State.boundary
  dsimp only
  split <;> simp [k]

/-- A boundary keeps what the host has set, and the commands waiting. -/
theorem boundary_keepsSettings (s : State) : ∃ t, exec .frameBoundary s = .next t ∧ s.Evolves t ∧ s.sameOutside t ∧
    t.clock = ⟨s.clock.now + 1, 0⟩ := by
  refine ⟨s.finish s.boundary, rfl, State.finish_evolves s (State.boundary_evolves (.refl s)), ?_, ?_⟩
  · have h := s.boundary_outside
    simpa [State.sameOutside] using h
  · simp [State.boundary_clock]

/-! ### The timers counted -/

/-- The state of a boundary once every timer has been counted and the windows that begin are open (R36). -/
def State.counted (s : State) : State := s.nextFrame.countTimers.openWindows

theorem State.counted_txns (s : State) (i : Nat) : entryAt s.counted.sge.txns i =
    (entryAt s.sge.txns i).map fun p => { p with answer := p.answer.map (· - 1), idle := p.idle.map (· - 1) } := by
  have e : s.counted.sge = s.sge.count := by simp [State.counted, State.countTimers, State.nextFrame]
  rw [e]; exact entryAt_map ..

theorem State.counted_queues (s : State) (x : Sub) : s.counted.sge.queues.get x =
    (s.sge.queues.get x).map fun m => { m with wait := min 1024 (m.wait + 1) } := by
  cases x <;> simp [State.counted, State.countTimers, State.nextFrame, Sge.count, PerSub.get, Config.waitLimit]

theorem State.counted_sge (s : State) : s.counted.sge = { s.sge with txns := s.counted.sge.txns, queues := s.counted.sge.queues } := by
  simp [State.counted, State.countTimers, State.nextFrame, Sge.count]

theorem State.counted_ctx (s : State) (i : Nat) : s.counted.ctx i = if (s.ctx i).state = .offered ∧ (s.ctx i).answerPending = false then
    { s.ctx i with ring := (s.ctx i).ring.map (· - 1) } else s.ctx i := by
  have e : s.counted.cal = s.cal.count := by simp [State.counted, State.countTimers, State.nextFrame]
  unfold State.ctx
  rw [e]
  cases h : s.cal.contexts[i]? with
  | none => simp [Cal.count, h, Reset.context]
  | some c => simp [Cal.count, h]; rfl

theorem State.counted_trafficRetry (s : State) (x : Sub) :
    s.counted.cal.trafficRetry.get x = if s.cal.trafficRetry.get x = .none then .none else .due := by
  have count (r : Retry) : r.atBoundary = if r = .none then .none else .due := by cases r <;> rfl
  cases x <;> (simp [State.counted, State.countTimers, State.nextFrame, Cal.count, PerSub.get, count]; rfl)

theorem State.counted_cal (s : State) :
    s.counted.cal = { s.cal with contexts := s.counted.cal.contexts, trafficRetry := s.counted.cal.trafficRetry } := by
  simp [State.counted, State.countTimers, State.nextFrame, Cal.count]

theorem State.counted_texts (s : State) (i : Nat) : entryAt s.counted.txt.entries i = (entryAt s.txt.entries i).map fun e =>
    if e.state = .collecting ∨ e.state = .blocked then { e with deadline := e.deadline - 1 } else e := by
  have e : s.counted.txt = s.txt.count := by simp [State.counted, State.countTimers, State.nextFrame]
  rw [e]
  refine (entryAt_map _ _ i).trans (congrArg (fun f => (entryAt s.txt.entries i).map f) (funext fun e => ?_))
  simp [countDown]

theorem State.counted_txt (s : State) : s.counted.txt = { s.txt with entries := s.counted.txt.entries } := by
  simp [State.counted, State.countTimers, State.nextFrame, Txt.count]

theorem State.counted_mobOf (s : State) (x : Sub) : s.counted.mobOf x = { s.mobOf x with
    returnCounter := if (s.mobOf x).hoState = .returnCheck ∧ (s.mobOf x).returnNew = false then (s.mobOf x).returnCounter - 1
      else (s.mobOf x).returnCounter
    returnNew := false, measRetry := (s.mobOf x).measRetry.map (· - 1), searchRetry := (s.mobOf x).searchRetry.map (· - 1) } := by
  have count (m : MobSub) : m.count = { m with
      returnCounter := if m.hoState = .returnCheck ∧ m.returnNew = false then m.returnCounter - 1 else m.returnCounter
      returnNew := false, measRetry := m.measRetry.map (· - 1), searchRetry := m.searchRetry.map (· - 1) } := by
    simp [MobSub.count, countDown]; exact ⟨rfl, rfl⟩
  have e : s.counted.mobOf x = (s.mobOf x).count := by
    cases x <;> simp [State.counted, State.countTimers, State.nextFrame, State.mobOf, PerSub.get]
  rw [e, count]

/-! ### A boundary with nothing to decide -/

/-- With no order, unit or claim the decision changes neither the tables nor MOB's, CAL's and SBS's fields, and asks for nothing. -/
theorem State.arbitrate_quiet {s : State} (ho : s.rpt.order = none) (hu : s.rta.unit = none) (hc : taken s.rta.claims = [])
    (ha : s.rta.asked = some []) : s.arbitrate.rta.asked = some [] ∧ s.arbitrate.sge = s.sge ∧ s.arbitrate.cal = s.cal ∧
    s.arbitrate.txt = s.txt ∧ s.arbitrate.mob = s.mob ∧ s.arbitrate.sbs = s.sbs := by
  have decides (u : State) (hu : u.rta.unit = none) (hc : taken u.rta.claims = []) (ha : u.rta.asked = some []) :
      u.decide.rta.asked = some [] ∧ u.decide.sge = u.sge ∧ u.decide.cal = u.cal ∧ u.decide.txt = u.txt ∧ u.decide.mob = u.mob ∧
        u.decide.sbs = u.sbs := by
    have goesOn : (u.onRpt fun r => { r with recoveryNext := false }).unitOver = false := by simp [State.unitOver, hu]
    have idle : (u.onRpt fun r => { r with recoveryNext := false }).takeStanding = u.onRpt fun r => { r with recoveryNext := false } :=
      State.takeTurns_idle (by simpa using ha) _
    have none_eligible : (u.onRpt fun r => { r with recoveryNext := false }).eligibles = [] := by simp [State.eligibles, hc]
    simp [State.decide, goesOn, idle, State.grant, none_eligible, Rta.best, hu, State.expireWindows, State.recordHolder]
    split <;> simp [ha, hc]
  have fault : s.faultOrder [] = s := by simp [State.faultOrder, ho]
  unfold State.arbitrate
  rw [fault]
  dsimp only
  split
  · have k := decides s.playoutBoundary (by simpa using hu) (by simpa using hc) (by simpa using ha)
    simpa using k
  · exact decides s hu hc ha

theorem State.counted_keeps (s : State) : s.counted.clock = ⟨s.clock.now + 1, 0⟩ ∧
    s.counted.psc.wakeTimer = s.psc.wakeTimer.map (· - (256 - s.clock.tick)) ∧
    s.counted.psc.settle = s.psc.settle.map (· - (256 - s.clock.tick)) ∧ s.counted.psc.power = s.psc.power ∧ s.counted.rpt = s.rpt ∧
    s.counted.rta.unit = s.rta.unit ∧ s.counted.dlc = s.dlc ∧ s.counted.sbs = s.sbs ∧ s.counted.vcp = s.vcp ∧ s.counted.hlc = s.hlc ∧
    (taken s.rta.claims = [] → taken s.counted.rta.claims = []) := by
  have claims : taken s.rta.claims = [] → taken s.counted.rta.claims = [] := by
    intro h
    refine List.eq_nil_iff_forall_not_mem.2 fun e he => ?_
    have hc : entryAt s.counted.rta.claims e.1 = (entryAt s.rta.claims e.1).map (Claim.reached (s.clock.now + 1)) := by
      simp only [State.counted, State.openWindows, State.onRta_rta, entryAt_map]
      simp [State.countTimers, State.nextFrame]
    rw [mem_taken, hc] at he
    obtain ⟨c, hc, _⟩ := Option.map_eq_some_iff.1 he
    have hm := (mem_taken s.rta.claims e.1 c).2 hc
    rw [h] at hm
    exact List.not_mem_nil hm
  refine ⟨?_, ?_, ?_, ?_, ?_, ?_, ?_, ?_, ?_, ?_, claims⟩ <;>
    simp [State.counted, State.countTimers, State.openWindows, State.nextFrame, State.elapse, Config.frameTicks]

/-- The rest of a boundary after the timers: with nothing to decide, what was counted stands. -/
theorem State.finishBoundary_quiet {s : State} (ho : s.rpt.order = none) (hu : s.rta.unit = none) (hc : taken s.rta.claims = []) :
    (s.finish s.boundary).sge = s.counted.sge ∧ (s.finish s.boundary).cal = s.counted.cal ∧ (s.finish s.boundary).txt = s.counted.txt ∧
      (s.finish s.boundary).mob = s.counted.mob ∧ (s.finish s.boundary).sbs = s.sbs := by
  obtain ⟨-, -, -, -, rpt, unit, -, sbs, -, -, claims⟩ := s.counted_keeps
  obtain ⟨asked, hsge, hcal, htxt, hmob, hsbs⟩ := State.arbitrate_quiet (s := s.counted.setAsked (some [])) (by simpa [State.setAsked, rpt] using ho)
    (by simpa [State.setAsked, unit] using hu) (by simpa [State.setAsked] using claims hc) rfl
  have e := State.inRankOrder_idle State.arbitrate s.counted asked
  have b : s.boundary = if (s.counted.inRankOrder State.arbitrate).rta.unit.isNone then (s.counted.inRankOrder State.arbitrate).evaluate
    else s.counted.inRankOrder State.arbitrate := rfl
  rw [b, e]
  generalize (s.counted.setAsked (some [])).arbitrate = u at hsge hcal htxt hmob hsbs ⊢
  split <;> simp [State.setAsked, hsge, hcal, htxt, hmob, hsbs, sbs]

/-! ### The deadline of an order -/

/-- A check that the fault at a deadline begins is marked as new (R117). -/
theorem State.deadlinePasses_returnNew (s : State) (x : Sub) (h : (s.mobOf x).hoState ≠ .returnCheck)
    (k : (s.deadlinePasses.mobOf x).hoState = .returnCheck) : (s.deadlinePasses.mobOf x).returnNew = true := by
  have enters (b m : MobSub) (hb : b.hoState ≠ .returnCheck) (hm : (b.entersCheck m).hoState = .returnCheck) :
      (b.entersCheck m).returnNew = true := by
    unfold MobSub.entersCheck at hm ⊢
    split
    · rfl
    · next hc => rw [if_neg hc] at hm; simp [hb, hm] at hc
  cases x <;> exact enters _ _ h k

/-- Settles O3: the settings by `Evolves`, the timers by the lemmas about `counted`, the quiet boundary by `arbitrate_quiet`. -/
theorem frameBoundaryAdvancesFrame : Obligations.FrameBoundaryAdvancesFrame := by
  refine ⟨fun s => ?_, fun s => ?_, fun s x h => ?_⟩
  · obtain ⟨t, e, h, ⟨pending, held⟩, clock⟩ := boundary_keepsSettings s
    obtain ⟨policies, tuneAway, holdCount, -⟩ := h.rta
    obtain ⟨host, inbound, -⟩ := h.hlc
    refine ⟨t, e, by rw [clock], by rw [clock], pending, held, policies, tuneAway, holdCount, h.dlc.1, h.numbers, h.settleS, host, inbound, ?_⟩
    exact fun x => ⟨(h.psc x).1, (h.psc x).2.1, (h.psc x).2.2, (h.mob x).1⟩
  · obtain ⟨clock, wake, settle, power, rpt, unit, dlc, sbs, vcp, hlc, -⟩ := s.counted_keeps
    refine ⟨_, s.counted, _, rfl, clock, rfl, ?_, s.counted_txns, s.counted_queues, s.counted_sge, s.counted_ctx, s.counted_trafficRetry,
      s.counted_cal, s.counted_texts, s.counted_txt, s.counted_mobOf, wake, settle, power, rpt, unit, dlc, sbs, vcp, hlc,
      State.finishBoundary_quiet⟩
    simp only [State.boundary, Option.isNone_iff_eq_none]; rfl
  · refine ⟨s.finish s.deadlinePasses, rfl, fun k => ?_⟩
    have mob : (s.finish s.deadlinePasses).mobOf x = s.deadlinePasses.mobOf x := by simp [State.mobOf]
    rw [mob] at k ⊢
    exact s.deadlinePasses_returnNew x h k

end Sys2Proof.Machine
end

section
/-! Sitting 1: the claim table as its owners see it, the uplink queue, and the SIGNALLING claim that follows them. -/

namespace Sys2Proof.Machine

/-! ### One claim per kind and subscription (R35) -/

section Claims
variable {s t : State} {x y : Sub} {k l : ClaimKind}

theorem State.claimOf_iff (h : s.claimsOk) (i : Nat) (c : Claim) :
    s.claimOf x k = some (i, c) ↔ entryAt s.rta.claims i = some c ∧ c.sub = x ∧ c.kind = k := by
  constructor
  · exact fun e => State.claimOf_some e
  · rintro ⟨hc, hx, hk⟩
    cases hf : s.claimOf x k with
    | none => exact absurd ⟨hx, hk⟩ (State.claimOf_none hf i c hc)
    | some e =>
      obtain ⟨j, d⟩ := e
      obtain ⟨hd, dx, dk⟩ := State.claimOf_some hf
      obtain rfl : j = i := (s.claimsOk_iff.1 h).1 j i d c hd hc (Prod.ext (dx.trans hx.symm) (dk.trans hk.symm))
      have e : d = c := Option.some.inj (hd.symm.trans hc)
      rw [e]

/-- Two tables that hold the same claims of a kind and subscription, at the same places, give the same answer for it. -/
theorem State.claimOf_congr (hs : s.claimsOk) (ht : t.claimsOk)
    (h : ∀ i c, c.sub = x → c.kind = k → (entryAt t.rta.claims i = some c ↔ entryAt s.rta.claims i = some c)) :
    t.claimOf x k = s.claimOf x k := by
  refine Option.ext fun e => ?_
  obtain ⟨i, c⟩ := e
  rw [State.claimOf_iff ht, State.claimOf_iff hs]
  constructor
  · rintro ⟨hc, hx, hk⟩; exact ⟨(h i c hx hk).1 hc, hx, hk⟩
  · rintro ⟨hc, hx, hk⟩; exact ⟨(h i c hx hk).2 hc, hx, hk⟩

theorem State.claimInPlace_iff (h : s.claimsOk) :
    s.claimInPlace x k = true ↔ ∃ i c, entryAt s.rta.claims i = some c ∧ c.sub = x ∧ c.kind = k ∧ c.withdrawing = false := by
  unfold State.claimInPlace
  constructor
  · intro e
    split at e
    · cases e
    · next i hi =>
      obtain ⟨hc, hx, hk⟩ := State.claimOf_some hi
      exact ⟨_, _, hc, hx, hk, by simpa using e⟩
  · rintro ⟨i, c, hc, hx, hk, hw⟩
    rw [(State.claimOf_iff h i c).2 ⟨hc, hx, hk⟩]
    simp [hw]

theorem State.withdraw_claimsOk (h : s.claimsOk) : (s.withdraw x k).claimsOk :=
  (State.withdraw_evolves x k (.refl s)).admits.claims h

theorem State.place_claimsOk (w : Window) (h : s.claimsOk) : (s.place x k w).2.claimsOk :=
  (State.place_evolves x k w (.refl s)).admits.claims h

/-- A withdrawal marks the claim while it is RUNNING and frees it otherwise (R37). -/
theorem State.withdraw_entry (s : State) (x : Sub) (k : ClaimKind) (j : Nat) : entryAt (s.withdraw x k).rta.claims j =
    match s.claimOf x k with
    | none => entryAt s.rta.claims j
    | some e => if e.1 = j then if e.2.state = .running then some { e.2 with withdrawing := true, placement := none } else none
      else entryAt s.rta.claims j := by
  have same : (s.unask x k).claimOf x k = s.claimOf x k := rfl
  unfold State.withdraw
  dsimp only
  rw [same]
  cases he : s.claimOf x k with
  | none => rfl
  | some e =>
    obtain ⟨hc, -, -⟩ := State.claimOf_some he
    have gone : entryAt ((s.unask x k).freeClaim e.1).rta.claims j = if e.1 = j then none else entryAt s.rta.claims j := by
      have hl := lt_of_entryAt hc
      simp only [State.freeClaim, State.onRta_rta]
      rw [entryAt_set]
      exact if_congr ⟨And.left, fun h => ⟨h, hl⟩⟩ rfl rfl
    dsimp only
    split
    · next hr =>
      have marked : entryAt ((s.unask x k).onClaim e.1 fun c => { c with withdrawing := true, placement := none }).markUnitWithdrawn.rta.claims j =
          if e.1 = j then (entryAt s.rta.claims j).map fun c => { c with withdrawing := true, placement := none } else entryAt s.rta.claims j := by
        have keep (u : State) : u.markUnitWithdrawn.rta.claims = u.rta.claims := by unfold State.markUnitWithdrawn; split <;> rfl
        rw [keep]
        exact entryAt_modify_map ..
      rw [marked]
      split
      · next hj => rw [← hj, hc]; rfl
      · rfl
    · next hr => simp [gone, hr]
    · next hr => simp [gone, hr]

/-- The claims of a subscription and kind are the same ones, at the same places. -/
def State.sameClaims (y : Sub) (l : ClaimKind) (s t : State) : Prop :=
  ∀ i c, c.sub = y → c.kind = l → (entryAt t.rta.claims i = some c ↔ entryAt s.rta.claims i = some c)

theorem State.withdraw_sameClaims (s : State) (hne : y ≠ x ∨ l ≠ k) : s.sameClaims y l (s.withdraw x k) := by
  intro i c hy hl
  rw [State.withdraw_entry]
  split
  · rfl
  · next e he =>
    obtain ⟨hc, hx, hk⟩ := State.claimOf_some he
    have other (d : Claim) (hs : d.sub = e.2.sub) (hd : d.kind = e.2.kind) : d ≠ c := by
      rintro rfl
      cases hne with
      | inl n => exact n (hy.symm.trans (hs.trans hx))
      | inr n => exact n (hl.symm.trans (hd.trans hk))
    split
    · next hi =>
      rw [← hi, hc]
      split
      · refine iff_of_false (fun h => other _ ?_ ?_ (Option.some.inj h)) (fun h => other _ rfl rfl (Option.some.inj h)) <;> rfl
      · exact iff_of_false (fun h => by cases h) (fun h => other _ rfl rfl (Option.some.inj h))
    · rfl

theorem State.claimOf_withdraw_other (h : s.claimsOk) (hne : y ≠ x ∨ l ≠ k) : (s.withdraw x k).claimOf y l = s.claimOf y l :=
  State.claimOf_congr h (State.withdraw_claimsOk h) (s.withdraw_sameClaims hne)

theorem State.claimInPlace_withdraw (h : s.claimsOk) : (s.withdraw x k).claimInPlace x k = false := by
  by_contra hc
  obtain ⟨i, c, hi, hx, hk, hw⟩ := (State.claimInPlace_iff (State.withdraw_claimsOk h)).1 (Bool.not_eq_false _ ▸ hc)
  rw [State.withdraw_entry] at hi
  split at hi
  · next hn => exact State.claimOf_none hn i c hi ⟨hx, hk⟩
  · next e he =>
    split at hi
    · split at hi
      · cases hi; cases hw
      · cases hi
    · next hne =>
      have := (State.claimOf_iff h i c).2 ⟨hi, hx, hk⟩
      rw [he] at this
      exact hne (congrArg Prod.fst (Option.some.inj this))

/-- A placement changes the claim that is there, or takes the lowest free entry (R36). -/
theorem State.place_entry (s : State) (x : Sub) (k : ClaimKind) (w : Window) (j : Nat) : entryAt (s.place x k w).2.rta.claims j =
    match s.claimOf x k, lowestFree s.rta.claims with
    | some e, _ => if e.1 = j then some (e.2.placeAgain (w.placedAt s.clock.now)) else entryAt s.rta.claims j
    | none, some i => if i = j then some (newClaim x k (w.placedAt s.clock.now)) else entryAt s.rta.claims j
    | none, none => entryAt s.rta.claims j := by
  unfold State.place
  dsimp only
  cases he : s.claimOf x k with
  | some e =>
    obtain ⟨hc, -, -⟩ := State.claimOf_some he
    have changed : entryAt (s.onClaim e.1 (Claim.placeAgain (w.placedAt s.clock.now))).recomputeWake.rta.claims j =
        if e.1 = j then (entryAt s.rta.claims j).map (Claim.placeAgain (w.placedAt s.clock.now)) else entryAt s.rta.claims j := by
      rw [(State.recomputeWake_keeps _).2.2.2.2.2.1]
      exact entryAt_modify_map ..
    dsimp only
    rw [changed]
    split
    · next hj => rw [← hj, hc]; rfl
    · rfl
  | none =>
    cases hf : lowestFree s.rta.claims with
    | none => rfl
    | some i =>
      obtain ⟨hi, -⟩ := lowestFree_some hf
      dsimp only
      rw [(State.recomputeWake_keeps _).2.2.2.2.2.1]
      simp only [State.onRta_rta]
      rw [entryAt_set]
      exact if_congr ⟨And.left, fun h => ⟨h, hi⟩⟩ rfl rfl

theorem State.place_sameClaims (s : State) (w : Window) (hne : y ≠ x ∨ l ≠ k) : s.sameClaims y l (s.place x k w).2 := by
  have other (c d : Claim) (hs : d.sub = x) (hd : d.kind = k) (hy : c.sub = y) (hl : c.kind = l) : d ≠ c := by
    rintro rfl
    cases hne with
    | inl n => exact n (hy.symm.trans hs)
    | inr n => exact n (hl.symm.trans hd)
  intro i c hy hl
  rw [State.place_entry]
  split
  · next e he =>
    obtain ⟨hc, hx, hk⟩ := State.claimOf_some he
    obtain ⟨sub, kind, -⟩ := Claim.placeAgain_key (w.placedAt s.clock.now) e.2
    split
    · next hi =>
      rw [← hi, hc]
      exact iff_of_false (fun h => other c _ (sub.trans hx) (kind.trans hk) hy hl (Option.some.inj h))
        (fun h => other c _ hx hk hy hl (Option.some.inj h))
    · rfl
  · next i' _ hf =>
    split
    · next hi =>
      rw [← hi, (lowestFree_some hf).2]
      exact iff_of_false (fun h => other c _ rfl rfl hy hl (Option.some.inj h)) (fun h => by cases h)
    · rfl
  · rfl

theorem State.claimOf_place_other (w : Window) (h : s.claimsOk) (hne : y ≠ x ∨ l ≠ k) : (s.place x k w).2.claimOf y l = s.claimOf y l :=
  State.claimOf_congr h (State.place_claimsOk w h) (s.place_sameClaims w hne)

theorem State.claimInPlace_place (w : Window) (h : s.claimsOk) (ht : s.takesClaim x k) : (s.place x k w).2.claimInPlace x k = true := by
  refine (State.claimInPlace_iff (State.place_claimsOk w h)).2 ?_
  cases ht with
  | inl hn =>
    obtain ⟨hc, hf⟩ := hn
    have hc : s.claimOf x k = none := by simpa [State.hasClaim] using hc
    obtain ⟨i, hi⟩ := Option.ne_none_iff_exists'.1 hf
    refine ⟨i, newClaim x k (w.placedAt s.clock.now), ?_, rfl, rfl, rfl⟩
    rw [State.place_entry, hc, hi]; simp
  | inr hs =>
    obtain ⟨i, c, hc, hw⟩ := hs
    obtain ⟨-, hx, hk⟩ := State.claimOf_some hc
    obtain ⟨sub, kind, -⟩ := Claim.placeAgain_key (w.placedAt s.clock.now) c
    refine ⟨i, c.placeAgain (w.placedAt s.clock.now), ?_, sub.trans hx, kind.trans hk, ?_⟩
    · rw [State.place_entry, hc]; simp
    · unfold Claim.placeAgain
      split
      · rfl
      · next hr => cases hw with
        | inl hw => exact hw
        | inr hw => rw [hr] at hw; cases hw
      · next hr => cases hw with
        | inl hw => exact hw
        | inr hw => rw [hr] at hw; cases hw

end Claims

/-! ### SIGNALLING (R10) -/

section Signalling
variable {s : State} {x : Sub}

theorem State.withdraw_mob (s : State) (x : Sub) {k : ClaimKind} (h : k ≠ .beaconRead) : (s.withdraw x k).mob = s.mob := by
  unfold State.withdraw
  dsimp only
  (repeat' split) <;> simp [State.dropPurpose, h, State.onClaim, State.freeClaim]

@[simp] theorem State.reexamine_mob (s : State) (x : Sub) : (s.reexamine x).mob = s.mob := by
  unfold State.reexamine State.ask
  (repeat' split) <;> simp [State.withdraw_mob]

/-- A re-examination touches the claims and the sleep controller's timers alone. -/
theorem State.reexamine_rest (s : State) (x : Sub) :
    s.reexamine x = { s with rta := (s.reexamine x).rta, psc := (s.reexamine x).psc } := by
  obtain ⟨h1, h2, h3, h4, h5, h6, h7, h8, h9, h10, h11, h12, -⟩ := s.reexamine_keeps x
  have h13 := s.reexamine_mob x
  cases hr : s.reexamine x
  simp_all

/-- Outside a boundary's step a re-examination places or withdraws SIGNALLING at once. -/
theorem State.reexamine_now (h : s.noneAsked) : s.reexamine x =
    if s.claimInPlace x .traffic = true ∨ (s.sge.queues.get x = [] ∧ s.txnsOf x = []) then s.withdraw x .signalling
    else if s.claimInPlace x .signalling = true then s else s.placeSignalling x := by
  unfold State.reexamine
  by_cases ht : s.claimInPlace x .traffic = true
  · simp [ht]
  · by_cases hq : s.sge.queues.get x = [] ∧ s.txnsOf x = []
    · simp [hq]
    · have he : ((s.sge.queues.get x).isEmpty && (s.txnsOf x).isEmpty) = false := by
        rw [Bool.eq_false_iff]; simpa [List.isEmpty_iff] using hq
      simp only [ht, he, hq, State.ask_now h, Bool.false_eq_true, if_false, or_self]

theorem State.claimInPlace_signalling_idle (h : s.claimsOk) (ha : s.noneAsked)
    (hn : s.claimInPlace x .traffic = true ∨ (s.sge.queues.get x = [] ∧ s.txnsOf x = [])) :
    (s.reexamine x).claimInPlace x .signalling = false := by
  rw [State.reexamine_now ha, if_pos hn]
  exact State.claimInPlace_withdraw h

theorem State.claimInPlace_signalling_wanted (h : s.claimsOk) (ha : s.noneAsked) (ht : s.claimInPlace x .traffic = false)
    (hw : s.sge.queues.get x ≠ [] ∨ s.txnsOf x ≠ []) (hr : s.takesClaim x .signalling) :
    (s.reexamine x).claimInPlace x .signalling = true := by
  have hn : ¬ (s.claimInPlace x .traffic = true ∨ (s.sge.queues.get x = [] ∧ s.txnsOf x = [])) := by
    rw [ht]; rintro (e | e)
    · cases e
    · cases hw with
      | inl hw => exact hw e.1
      | inr hw => exact hw e.2
  rw [State.reexamine_now ha, if_neg hn]
  split
  · assumption
  · exact State.claimInPlace_place _ h hr

theorem State.claimOf_reexamine_other (h : s.claimsOk) (ha : s.noneAsked) {y : Sub} {k : ClaimKind} (hne : y ≠ x ∨ k ≠ .signalling) :
    (s.reexamine x).claimOf y k = s.claimOf y k := by
  rw [State.reexamine_now ha]
  (repeat' split)
  · exact State.claimOf_withdraw_other h hne
  · rfl
  · exact State.claimOf_place_other _ h hne

end Signalling

/-! ### The queue (R8, R9) -/

/-- What leaves a queue leaves it alone changed, but for the waiters that may try. -/
theorem State.dropQueued_sge (s : State) (x : Sub) (pos : Nat) :
    (s.dropQueued x pos).sge = { s.sge with
      queues := s.sge.queues.upd x (·.eraseIdx pos), waiters := (s.dropQueued x pos).sge.waiters } := by
  unfold State.dropQueued
  split
  · dsimp only; split <;> simp [State.markWaiters]
  · next h =>
    have same : s.sge.queues.upd x (·.eraseIdx pos) = s.sge.queues := by
      refine PerSub.ext_get fun y => ?_
      rw [PerSub.get_upd]
      split
      · next e => subst e; exact List.eraseIdx_of_length_le (Nat.le_of_not_lt h)
      · rfl
    rw [same]

/-- With no order outstanding nothing carries the head. -/
theorem State.dropQueued_rpt {s : State} (h : s.rpt.order = none) (x : Sub) (pos : Nat) : (s.dropQueued x pos).rpt = s.rpt := by
  have forget : (s.forgetHead x).rpt = s.rpt := by
    cases hr : s.rpt
    simp [State.forgetHead, hr] at h ⊢; simp [h]
  unfold State.dropQueued
  (repeat' split) <;> simp [forget]

theorem State.enqueue_room {s : State} {x : Sub} (h : (s.sge.queues.get x).length < 6) (m : Msg) :
    (s.enqueue x m).sge = { s.sge with queues := s.sge.queues.upd x (· ++ [{ m with wait := 0 }]) } := by
  cases s.enqueue_spec x m with
  | inl e => exact e.2
  | inr e => exact absurd (of_decide_eq_true e.1) (Nat.not_le.2 h)

/-- The first part of O17: the message held first takes a place at the tail. -/
theorem enqueueHeld_takes (s : State) (x : Sub) (m : Msg) (rest : List Msg) (hh : s.sge.holds.get x = m :: rest)
    (hq : (s.sge.queues.get x).length < 6) : ∃ t, exec (.heldMessageEnqueue x) s = .next t ∧
      t.sge.queues.get x = s.sge.queues.get x ++ [{ m with wait := 0 }] ∧ t.sge.holds.get x = rest ∧ t.sge.txns = s.sge.txns ∧
      t.sge.queues.get x.other = s.sge.queues.get x.other ∧ t.cal = s.cal ∧ t.sbs = s.sbs ∧ t.txt = s.txt ∧ t.vcp = s.vcp ∧
      sameLink s.hlc t.hlc := by
  have full : s.queueFull x = false := decide_eq_false (Nat.not_le.2 hq)
  have e : s.enqueueHeld x = (((s.onSge fun g => { g with holds := g.holds.set x rest }).enqueue x m).reexamine x) := by
    simp [State.enqueueHeld, hh, full]
  have q := State.enqueue_room (s := s.onSge fun g => { g with holds := g.holds.set x rest }) hq m
  obtain ⟨⟨-, -, -, -, -, -, sge, sbs, -, -, -, cal, vcp, txt, link⟩, -⟩ := State.finish_agrees (before := s) (after := s.enqueueHeld x) (by simp [e])
  rw [e] at sge cal sbs txt vcp link
  refine ⟨_, rfl, ?_, ?_, ?_, ?_, ?_, ?_, ?_, ?_, ?_⟩
  · rw [e, sge]; simp [q]
  · rw [e, sge]; simp [q]
  · rw [e, sge]; simp [q]
  · rw [e, sge]; simp [q]
  · rw [e, cal]; simp
  · rw [e, sbs]; simp
  · rw [e, txt]; simp
  · rw [e, vcp]; simp
  · rw [e]; simpa using link

theorem enqueueHeld_idle (s : State) (x : Sub) (h : s.sge.holds.get x = [] ∨ 6 ≤ (s.sge.queues.get x).length) :
    ∃ t, exec (.heldMessageEnqueue x) s = .next t ∧ s.agrees t := by
  have e : s.enqueueHeld x = s := by
    unfold State.enqueueHeld
    split
    · rfl
    · next hh =>
      have full : s.queueFull x = true := by
        cases h with
        | inl h => rw [hh] at h; cases h
        | inr h => exact decide_eq_true h
      rw [if_pos full]
  exact ⟨_, rfl, by rw [e]; exact State.finish_agrees rfl⟩

/-! ### Offers (R5, R6) -/

/-- An offer taken that opens a transaction: the lowest free entry, the next free ident, and the message in the queue or its owner's hold. -/
theorem State.offer_opens {s : State} {x : Sub} {o : Offer} {k : TxnKind} (h : s.takesOffer x o = true) (ho : o.opens = some k) :
    ∃ i, lowestFree s.sge.txns = some i ∧ s.offer x o = (some (s.nextFreeIdent x),
      (s.onSge fun g => { g with
        txns := g.txns.set i (some ⟨x, k, s.nextFreeIdent x, o.owner.getD .host, .queued, none, none, o.reason⟩)
        nextIdent := g.nextIdent.set x (s.nextFreeIdent x + 1) }).enqueue x ⟨o.owner, s.nextFreeIdent x, true, o.body, 0⟩) := by
  have room : s.tableFull = false := by
    simp only [State.takesOffer, ho, Option.isSome_some, Bool.true_and, Bool.and_eq_true, Bool.not_eq_true'] at h
    exact h.2
  cases hf : lowestFree s.sge.txns with
  | none => simp [State.tableFull, hf] at room
  | some i => exact ⟨i, rfl, by simp [State.offer, h, ho, hf, Offer.txnOwner]⟩

/-- An offer taken without a transaction: its message alone. -/
theorem State.offer_plain {s : State} {x : Sub} {o : Offer} (h : s.takesOffer x o = true) (ho : o.opens = none) :
    s.offer x o = (some o.echo, s.enqueue x ⟨o.owner, o.echo, false, o.body, 0⟩) := by
  simp [State.offer, h, ho]

theorem State.enqueue_table (s : State) (x : Sub) (m : Msg) :
    (s.enqueue x m).sge.txns = s.sge.txns ∧ (s.enqueue x m).sge.nextIdent = s.sge.nextIdent := by
  cases s.enqueue_spec x m with
  | inl e => rw [e.2]; exact ⟨rfl, rfl⟩
  | inr e => rw [e.2]; exact ⟨rfl, rfl⟩

/-- Settles O17: the held message by `enqueueHeld_takes`, the idents by `freeIdent_of_skipped`, the claim by the lemmas about `reexamine`. -/
theorem uplinkPlacesAndIdents : Obligations.UplinkPlacesAndIdents := by
  refine ⟨fun s x => ⟨enqueueHeld_takes s x, enqueueHeld_idle s x⟩, fun s x h => ⟨State.nextFreeIdent_free h x, fun hn => ?_⟩,
    fun s x k hk hu hf => freeIdent_of_skipped _ 15 k _ hk hu hf, fun s x o h => ⟨fun k hk => ?_, fun hk => ?_⟩, fun s x h ha => ?_⟩
  · simp [State.nextFreeIdent, freeIdent, hn]
  · obtain ⟨i, hi, e⟩ := State.offer_opens h hk
    refine ⟨_, i, e, hi, ?_, ?_, ?_⟩ <;> simp [State.enqueue_table]
  · exact ⟨_, State.offer_plain h hk, State.enqueue_table ..⟩
  · exact ⟨_, rfl, s.reexamine_rest x, State.claimInPlace_signalling_idle h ha, State.claimInPlace_signalling_wanted h ha,
      fun y k => State.claimOf_reexamine_other h ha⟩

end Sys2Proof.Machine
end

section
/-! Sitting 1: a clean acknowledgement, and the head of the queue that leaves with it. -/

namespace Sys2Proof.Machine

theorem State.txnBy_some {s : State} {x : Sub} {ident : Ident} {i : Nat} {p : Txn} (h : s.txnBy x ident = some (i, p)) :
    entryAt s.sge.txns i = some p ∧ p.sub = x ∧ p.ident = ident := by
  have hm := List.mem_of_find?_eq_some h
  have hi := List.find?_some h
  simp only [State.txnsOf, State.openTxns, List.mem_filter, beq_iff_eq] at hm hi
  exact ⟨(mem_taken ..).1 hm.1, hm.2, hi⟩

/-- The answer time of a kind is read from the record. -/
theorem State.answerTime_congr {s t : State} (h : t.sbs = s.sbs) (x : Sub) (k : TxnKind) : t.answerTime x k = s.answerTime x k := by
  simp only [State.answerTime, State.record, h]

theorem State.txnBy_congr {s t : State} (h : t.sge.txns = s.sge.txns) (x : Sub) (ident : Ident) : t.txnBy x ident = s.txnBy x ident := by
  simp only [State.txnBy, State.txnsOf, State.openTxns, h]

section HeadLeaves
variable {s : State} {x : Sub} {m : Msg} {rest : List Msg}

theorem State.dropQueued_txns (s : State) (x : Sub) (pos : Nat) : (s.dropQueued x pos).sge.txns = s.sge.txns := by
  rw [State.dropQueued_sge]

theorem State.dropQueued_queues (s : State) (x : Sub) (pos : Nat) :
    (s.dropQueued x pos).sge.queues = s.sge.queues.upd x (·.eraseIdx pos) := by rw [State.dropQueued_sge]

/-- The head leaves, and its transaction is SENT (R7, R8). -/
theorem State.headLeaves_opens (hq : s.sge.queues.get x = m :: rest) (ho : m.opens = true) {i : Nat} {p : Txn}
    (ht : s.txnBy x m.ident = some (i, p)) : s.headLeaves x =
      (s.dropQueued x 0).onTxn i fun t => { t with state := .sent, answer := some ((s.dropQueued x 0).answerTime x t.kind) } := by
  have same : (s.dropQueued x 0).txnBy x m.ident = some (i, p) := (State.txnBy_congr (s.dropQueued_txns x 0) ..).trans ht
  simp [State.headLeaves, hq, ho, same]

theorem State.headLeaves_plain (hq : s.sge.queues.get x = m :: rest) (ho : m.opens = false) : s.headLeaves x = s.dropQueued x 0 := by
  simp [State.headLeaves, hq, ho]

theorem State.headLeaves_rpt (h : s.rpt.order = none) (x : Sub) : (s.headLeaves x).rpt = s.rpt := by
  unfold State.headLeaves
  dsimp only
  (repeat' split) <;> simp [State.onTxn, State.dropQueued_rpt h]

end HeadLeaves

/-! ### The acknowledgement -/

/-- The order is answered, the faults in a row end (R50, R51). -/
def State.acknowledged (s : State) : State := s.onRpt fun r => { r with order := none, faultCount := 0 }

theorem State.orderAck_clean {s : State} {o : Order} (h : s.rpt.order = some o) : s.orderAck o.tag [] =
    if o.carriesHead = true then (s.acknowledged.headLeaves o.sub).reexamine o.sub else s.acknowledged := by
  simp [State.orderAck, h, State.cleanAck, State.acknowledged]

/-- What the acknowledgement of an order that carried the head leaves: SGE's part is that of the head leaving. -/
theorem orderAck_head {s : State} {o : Order} (h : s.rpt.order = some o) (hc : o.carriesHead = true) :
    ∃ t, exec (.orderAck o.tag []) s = .next t ∧ t.rpt.order = none ∧ t.rpt.faultCount = 0 ∧
      t.sge = (s.acknowledged.headLeaves o.sub).sge ∧ t.cal = s.cal ∧ t.sbs = s.sbs ∧ t.mob = s.mob ∧ t.vcp = s.vcp ∧ t.txt = s.txt ∧
      t.dlc = s.dlc ∧ sameLink s.hlc t.hlc := by
  have e := State.orderAck_clean h
  rw [if_pos hc] at e
  obtain ⟨⟨-, -, -, rpt, -, dlc, sge, sbs, -, -, mob, cal, vcp, txt, link⟩, -⟩ :=
    State.finish_agrees (before := s) (after := s.orderAck o.tag []) (by simp [e, State.acknowledged])
  have hr : (s.acknowledged.headLeaves o.sub).rpt = s.acknowledged.rpt := State.headLeaves_rpt rfl _
  refine ⟨_, rfl, ?_, ?_, ?_, ?_, ?_, ?_, ?_, ?_, ?_, ?_⟩
  · rw [rpt, e]; simp [hr]; rfl
  · rw [rpt, e]; simp [hr]; rfl
  · rw [sge, e]; simp
  · rw [cal, e]; simp [State.acknowledged]
  · rw [sbs, e]; simp [State.acknowledged]
  · rw [mob, e]; simp [State.acknowledged]
  · rw [vcp, e]; simp [State.acknowledged]
  · rw [txt, e]; simp [State.acknowledged]
  · rw [dlc, e]; simp [State.acknowledged]
  · rw [e] at link ⊢; simpa [State.acknowledged] using link

theorem orderAck_opener {s : State} {o : Order} {m : Msg} {rest : List Msg} {i : Nat} {x : Txn} (h : s.rpt.order = some o)
    (hc : o.carriesHead = true) (hq : s.sge.queues.get o.sub = m :: rest) (ho : m.opens = true) (ht : s.txnBy o.sub m.ident = some (i, x)) :
    ∃ t, exec (.orderAck o.tag []) s = .next t ∧ t.rpt.order = none ∧ t.rpt.faultCount = 0 ∧ t.sge.queues.get o.sub = rest ∧
      t.sge.queues.get o.sub.other = s.sge.queues.get o.sub.other ∧
      entryAt t.sge.txns i = some { x with state := .sent, answer := some (s.answerTime o.sub x.kind) } ∧
      (∀ j, j ≠ i → entryAt t.sge.txns j = entryAt s.sge.txns j) ∧
      t.cal = s.cal ∧ t.sbs = s.sbs ∧ t.mob = s.mob ∧ t.vcp = s.vcp ∧ t.txt = s.txt ∧ t.dlc = s.dlc ∧ sameLink s.hlc t.hlc := by
  obtain ⟨t, e, order, faults, sge, others⟩ := orderAck_head h hc
  have leaves := State.headLeaves_opens (s := s.acknowledged) hq ho ht
  have queues : t.sge.queues = s.sge.queues.upd o.sub (·.eraseIdx 0) := by
    rw [sge, leaves]; exact s.acknowledged.dropQueued_queues o.sub 0
  have entries (j : Nat) : entryAt t.sge.txns j = if i = j then (entryAt s.sge.txns j).map fun p =>
      { p with state := .sent, answer := some (s.answerTime o.sub p.kind) } else entryAt s.sge.txns j := by
    have time := State.answerTime_congr (s := s) (t := s.acknowledged.dropQueued o.sub 0) (by simp [State.acknowledged]) o.sub
    rw [sge, leaves]
    simp only [State.onTxn, State.onSge_sge, State.dropQueued_txns, time]
    exact entryAt_modify_map ..
  refine ⟨t, e, order, faults, ?_, ?_, ?_, fun j hj => ?_, others⟩
  · rw [queues]; simp [hq]
  · rw [queues]; simp
  · rw [entries, if_pos rfl, (State.txnBy_some ht).1]; rfl
  · rw [entries, if_neg (Ne.symm hj)]

theorem orderAck_message {s : State} {o : Order} {m : Msg} {rest : List Msg} (h : s.rpt.order = some o) (hc : o.carriesHead = true)
    (hq : s.sge.queues.get o.sub = m :: rest) (ho : m.opens = false) :
    ∃ t, exec (.orderAck o.tag []) s = .next t ∧ t.rpt.order = none ∧ t.rpt.faultCount = 0 ∧ t.sge.queues.get o.sub = rest ∧
      t.sge.queues.get o.sub.other = s.sge.queues.get o.sub.other ∧ t.sge.txns = s.sge.txns ∧
      t.cal = s.cal ∧ t.sbs = s.sbs ∧ t.mob = s.mob ∧ t.vcp = s.vcp ∧ t.txt = s.txt ∧ t.dlc = s.dlc ∧ sameLink s.hlc t.hlc := by
  obtain ⟨t, e, order, faults, sge, others⟩ := orderAck_head h hc
  have leaves := State.headLeaves_plain (s := s.acknowledged) hq ho
  have queues : t.sge.queues = s.sge.queues.upd o.sub (·.eraseIdx 0) := by
    rw [sge, leaves]; exact s.acknowledged.dropQueued_queues o.sub 0
  have txns : t.sge.txns = s.sge.txns := by rw [sge, leaves]; exact s.acknowledged.dropQueued_txns o.sub 0
  refine ⟨t, e, order, faults, ?_, ?_, txns, others⟩
  · rw [queues]; simp [hq]
  · rw [queues]; simp

theorem orderAck_unmatched {s : State} {tag : Ident} (h : ∀ o, s.rpt.order = some o → o.tag ≠ tag) (errors : List OrderError) :
    s.orderAck tag errors = s := by
  unfold State.orderAck
  split
  · rfl
  · next o ho => rw [if_neg (h o ho)]

/-- Settles O7: by whether the order carried the head, and whether the head opened a transaction. -/
theorem ackOutcomes : Obligations.AckOutcomes := by
  refine ⟨fun s o m rest i x => orderAck_opener, fun s o h hc => ?_, fun s tag errors h => ?_, fun s o m rest => orderAck_message⟩
  · have e := State.orderAck_clean h
    rw [if_neg (by rw [hc]; exact Bool.false_ne_true)] at e
    exact ⟨_, rfl, by rw [e]; exact State.finish_agrees rfl⟩
  · exact ⟨_, rfl, by rw [orderAck_unmatched h]; exact State.finish_agrees rfl⟩

end Sys2Proof.Machine
end

section
/-! Sitting 1: what settling a subscription leaves alone, and the owners that try again within it. -/

namespace Sys2Proof.Machine

/-! ### Relations -/

/-- A record but for what SBS derives from the rest: its activity state and its standing. -/
def SubRecord.sameFacts (r q : SubRecord) : Prop := q = { r with activity := q.activity, standing := q.standing }

theorem SubRecord.sameFacts.refl (r : SubRecord) : r.sameFacts r := rfl

theorem SubRecord.sameFacts.trans {a b c : SubRecord} (h : a.sameFacts b) (k : b.sameFacts c) : a.sameFacts c := by
  unfold SubRecord.sameFacts at *
  rw [k, h]

/-- MOB's facts of a subscription whose serving cell is not barred stay: the serving record and the report guard. -/
def State.keepsCells (s t : State) : Prop :=
  ∀ x, (s.serving x).any (·.barred) = false → t.serving x = s.serving x ∧ (t.mobOf x).guard = (s.mobOf x).guard

theorem State.keepsCells.trans {s t u : State} (h : s.keepsCells t) (k : t.keepsCells u) : s.keepsCells u := by
  intro x hx
  obtain ⟨hs, hg⟩ := h x hx
  obtain ⟨ks, kg⟩ := k x (by rw [hs]; exact hx)
  exact ⟨ks.trans hs, kg.trans hg⟩

theorem State.keepsCells_of_mob {s t : State} (h : t.mob = s.mob) : s.keepsCells t := by
  intro x _
  simp [State.serving, State.mobOf, h]

/-- What settling does where no owner tries again: calls, speech, texts and transactions stay as they are. -/
structure State.Rests (s t : State) : Prop where
  evolves : s.Evolves t
  cal : t.cal = s.cal
  vcp : t.vcp = s.vcp
  txt : t.txt = s.txt
  txns : t.sge.txns = s.sge.txns
  nextIdent : t.sge.nextIdent = s.sge.nextIdent
  stray : t.sge.stray = s.sge.stray
  waiters : s.sge.waiters = [] → t.sge.waiters = []
  cells : s.keepsCells t
  record : ∀ x, (s.record x).sameFacts (t.record x)

/-- What settling does at all: the calls and the speech stay, the transactions stay open, and no text becomes outgoing. -/
structure State.Settles (s t : State) : Prop where
  evolves : s.Evolves t
  cal : t.cal = s.cal
  vcp : t.vcp = s.vcp
  txns : ∀ i p, entryAt s.sge.txns i = some p → entryAt t.sge.txns i = some p
  outgoing : ∀ x, s.outgoingOf x = none → t.outgoingOf x = none
  cells : s.keepsCells t

theorem State.Rests.settles {s t : State} (h : s.Rests t) : s.Settles t :=
  { h with
    txns := fun i p hp => by rw [h.txns]; exact hp
    outgoing := fun x hx => by unfold State.outgoingOf; rw [h.txt]; exact hx }

theorem State.Rests.refl (s : State) : s.Rests s :=
  ⟨.refl s, rfl, rfl, rfl, rfl, rfl, rfl, id, State.keepsCells_of_mob rfl, fun _ => .refl _⟩

theorem State.Rests.trans {s t u : State} (h : s.Rests t) (k : t.Rests u) : s.Rests u where
  evolves := h.evolves.trans k.evolves
  cal := k.cal.trans h.cal
  vcp := k.vcp.trans h.vcp
  txt := k.txt.trans h.txt
  txns := k.txns.trans h.txns
  nextIdent := k.nextIdent.trans h.nextIdent
  stray := k.stray.trans h.stray
  waiters := k.waiters ∘ h.waiters
  cells := h.cells.trans k.cells
  record := fun x => (h.record x).trans (k.record x)

theorem State.Settles.refl (s : State) : s.Settles s := (State.Rests.refl s).settles

theorem State.Settles.trans {s t u : State} (h : s.Settles t) (k : t.Settles u) : s.Settles u where
  evolves := h.evolves.trans k.evolves
  cal := k.cal.trans h.cal
  vcp := k.vcp.trans h.vcp
  txns := fun i p hp => k.txns i p (h.txns i p hp)
  outgoing := fun x hx => k.outgoing x (h.outgoing x hx)
  cells := h.cells.trans k.cells

theorem State.Settles.foldl {α : Type} {f : State → α → State} (hf : ∀ (t : State) (a : α), t.Settles (f t a)) (l : List α) {s t : State}
    (h : s.Settles t) : s.Settles (l.foldl f t) := by
  induction l generalizing t with
  | nil => exact h
  | cons a l ih => exact ih (h.trans (hf t a))

/-- An operation that leaves SGE, TXT, CAL, VCP and the records alone rests, if it keeps MOB's cells. -/
theorem State.Rests.of {s t : State} (h : s.Evolves t) (cal : t.cal = s.cal) (vcp : t.vcp = s.vcp) (txt : t.txt = s.txt)
    (sge : t.sge = s.sge) (sbs : t.sbs = s.sbs) (cells : s.keepsCells t) : s.Rests t where
  evolves := h
  cal := cal
  vcp := vcp
  txt := txt
  txns := by rw [sge]
  nextIdent := by rw [sge]
  stray := by rw [sge]
  waiters := by rw [sge]; exact id
  cells := cells
  record := fun x => by unfold State.record; rw [sbs]; exact .refl _

/-! ### The steps of settling -/

theorem State.markWaiters_rests (p : Waiter → Bool) (s : State) : s.Rests (s.markWaiters p) :=
  { State.Rests.refl s with evolves := State.markWaiters_evolves p (.refl s), waiters := fun h => by simp [State.markWaiters, h] }

theorem State.onRecord_rests (x : Sub) (f : SubRecord → SubRecord) (hf : ∀ r : SubRecord, r.sameFacts (f r)) (s : State) : s.Rests (s.onRecord x f) :=
  { State.Rests.refl s with
    evolves := State.onRecord_evolves (.refl s)
    record := fun y => by
      have e : (s.onRecord x f).record y = if y = x then f (s.record y) else s.record y := PerSub.get_upd ..
      rw [e]
      split
      · exact hf _
      · exact .refl _ }

theorem State.writeActivity_rests (x : Sub) (a : Activity) (s : State) : s.Rests (s.writeActivity x a) := by
  have k : s.Rests (s.onRecord x fun r => { r with activity := a }) := State.onRecord_rests x _ (fun _ => by rfl) s
  unfold State.writeActivity
  dsimp only
  split
  · exact k.trans (State.markWaiters_rests ..)
  · exact k

theorem State.report_rests (r : Report) (s : State) : s.Rests (s.report r) :=
  .of (by simp) (by simp) (by simp) (by simp) (by simp) (by simp) (State.keepsCells_of_mob (by simp))

theorem State.reportWake_rests (r : Report) (s : State) : s.Rests (s.reportWake r) :=
  .of (by simp) (by simp) (by simp) (by simp) (by simp) (by simp) (State.keepsCells_of_mob (by simp))

theorem State.updateStanding_rests (x : Sub) (s : State) : s.Rests (s.updateStanding x) := by
  unfold State.updateStanding
  dsimp only
  split
  · exact .refl s
  · exact (State.onRecord_rests x _ (fun _ => by rfl) s).trans (State.reportWake_rests ..)

theorem State.setFilter_rests (x : Sub) (isOpen : Bool) (s : State) : s.Rests (s.setFilter x isOpen) :=
  .of (by simp) (by simp) (by simp) (by simp) (by simp) (by simp) (State.keepsCells_of_mob (by simp))

theorem State.placePaging_rests (x : Sub) (s : State) : s.Rests (s.placePaging x) :=
  .of (by simp) (by simp) (by simp) (by simp) (by simp) (by simp) (State.keepsCells_of_mob (by simp))

theorem State.reexamine_rests (x : Sub) (s : State) : s.Rests (s.reexamine x) :=
  .of (by simp) (by simp) (by simp) (by simp) (by simp) (by simp) (State.keepsCells_of_mob (by simp))

theorem State.enterBusy_rests (x : Sub) (s : State) : s.Rests (s.enterBusy x) :=
  .of (by simp) (by simp) (by simp) (by simp) (by simp) (by simp)
    (State.keepsCells_of_mob (by simp [State.enterBusy, State.withdrawPaging, State.withdraw_mob]))

theorem State.clearDue_rests (w : WaitKind) (x : Sub) (s : State) : s.Rests (s.clearDue w x) :=
  { State.Rests.refl s with evolves := State.clearDue_evolves w x (.refl s), waiters := fun h => by simp [State.clearDue, h] }

/-- A change of MOB's fields that keeps the serving records and the guards keeps the cells. -/
theorem State.onMobOf_cells (x : Sub) (f : MobSub → MobSub) (hf : ∀ m, (f m).serving = m.serving ∧ (f m).guard = m.guard) (s : State) :
    s.keepsCells (s.onMobOf x f) := by
  intro y _
  have e : (s.onMobOf x f).mobOf y = if y = x then f (s.mobOf y) else s.mobOf y := PerSub.get_upd ..
  unfold State.serving
  rw [e]
  split
  · exact hf _
  · exact ⟨rfl, rfl⟩

theorem State.readRefused_cells (x : Sub) (s : State) : s.keepsCells (s.readRefused x) := by
  have drop : s.keepsCells (s.onMobOf x fun m => { m with readPurpose := none }) := State.onMobOf_cells x _ (fun _ => by constructor <;> rfl) s
  unfold State.readRefused
  dsimp only
  split
  · refine drop.trans (State.onMobOf_cells x _ (fun m => ?_) _)
    split <;> simp [MobSub.setTrigger]
  · exact drop
  · exact drop

theorem State.tryRead_cells (x : Sub) (s : State) : s.keepsCells (s.tryRead x) := by
  unfold State.tryRead
  split <;> (have k := congrArg Prod.snd ‹_ = (_, _)›; dsimp only at k; subst k)
  · exact State.keepsCells_of_mob (by simp)
  · refine State.keepsCells.trans (State.keepsCells_of_mob ?_) (State.readRefused_cells x _)
    simp

theorem State.refreshRead_rests (x : Sub) (s : State) : s.Rests (s.refreshRead x) := by
  refine .of (by simp) (by simp) (by simp) (by simp) (by simp) (by simp) ?_
  unfold State.refreshRead State.placeRead State.ask
  have set : s.keepsCells (s.onMobOf x fun m => { m with readPurpose := some .refresh }) := State.onMobOf_cells x _ (fun _ => by constructor <;> rfl) s
  (repeat' split)
  · exact State.keepsCells_of_mob rfl
  · exact set.trans (State.tryRead_cells x _)
  · exact set
  · exact set.trans (State.keepsCells_of_mob rfl)
  · exact State.keepsCells_of_mob rfl

/-! ### The loss of a barred cell (R100) -/

/-- Nothing of `x` is under way: no context, transaction or outgoing text. -/
def State.idle (s : State) (x : Sub) : Prop := s.hasCtx x = false ∧ s.txnsOf x = [] ∧ s.outgoingOf x = none

theorem State.idle_congr {s t : State} {x : Sub} (h : s.idle x) (cal : t.cal = s.cal) (txns : t.sge.txns = s.sge.txns) (txt : t.txt = s.txt) :
    t.idle x := by
  obtain ⟨h1, h2, h3⟩ := h
  unfold State.idle State.hasCtx State.ctxOf State.ctx State.txnsOf State.openTxns State.outgoingOf at *
  rw [cal, txns, txt]
  exact ⟨h1, h2, h3⟩

theorem State.Rests.idle {s t : State} {x : Sub} (h : s.Rests t) (k : s.idle x) : t.idle x := State.idle_congr k h.cal h.txns h.txt

/-- With nothing under way the contexts, transactions and texts of a teardown are none. -/
theorem State.endAllCtxs_idle {s : State} {x : Sub} (h : s.idle x) (cause : Cause) : s.endAllCtxs x cause = s := by
  obtain ⟨hc, -, -⟩ := h
  have none_of : s.ctxsOf x = [] := by
    simpa [State.hasCtx, State.ctxsOf, List.filter_eq_nil_iff, List.any_eq_false] using hc
  simp [State.endAllCtxs, hc, none_of]

theorem State.teardownSge_idle {s : State} {x : Sub} (h : s.idle x) (o : TxnOutcome) : s.teardownSge x o = s.emptyUplink x := by
  obtain ⟨-, ht, -⟩ := h
  simp [State.teardownSge, ht]

theorem State.failText_idle {s : State} {x : Sub} (h : s.idle x) (cause : TextFailCause) : s.failText x cause = s := by
  obtain ⟨-, -, ho⟩ := h
  simp [State.failText, ho]

theorem State.onMobOf_other (x : Sub) (f : MobSub → MobSub) (s : State) : (s.onMobOf x f).mobOf x.other = s.mobOf x.other :=
  PerSub.get_upd_other ..

theorem State.dropPurpose_other (x : Sub) (k : ClaimKind) (s : State) : (s.dropPurpose x k).mobOf x.other = s.mobOf x.other := by
  unfold State.dropPurpose
  split
  · exact State.onMobOf_other ..
  · rfl

theorem State.withdraw_other (x : Sub) (k : ClaimKind) (s : State) : (s.withdraw x k).mobOf x.other = s.mobOf x.other := by
  unfold State.withdraw
  dsimp only
  (repeat' split)
  · rfl
  · simp [State.mobOf, State.onClaim]
  · rw [State.dropPurpose_other]; rfl
  · rw [State.dropPurpose_other]; rfl

theorem State.placeSearch_other (x : Sub) (s : State) : (s.placeSearch x).mobOf x.other = s.mobOf x.other := by
  unfold State.placeSearch State.ask
  (repeat' split)
  · unfold State.trySearch
    dsimp only
    split <;> (have k := congrArg Prod.snd ‹_ = (_, _)›; dsimp only at k; subst k) <;> rw [State.onMobOf_other] <;> simp [State.mobOf]
  · rfl
  · rfl

/-- `x` without its serving cell, its activity written: how the teardown of R24 begins. -/
def State.cellGone (x : Sub) (s : State) : State :=
  (s.onMobOf x fun m => { m with serving := none, lastFreq := ((s.serving x).map (·.freq)).orElse fun _ => m.lastFreq }).writeActivity x .noService

/-- The rest of the teardown where nothing of `x` is under way. -/
def State.claimsGone (x : Sub) (s : State) : State :=
  let s := (((s.emptyUplink x).withdraw x .signalling).withdrawPaging x).onPscOf x PscSub.tornDown
  let s := ((s.withdraw x .measure).withdraw x .beaconRead).withdraw x .handoverAccess
  (s.onMobOf x MobSub.afterLoss).placeSearch x

theorem State.cellGone_idle {s : State} {x : Sub} (h : s.idle x) : (s.cellGone x).idle x :=
  State.idle_congr h (by simp [State.cellGone]) (by rw [State.cellGone, (State.writeActivity_rests ..).txns]; rfl) (by simp [State.cellGone])

theorem State.loseService_idle {s : State} {x : Sub} (h : s.idle x) (hc : (s.activity x).isCampedState = true) :
    s.loseService x = ((((s.cellGone x).claimsGone x).setFilter x false).updateStanding x).clearDue .update x := by
  have gone := State.cellGone_idle h
  have emptied : (((s.cellGone x).emptyUplink x).withdraw x .signalling).idle x :=
    State.idle_congr gone (by simp) (by simp [State.emptyUplink]) (by simp)
  unfold State.loseService
  rw [if_neg (by simp [hc])]
  change State.clearDue _ _ (State.updateStanding _ (State.setFilter _ _ (State.placeSearch _ (State.onMobOf _ _ (State.withdraw _ _ (State.withdraw _ _
    (State.withdraw _ _ (State.onPscOf _ _ (State.withdrawPaging _ (State.failText _ _ (State.withdraw _ _ (State.teardownSge _ _ (State.endAllCtxs _ _
    (s.cellGone x)))))))))))))) = _
  rw [State.endAllCtxs_idle gone, State.teardownSge_idle gone, State.failText_idle emptied]
  rfl

theorem State.withdrawPaging_other (x : Sub) (s : State) : (s.withdrawPaging x).mobOf x.other = s.mobOf x.other :=
  State.withdraw_other x .pagingListen s

theorem State.emptyUplink_other (x : Sub) (s : State) : (s.emptyUplink x).mobOf x.other = s.mobOf x.other := rfl

theorem State.onPscOf_mobOf (x y : Sub) (f : PscSub → PscSub) (s : State) : (s.onPscOf x f).mobOf y = s.mobOf y := rfl

theorem State.claimsGone_other (x : Sub) (s : State) : (s.claimsGone x).mobOf x.other = s.mobOf x.other := by
  unfold State.claimsGone
  dsimp only
  rw [State.placeSearch_other, State.onMobOf_other, State.withdraw_other, State.withdraw_other, State.withdraw_other, State.onPscOf_mobOf,
    State.withdrawPaging_other, State.withdraw_other, State.emptyUplink_other]

/-- What the rest of the teardown keeps. -/
theorem State.claimsGone_keeps (x : Sub) (s : State) : (s.claimsGone x).cal = s.cal ∧ (s.claimsGone x).vcp = s.vcp ∧
    (s.claimsGone x).txt = s.txt ∧ (s.claimsGone x).sbs = s.sbs ∧ (s.claimsGone x).sge.txns = s.sge.txns ∧
    (s.claimsGone x).sge.nextIdent = s.sge.nextIdent ∧ (s.claimsGone x).sge.stray = s.sge.stray ∧
    (s.claimsGone x).sge.waiters = s.sge.waiters := by
  simp [State.claimsGone, State.emptyUplink]

/-- What the loss of the cell itself keeps. -/
theorem State.cellGone_keeps (x : Sub) (s : State) : (s.cellGone x).cal = s.cal ∧ (s.cellGone x).vcp = s.vcp ∧
    (s.cellGone x).txt = s.txt ∧ (s.cellGone x).sge.txns = s.sge.txns ∧ (s.cellGone x).sge.nextIdent = s.sge.nextIdent ∧
    (s.cellGone x).sge.stray = s.sge.stray ∧ (s.sge.waiters = [] → (s.cellGone x).sge.waiters = []) ∧
    (∀ y, (s.record y).sameFacts ((s.cellGone x).record y)) ∧ (s.cellGone x).mobOf x.other = s.mobOf x.other := by
  have wrote := State.writeActivity_rests x .noService
    (s.onMobOf x fun m => { m with serving := none, lastFreq := ((s.serving x).map (·.freq)).orElse fun _ => m.lastFreq })
  have mob : (s.cellGone x).mobOf x.other = s.mobOf x.other := by
    have kept : (s.cellGone x).mob = _ := (State.writeActivity_keeps ..).2.2.2.2.2.2.2.2.1
    unfold State.mobOf
    rw [kept]
    exact State.onMobOf_other ..
  exact ⟨wrote.cal, wrote.vcp, wrote.txt, wrote.txns, wrote.nextIdent, wrote.stray, wrote.waiters, wrote.record, mob⟩

theorem State.eq_other_of_ne {x y : Sub} (h : y ≠ x) : y = x.other := by
  revert h
  cases x <;> cases y <;> decide

/-- What follows the claims in the teardown touches neither calls, texts and transactions nor MOB. -/
theorem State.lossTail_keeps (x : Sub) (s : State) (u : State) (h : u = ((s.setFilter x false).updateStanding x).clearDue .update x) :
    u.cal = s.cal ∧ u.vcp = s.vcp ∧ u.txt = s.txt ∧ u.mob = s.mob ∧ u.sge.txns = s.sge.txns ∧ u.sge.nextIdent = s.sge.nextIdent ∧
      u.sge.stray = s.sge.stray ∧ (s.sge.waiters = [] → u.sge.waiters = []) ∧ ∀ y, (s.record y).sameFacts (u.record y) := by
  have filter := State.setFilter_rests x false s
  have tail := (filter.trans (State.updateStanding_rests x _)).trans (State.clearDue_rests .update x _)
  subst h
  exact ⟨tail.cal, tail.vcp, tail.txt, by simp, tail.txns, tail.nextIdent, tail.stray, tail.waiters, tail.record⟩

/-- The loss of a barred cell, with nothing under way, rests. -/
theorem State.loseService_rests {s : State} {x : Sub} (h : s.idle x) (hb : (s.serving x).any (·.barred) = true) :
    s.Rests (s.loseService x) := by
  have ev : s.Evolves (s.loseService x) := State.loseService_evolves x (.refl s)
  by_cases hc : (s.activity x).isCampedState = true
  · obtain ⟨a1, a2, a3, a4, a5, a6, a7, a8, a9⟩ := s.cellGone_keeps x
    obtain ⟨b1, b2, b3, b4, b5, b6, b7, b8⟩ := (s.cellGone x).claimsGone_keeps x
    obtain ⟨c1, c2, c3, c4, c5, c6, c7, c8, c9⟩ := State.lossTail_keeps x _ _ (State.loseService_idle h hc)
    have mob : (s.loseService x).mobOf x.other = s.mobOf x.other :=
      (congrArg (·.get x.other) c4).trans ((State.claimsGone_other ..).trans a9)
    exact {
      evolves := ev
      cal := c1.trans (b1.trans a1)
      vcp := c2.trans (b2.trans a2)
      txt := c3.trans (b3.trans a3)
      txns := c5.trans (b5.trans a4)
      nextIdent := c6.trans (b6.trans a5)
      stray := c7.trans (b7.trans a6)
      waiters := fun hw => c8 (b8.trans (a7 hw))
      cells := fun y hy => by
        obtain rfl : y = x.other := State.eq_other_of_ne (by rintro rfl; rw [hb] at hy; cases hy)
        exact ⟨congrArg (·.serving) mob, congrArg (·.guard) mob⟩
      record := fun y => by
        have same : ((s.cellGone x).claimsGone x).record y = (s.cellGone x).record y := congrArg (fun b : Sbs => b.recs.get y) b4
        exact (a8 y).trans (same ▸ c9 y) }
  · have e : s.loseService x = s := by simp [State.loseService, hc]
    rw [e]; exact .refl s

/-! ### Settling -/

/-- An activity state derived as CAMPED means that nothing is under way (R20). -/
theorem State.idle_of_derived {s : State} {x : Sub} (h : s.derivedActivity x = .camped) : s.idle x := by
  unfold State.derivedActivity at h
  (repeat' split at h) <;> try cases h
  next hn =>
  simp only [Bool.or_eq_true, Bool.not_eq_true', List.isEmpty_eq_false_iff, not_or, Bool.not_eq_true, Option.isSome_eq_false_iff,
    Option.isNone_iff_eq_none] at hn
  exact ⟨hn.1.2, not_not.1 hn.1.1, hn.2⟩

theorem State.enterCamped_rests {s : State} {x : Sub} (h : s.idle x) : s.Rests (s.enterCamped x) := by
  have filter := State.setFilter_rests x false s
  unfold State.enterCamped
  dsimp only
  split
  · next hb => exact filter.trans (State.loseService_rests (filter.idle h) hb)
  · exact filter.trans ((State.placePaging_rests ..).trans (State.refreshRead_rests ..))

/-- Deriving the activity state anew rests. -/
theorem State.derive_rests (x : Sub) (s : State) : s.Rests (s.derive x) := by
  unfold State.derive
  dsimp only
  refine State.Rests.trans ?_ (State.updateStanding_rests x _)
  by_cases he : s.activity x = s.derivedActivity x
  · simp only [he, if_true]; exact .refl s
  · simp only [he, if_false]
    have wrote := State.writeActivity_rests x (s.derivedActivity x) s
    split
    · next hd => exact wrote.trans (State.enterCamped_rests (wrote.idle (State.idle_of_derived hd)))
    · split
      · exact wrote
      · exact wrote.trans (State.enterBusy_rests ..)
    · split
      · exact wrote
      · exact wrote.trans (State.enterBusy_rests ..)
    · exact wrote
    · exact wrote

theorem State.settleAlone_rests (x : Sub) (s : State) : s.Rests (s.settleAlone x) :=
  (State.derive_rests x s).trans (State.reexamine_rests ..)

/-! ### Owners that try again -/

/-- An offer taken keeps the transactions that are open. -/
theorem State.offer_txns (x : Sub) (o : Offer) (s : State) (i : Nat) (p : Txn) (h : entryAt s.sge.txns i = some p) :
    entryAt (s.offer x o).2.sge.txns i = some p := by
  unfold State.offer
  (repeat' split)
  · exact h
  · next j _ hj =>
    rw [(State.enqueue_table ..).1]
    simp only [State.onSge_sge]
    rw [entryAt_set, if_neg, h]
    rintro ⟨rfl, -⟩
    rw [(lowestFree_some hj).2] at h; cases h
  · rw [(State.enqueue_table ..).1]; exact h

theorem State.offer_settles (x : Sub) (o : Offer) (s : State) : s.Settles (s.offer x o).2 where
  evolves := State.offer_evolves x o (.refl s)
  cal := by simp
  vcp := by simp
  txns := State.offer_txns x o s
  outgoing := fun y hy => by simpa [State.outgoingOf] using hy
  cells := State.keepsCells_of_mob (by simp)

/-- An operation on SBS's records or SGE's waiters alone settles. -/
theorem State.Settles.of {s t : State} (h : s.Evolves t) (cal : t.cal = s.cal) (vcp : t.vcp = s.vcp) (txns : t.sge.txns = s.sge.txns)
    (txt : ∀ x, s.outgoingOf x = none → t.outgoingOf x = none) (mob : t.mob = s.mob) : s.Settles t where
  evolves := h
  cal := cal
  vcp := vcp
  txns := fun i p hp => by rw [txns]; exact hp
  outgoing := txt
  cells := State.keepsCells_of_mob mob

theorem State.pendUpdate_settles (x : Sub) (byPage : Bool) (s : State) : s.Settles (s.pendUpdate x byPage) :=
  .of (by simp) (by simp) (by simp) (by unfold State.pendUpdate State.beginWait; split <;> simp) (by simp [State.outgoingOf]) (by simp)

theorem State.dropUpdate_settles (x : Sub) (s : State) : s.Settles (s.dropUpdate x) :=
  .of (by simp) (by simp) (by simp) (by simp [State.dropUpdate, State.endWait]) (by simp [State.outgoingOf]) (by simp)

theorem State.onRecord_settles (x : Sub) (f : SubRecord → SubRecord) (s : State) : s.Settles (s.onRecord x f) :=
  .of (by simp) rfl rfl rfl (fun _ => id) rfl

theorem State.openUpdate_settles (x : Sub) (byPage : Bool) (s : State) : s.Settles (s.openUpdate x byPage) := by
  unfold State.openUpdate
  split
  · exact .refl s
  · next v _ =>
    have offered := State.offer_settles x (s.areaOffer x v.area) s
    split
    · exact State.pendUpdate_settles ..
    · split <;> (have k := congrArg Prod.snd ‹_ = (_, _)›; dsimp only at k; subst k)
      · exact offered.trans (State.pendUpdate_settles ..)
      · refine (offered.trans (State.dropUpdate_settles x _)).trans (State.onRecord_settles x _ _)

theorem State.retryUpdate_settles (x : Sub) (s : State) : s.Settles (s.retryUpdate x) := by
  unfold State.retryUpdate
  (repeat' split)
  · exact .refl s
  · exact State.openUpdate_settles ..
  · exact State.dropUpdate_settles ..

theorem State.setOutgoing_settles {x : Sub} {s : State} {o : Outgoing} (h : s.outgoingOf x = some o) (q : Option Outgoing) :
    s.Settles (s.setOutgoing x q) := by
  refine .of (by simp) rfl rfl rfl (fun y hy => ?_) rfl
  have e : (s.setOutgoing x q).outgoingOf y = if y = x then q else s.outgoingOf y := PerSub.get_set ..
  rw [e, if_neg, hy]
  rintro rfl
  rw [h] at hy; cases hy

theorem State.endWait_settles (w : WaitKind) (x : Sub) (s : State) : s.Settles (s.endWait w x) :=
  .of (by simp) (by simp) (by simp) (by simp [State.endWait]) (by simp [State.outgoingOf]) (by simp)

theorem State.beginWait_settles (w : WaitKind) (x : Sub) (s : State) : s.Settles (s.beginWait w x) :=
  .of (by simp) (by simp) (by simp) (by unfold State.beginWait; split <;> simp) (by simp [State.outgoingOf]) (by simp)

theorem State.offerSegment_settles (x : Sub) (s : State) : s.Settles (s.offerSegment x).2 := by
  unfold State.offerSegment
  split
  · exact .refl s
  · next o ho =>
    dsimp only
    have offered := State.offer_settles x ⟨some .txt, some .textOut, 0, none,
      .textSeg o.reference o.total o.nextSeq o.destination (o.segments.head?.getD [])⟩ s
    split <;> (have k := congrArg Prod.snd ‹_ = (_, _)›; dsimp only at k; subst k)
    · have still : (s.offer x ⟨some .txt, some .textOut, 0, none,
          .textSeg o.reference o.total o.nextSeq o.destination (o.segments.head?.getD [])⟩).2.outgoingOf x = some o := by
        simpa [State.outgoingOf] using ho
      exact (offered.trans (State.setOutgoing_settles still _)).trans (State.endWait_settles ..)
    · exact offered

theorem State.sendSegment_settles (x : Sub) (s : State) : s.Settles (s.sendSegment x) := by
  have offered := State.offerSegment_settles x s
  unfold State.sendSegment
  split <;> (have k := congrArg Prod.snd ‹_ = (_, _)›; dsimp only at k; subst k)
  · exact offered
  · split
    · exact offered
    · next ho => exact (offered.trans (State.setOutgoing_settles ho _)).trans (State.beginWait_settles ..)

theorem State.tryOnce_settles (w : WaitKind) (x : Sub) (s : State) : s.Settles (s.tryOnce w x) := by
  unfold State.tryOnce
  (repeat' split)
  · exact State.retryUpdate_settles ..
  · exact .refl s
  · exact State.sendSegment_settles ..
  · exact .refl s

theorem State.tryWaiter_settles (hold : Option Sub) (s : State) (e : Waiter) : s.Settles (State.tryWaiter hold s e) := by
  have tried := (State.clearDue_rests e.what e.sub s).settles.trans (State.tryOnce_settles e.what e.sub _)
  unfold State.tryWaiter
  dsimp only
  split
  · exact tried
  · exact tried.trans (State.settleAlone_rests ..).settles

theorem State.tryWaiters_settles (hold : Option Sub) (s : State) : s.Settles (s.tryWaiters hold) :=
  State.Settles.foldl (State.tryWaiter_settles hold) _ (.refl s)

/-- With no owner waiting nobody tries. -/
theorem State.tryWaiters_none {s : State} (h : s.sge.waiters = []) (hold : Option Sub) : s.tryWaiters hold = s := by
  simp [State.tryWaiters, State.dueWaiters, h]

theorem State.settle_settles (x : Sub) (s : State) : s.Settles (s.settle x) := by
  have alone := (State.settleAlone_rests x s).settles
  unfold State.settle
  dsimp only
  split
  · exact alone.trans (State.tryWaiters_settles ..)
  · exact alone

theorem State.settle_rests {s : State} (h : s.sge.waiters = []) (x : Sub) : s.Rests (s.settle x) := by
  have alone := State.settleAlone_rests x s
  unfold State.settle
  dsimp only
  split
  · rw [State.tryWaiters_none (alone.waiters h)]; exact alone
  · exact alone

end Sys2Proof.Machine
end

section
/-! Sitting 1: a good SIGNAL block on its way to SGE, and the end of a transaction. -/

namespace Sys2Proof.Machine

/-! ### The block is noticed (R65, R114) -/

/-- What a good block of the frame `h` held does before SGE is given it. -/
def State.noticed (h : Holder) (s : State) : State := (s.accessNotice h true).noticeTraffic h

theorem State.noticed_unit (h : Holder) (s : State) : (s.noticed h).rta = { s.rta with
    unit := if h.kind = .handoverAccess then s.rta.unit.map fun u =>
      if u.sub = h.sub ∧ u.kind = h.kind ∧ u.first = h.unitFirst then { u with goodNotice := true } else u else s.rta.unit } := by
  have traffic (u : State) : (u.noticeTraffic h).rta = u.rta := by unfold State.noticeTraffic; split <;> rfl
  unfold State.noticed
  rw [traffic]
  unfold State.accessNotice
  by_cases hk : h.kind = .handoverAccess
  · simp [hk, and_assoc]
  · simp [hk]

theorem State.onMobOf_mobOf (x y : Sub) (f : MobSub → MobSub) (s : State) :
    (s.onMobOf x f).mobOf y = if y = x then f (s.mobOf y) else s.mobOf y := PerSub.get_upd ..

theorem State.noticed_mobOf (h : Holder) (s : State) (x : Sub) : (s.noticed h).mobOf x =
    if x = h.sub ∧ h.kind = .traffic ∧ (s.mobOf x).hoState = .returnCheck then { s.mobOf x with hoState := .none, returnCounter := 0 }
    else s.mobOf x := by
  have access : (s.accessNotice h true).mobOf x = s.mobOf x := by unfold State.accessNotice; split <;> rfl
  unfold State.noticed State.noticeTraffic State.trafficNotice
  by_cases hk : h.kind = .traffic
  · simp only [hk, beq_self_eq_true, if_true, true_and, State.onMobOf_mobOf, access, beq_iff_eq]
    by_cases hx : x = h.sub <;> simp [hx]
  · simp [hk, access]

theorem State.noticed_rest (h : Holder) (s : State) : s.noticed h = { s with rta := (s.noticed h).rta, mob := (s.noticed h).mob } := by
  unfold State.noticed State.noticeTraffic State.trafficNotice State.accessNotice
  (repeat' split) <;> rfl

/-! ### The idle timers of links restart (R3, R14) -/

/-- A transaction once a good block of its subscription has come: the idle timer of a LINKED LINK is set back. -/
def Txn.linkHeard (x : Sub) (p : Txn) : Txn :=
  if p.sub == x && p.kind == .link && p.state == .linked then { p with idle := some Config.linkIdleTime } else p

theorem State.restartLinkIdle_sge (x : Sub) (s : State) :
    (s.restartLinkIdle x).sge = { s.sge with txns := s.sge.txns.map (Option.map (Txn.linkHeard x)) } := rfl

theorem Txn.linkHeard_eq (x : Sub) (p : Txn) : p.linkHeard x = { p with idle := (p.linkHeard x).idle } := by
  unfold Txn.linkHeard; split <;> rfl

theorem Txn.linkHeard_matchedBy (x : Sub) (p : Txn) (code : Nat) : (p.linkHeard x).matchedBy code = p.matchedBy code := by
  rw [Txn.linkHeard_eq]; rfl

theorem takenFrom_map {α : Type} (f : α → α) (n : Nat) (l : List (Option α)) :
    takenFrom n (l.map (Option.map f)) = (takenFrom n l).map fun e => (e.1, f e.2) := by
  induction l generalizing n with
  | nil => rfl
  | cons e l ih => cases e <;> simp [takenFrom, ih]

theorem State.txnBy_restartLinkIdle (s : State) (x y : Sub) (ident : Ident) :
    (s.restartLinkIdle x).txnBy y ident = (s.txnBy y ident).map fun e => (e.1, e.2.linkHeard x) := by
  have sub (p : Txn) : (p.linkHeard x).sub = p.sub := by rw [Txn.linkHeard_eq]
  have id (p : Txn) : (p.linkHeard x).ident = p.ident := by rw [Txn.linkHeard_eq]
  simp only [State.txnBy, State.txnsOf, State.openTxns, State.restartLinkIdle_sge, taken, takenFrom_map, List.filter_map, List.find?_map,
    Function.comp_def, sub, id]

/-! ### The row of a heard block -/

theorem signalBlock_heard {s : State} {frame : Frame} {b : SignalBlock} {h : Holder} (hh : s.hears frame h b) :
    exec (.signalBlock frame true b) s = s.answer (((s.noticed h).sgeTakes h.sub b).route h.sub frame b) := by
  obtain ⟨holder, kind, filter, ok, -⟩ := hh
  have expects : expected h.kind .signal = true := by rcases kind with k | k | k <;> rw [k] <;> rfl
  have passes : (s.accessNotice h true).filterPasses h.sub .signal = true := by
    have e : (s.accessNotice h true).dlc = s.dlc := by unfold State.accessNotice; split <;> rfl
    simpa [State.filterPasses, e] using filter
  show s.answer _ = _
  simp [State.classify, holder, ok, expects, passes, State.signalDelivered, State.noticed]

/-- A code below 16 goes to SGE alone (R61, R63). -/
theorem route_own {s : State} (hc : s.consumeOk) (x : Sub) (frame : Frame) (b : SignalBlock) (hb : b.code < 16) : s.route x frame b = s := by
  have e : s.dlc.routes[b.code]? = some .consume := by
    have k : (s.dlc.routes.take 16)[b.code]? = s.dlc.routes[b.code]? := List.getElem?_take_of_lt hb
    rw [← k, show s.dlc.routes.take 16 = _ from hc, List.getElem?_replicate, if_pos hb]
  simp [State.route, e]

theorem signalBlock_own {s : State} {frame : Frame} {b : SignalBlock} {h : Holder} (hh : s.hears frame h b) (hb : b.code < 16) :
    exec (.signalBlock frame true b) s = s.answer ((s.noticed h).sgeTakes h.sub b) := by
  rw [signalBlock_heard hh]
  obtain ⟨-, -, -, -, consume⟩ := hh
  have ev : s.Evolves ((s.noticed h).sgeTakes h.sub b) :=
    State.sgeTakes_evolves _ _ (State.noticeTraffic_evolves _ (State.accessNotice_evolves _ _ (.refl s)))
  rw [route_own (ev.admits.consume consume) _ _ _ hb]

/-- The answer codes of chapter 1 reach the matching. -/
theorem State.sgeTakes_answer (s : State) (x : Sub) (b : SignalBlock) (hb : b.code ∈ [0, 2, 3, 4, 5, 6, 7, 11, 13, 14, 15]) :
    s.sgeTakes x b = (s.restartLinkIdle x).answerCode x b := by
  unfold State.sgeTakes
  simp only [List.mem_cons, List.not_mem_nil, or_false] at hb
  rcases hb with h | h | h | h | h | h | h | h | h | h | h <;> simp [h]

/-! ### What the matching makes of the table -/

section Matching
variable {s : State} {x : Sub} {b : SignalBlock}

/-- An answer that matches nothing is counted as stray (R11). -/
theorem State.answerCode_stray (h : ∀ i p, s.txnBy x (BitVec.ofNat 4 b.ident) = some (i, p) → p.matchedBy b.code = false) :
    s.answerCode x b = s.countStray := by
  unfold State.answerCode
  split
  · rfl
  · next i p e => rw [if_neg (by rw [h i p e]; exact Bool.false_ne_true)]

theorem State.answerCode_matched {i : Nat} {p : Txn} (h : s.txnBy x (BitVec.ofNat 4 b.ident) = some (i, p)) (hm : p.matchedBy b.code = true) :
    s.answerCode x b = s.answered i p b := by
  simp [State.answerCode, h, hm]

end Matching

theorem satInc_255 (n : Nat) : satInc 255 n = if n < 255 then n + 1 else 255 := rfl

/-- What part 1 of O12 needs of the state after the block: SGE's part apart, only MOB and the unit were noticed. -/
theorem signalBlock_noticed {s u : State} {frame : Frame} {b : SignalBlock} {h : Holder} (hh : s.hears frame h b) (hb : b.code < 16)
    (hu : (s.noticed h).sgeTakes h.sub b = u) (rest : u = { s.noticed h with sge := u.sge }) :
    ∃ t, exec (.signalBlock frame true b) s = .next t ∧ t.sge = u.sge ∧
      ({ s with sge := t.sge, mob := t.mob, rta := { s.rta with unit := t.rta.unit } } : State).agrees t ∧
      t.mobOf h.sub.other = s.mobOf h.sub.other ∧
      t.mobOf h.sub = (if h.kind = .traffic ∧ (s.mobOf h.sub).hoState = .returnCheck then
        { s.mobOf h.sub with hoState := .none, returnCounter := 0 } else s.mobOf h.sub) ∧
      t.rta.unit = (if h.kind = .handoverAccess then s.rta.unit.map fun u =>
        if u.sub = h.sub ∧ u.kind = h.kind ∧ u.first = h.unitFirst then { u with goodNotice := true } else u else s.rta.unit) := by
  have noticed := State.noticed_rest h s
  have sbs : u.sbs = s.sbs := by rw [rest]; show (s.noticed h).sbs = s.sbs; rw [noticed]
  have agrees := State.finish_agrees (before := s) (after := u) sbs
  obtain ⟨⟨-, -, -, -, rta, -, sge, -, -, -, mob, -⟩, -⟩ := id agrees
  have umob : u.mob = (s.noticed h).mob := by rw [rest]
  have urta : u.rta = (s.noticed h).rta := by rw [rest]
  refine ⟨s.finish u, by rw [signalBlock_own hh hb, hu]; rfl, sge, ?_, ?_, ?_, ?_⟩
  · have same : ({ s with sge := u.sge, mob := u.mob, rta := { s.rta with unit := u.rta.unit } } : State) = u := by
      have unit := State.noticed_unit h s
      rw [rest, noticed, unit]
    rw [sge, mob, rta, same]
    exact agrees
  · have e : (s.finish u).mobOf h.sub.other = (s.noticed h).mobOf h.sub.other := by unfold State.mobOf; rw [mob, umob]
    rw [e, State.noticed_mobOf, if_neg fun k => other_ne _ k.1]
  · have e : (s.finish u).mobOf h.sub = (s.noticed h).mobOf h.sub := by unfold State.mobOf; rw [mob, umob]
    rw [e, State.noticed_mobOf]
    simp
  · rw [rta, urta, State.noticed_unit]

/-- The first part of O12. -/
theorem signalBlock_matching {s : State} {frame : Frame} {b : SignalBlock} {h : Holder} (hh : s.hears frame h b)
    (hb : b.code ∈ [0, 2, 3, 4, 5, 6, 7, 11, 13, 14, 15])
    (hm : (∀ i p, s.txnBy h.sub (BitVec.ofNat 4 b.ident) = some (i, p) → p.matchedBy b.code = false) ∨
      ∃ i p, b.code = 0 ∧ s.txnBy h.sub (BitVec.ofNat 4 b.ident) = some (i, p) ∧ p.kind = .link ∧ (p.state = .sent ∨ p.state = .linked)) :
    ∃ t, exec (.signalBlock frame true b) s = .next t ∧
      ({ s with sge := t.sge, mob := t.mob, rta := { s.rta with unit := t.rta.unit } } : State).agrees t ∧
      t.mobOf h.sub.other = s.mobOf h.sub.other ∧
      t.mobOf h.sub = (if h.kind = .traffic ∧ (s.mobOf h.sub).hoState = .returnCheck then
        { s.mobOf h.sub with hoState := .none, returnCounter := 0 } else s.mobOf h.sub) ∧
      t.rta.unit = (if h.kind = .handoverAccess then s.rta.unit.map fun u =>
        if u.sub = h.sub ∧ u.kind = h.kind ∧ u.first = h.unitFirst then { u with goodNotice := true } else u else s.rta.unit) ∧
      ((∀ i p, s.txnBy h.sub (BitVec.ofNat 4 b.ident) = some (i, p) → p.matchedBy b.code = false) →
        t.sge = { (s.restartLinkIdle h.sub).sge with stray := if s.sge.stray < 255 then s.sge.stray + 1 else 255 }) ∧
      ∀ i p, b.code = 0 → s.txnBy h.sub (BitVec.ofNat 4 b.ident) = some (i, p) → p.kind = .link → (p.state = .sent ∨ p.state = .linked) →
        entryAt t.sge.txns i = some { p with state := .linked, answer := none, idle := some 1024 } ∧
        t.sge = { s.sge with txns := t.sge.txns } ∧
        ∀ j, j ≠ i → entryAt t.sge.txns j = entryAt (s.restartLinkIdle h.sub).sge.txns j := by
  have low : b.code < 16 := by
    simp only [List.mem_cons, List.not_mem_nil, or_false] at hb; omega
  have matched (p : Txn) (h0 : b.code = 0) (hk : p.kind = .link) (hs : p.state = .sent ∨ p.state = .linked) : p.matchedBy b.code = true := by
    unfold Txn.matchedBy; rcases hs with e | e <;> simp [e, h0, hk, answersKind]
  have sge : (s.noticed h).sge = s.sge := by rw [State.noticed_rest]
  have found (y : Sub) (ident : Ident) : ((s.noticed h).restartLinkIdle h.sub).txnBy y ident =
      (s.txnBy y ident).map fun e => (e.1, e.2.linkHeard h.sub) :=
    (State.txnBy_restartLinkIdle ..).trans (congrArg _ (State.txnBy_congr (congrArg Sge.txns sge) ..))
  have takes := State.sgeTakes_answer (s.noticed h) h.sub b hb
  cases hm with
  | inl hn =>
    have stray := State.answerCode_stray (s := (s.noticed h).restartLinkIdle h.sub) (x := h.sub) (b := b) fun i p e => by
      rw [found] at e
      obtain ⟨q, hq, e⟩ := Option.map_eq_some_iff.1 e
      cases e
      rw [Txn.linkHeard_matchedBy]; exact hn _ _ hq
    obtain ⟨t, e, tsge, agrees⟩ := signalBlock_noticed hh low (takes.trans stray) rfl
    refine ⟨t, e, agrees.1, agrees.2.1, agrees.2.2.1, agrees.2.2.2, fun _ => ?_, fun i p h0 hp hk hs => ?_⟩
    · rw [tsge]
      show { ((s.noticed h).restartLinkIdle h.sub).sge with stray := satInc 255 ((s.noticed h).restartLinkIdle h.sub).sge.stray } = _
      rw [State.restartLinkIdle_sge, State.restartLinkIdle_sge, sge]; rfl
    · exact absurd (hn i p hp) (by rw [matched p h0 hk hs]; exact Bool.noConfusion)
  | inr hl =>
    obtain ⟨i, p, h0, hp, hk, hs⟩ := hl
    have granted : (s.noticed h).sgeTakes h.sub b = ((s.noticed h).restartLinkIdle h.sub).linkGranted i := by
      rw [takes, State.answerCode_matched ((found ..).trans (congrArg _ hp)) ((Txn.linkHeard_matchedBy ..).trans (matched p h0 hk hs))]
      simp [State.answered, h0]
    obtain ⟨t, e, tsge, agrees⟩ := signalBlock_noticed hh low granted rfl
    have entries (j : Nat) : entryAt t.sge.txns j = if i = j then (entryAt (s.restartLinkIdle h.sub).sge.txns j).map fun q =>
        { q with state := .linked, answer := none, idle := some 1024 } else entryAt (s.restartLinkIdle h.sub).sge.txns j := by
      rw [tsge]
      have := entryAt_modify_map (fun q : Txn => { q with state := .linked, answer := none, idle := some 1024 })
        (s.restartLinkIdle h.sub).sge.txns i j
      rw [← this]
      show entryAt (((s.noticed h).restartLinkIdle h.sub).sge.txns.modify i _) j = _
      rw [State.restartLinkIdle_sge, State.restartLinkIdle_sge, sge]; rfl
    refine ⟨t, e, agrees.1, agrees.2.1, agrees.2.2.1, agrees.2.2.2, fun hn => ?_, fun i' p' _ hp' _ _ => ?_⟩
    · exact absurd (hn i p hp) (by rw [matched p h0 hk hs]; exact Bool.noConfusion)
    · cases hp.symm.trans hp'
      refine ⟨?_, ?_, fun j hj => by rw [entries, if_neg (Ne.symm hj)]⟩
      · rw [entries, if_pos rfl, State.restartLinkIdle_sge]
        simp only [entryAt_map, (State.txnBy_some hp).1, Option.map_some]
        rw [Txn.linkHeard_eq]
      · rw [tsge]
        have base : ((s.noticed h).restartLinkIdle h.sub).sge = { s.sge with txns := ((s.noticed h).restartLinkIdle h.sub).sge.txns } := by
          rw [State.restartLinkIdle_sge, sge]
        have table (u : State) : (u.linkGranted i).sge = { u.sge with txns := (u.linkGranted i).sge.txns } := rfl
        exact (table _).trans (by rw [base])

/-! ### The end of a transaction (R5) -/

/-- The entry of a transaction that ends is freed; the rest of the table and what is counted stay. -/
theorem State.freeTxn_table {s : State} {i : Nat} {p : Txn} (h : entryAt s.sge.txns i = some p) :
    (s.freeTxn i).sge.txns = s.sge.txns.set i none ∧ (s.freeTxn i).sge.nextIdent = s.sge.nextIdent ∧
      (s.freeTxn i).sge.stray = s.sge.stray ∧ (s.sge.waiters = [] → (s.freeTxn i).sge.waiters = []) := by
  have drop (u : State) (x : Sub) (pos : Nat) : (u.dropQueued x pos).sge.txns = u.sge.txns ∧
      (u.dropQueued x pos).sge.nextIdent = u.sge.nextIdent ∧ (u.dropQueued x pos).sge.stray = u.sge.stray ∧
      (u.sge.waiters = [] → (u.dropQueued x pos).sge.waiters = []) := by
    refine ⟨u.dropQueued_txns x pos, by rw [State.dropQueued_sge], by rw [State.dropQueued_sge], fun hw => ?_⟩
    unfold State.dropQueued
    (repeat' split) <;> simp [State.markWaiters, hw]
  have remove (u : State) (x : Sub) (ident : Ident) : (u.removeMessage x ident).sge.txns = u.sge.txns ∧
      (u.removeMessage x ident).sge.nextIdent = u.sge.nextIdent ∧ (u.removeMessage x ident).sge.stray = u.sge.stray ∧
      (u.sge.waiters = [] → (u.removeMessage x ident).sge.waiters = []) := by
    unfold State.removeMessage
    dsimp only
    split
    · exact ⟨rfl, rfl, rfl, id⟩
    · exact drop ..
  obtain ⟨txns, nextIdent, stray, waiters⟩ := remove (s.onSge fun g => { g with txns := g.txns.set i none }) p.sub p.ident
  have e : s.freeTxn i = ((s.onSge fun g => { g with txns := g.txns.set i none }).removeMessage p.sub p.ident).markWaiters fun _ => true := by
    simp [State.freeTxn, h]
  rw [e]
  exact ⟨txns, nextIdent, stray, fun hw => by simp [State.markWaiters, waiters hw]⟩

theorem State.freeTxn_gone {s : State} {i : Nat} {p : Txn} (h : entryAt s.sge.txns i = some p) : entryAt (s.freeTxn i).sge.txns i = none := by
  rw [(State.freeTxn_table h).1]; exact entryAt_set_none ..

theorem State.endTxnWith_eq {s : State} {i : Nat} {p : Txn} (h : entryAt s.sge.txns i = some p) (o : TxnOutcome)
    (accept : Option (Nat × Option AliasValue)) : s.endTxnWith i o accept =
      ((((s.freeTxn i).tellOwner p o accept).tryWaiters (some p.sub)).settle p.sub) := by
  simp [State.endTxnWith, h]

/-- After its owner has been told, the end of a transaction settles. -/
theorem State.endTxn_settles {s : State} {i : Nat} {p : Txn} (h : entryAt s.sge.txns i = some p) (o : TxnOutcome) :
    ((s.freeTxn i).tellOwner p o none).Settles (s.endTxn i o) := by
  rw [State.endTxn, State.endTxnWith_eq h]
  exact (State.tryWaiters_settles ..).trans (State.settle_settles ..)

/-- Where nobody waits, it rests. -/
theorem State.endTxn_rests {s : State} {i : Nat} {p : Txn} (h : entryAt s.sge.txns i = some p) (o : TxnOutcome)
    (hw : ((s.freeTxn i).tellOwner p o none).sge.waiters = []) : ((s.freeTxn i).tellOwner p o none).Rests (s.endTxn i o) := by
  rw [State.endTxn, State.endTxnWith_eq h, State.tryWaiters_none hw]
  exact State.settle_rests hw _

/-- A report joins the queue while there is a place (R168). -/
theorem State.report_mem {s : State} (h : s.hlc.queue.length < 32) (r : Report) : ⟨.report r, false, false⟩ ∈ (s.report r).hlc.queue := by
  cases s.offerEntry_spec ⟨.report r, false, false⟩ with
  | inl e => rw [show (s.report r).hlc = _ from e.2]; simp
  | inr e => omega

/-- What stands in the host-bound queue stays there through the part's own work. -/
theorem State.Evolves.mem_queue {s t : State} (h : s.Evolves t) {e : HostEntry} (k : e ∈ s.hlc.queue) : e ∈ t.hlc.queue := by
  obtain ⟨-, -, -, queue, -⟩ := h.hlc
  exact queue.subset k

/-! ### A refusal (R3, R11, R16) -/

/-- What the owners of a LINK, PASS or MEAS_REPORT do at its end leaves SGE alone. -/
theorem State.tellOwner_sge {p : Txn} (h : p.kind = .link ∨ p.kind = .pass ∨ p.kind = .measReport) (o : TxnOutcome) (s : State) :
    (s.tellOwner p o none).sge = s.sge := by
  unfold State.tellOwner
  rcases h with k | k | k <;> rw [k]
  · unfold State.linkEnded; dsimp only; split <;> simp
  · simp
  · unfold State.reportEndedTxn; dsimp only; split <;> simp

/-- The second part of O12: a REFUSAL ends the transaction it answers, and its owner is told. -/
theorem signalBlock_refusal {s : State} {frame : Frame} {b : SignalBlock} {h : Holder} {i : Nat} {p : Txn} (hh : s.hears frame h b)
    (hb : b.code = 15) (hp : s.txnBy h.sub (BitVec.ofNat 4 b.ident) = some (i, p)) (hs : p.state = .sent ∨ p.state = .linked)
    (hk : p.kind = .link ∨ p.kind = .pass ∨ p.kind = .measReport) (hw : s.sge.waiters = []) :
    ∃ t, exec (.signalBlock frame true b) s = .next t ∧ entryAt t.sge.txns i = none ∧ t.sge.stray = s.sge.stray ∧
      (p.kind = .link → s.hlc.queue.length < 32 →
        ⟨.report (.missedPage h.sub (p.reason.getD .call) .noLink none (some (firstItem b.errors))), false, false⟩ ∈ t.hlc.queue) ∧
      (p.kind = .pass → s.hlc.queue.length < 32 →
        ⟨.report (.passOutcome h.sub (BitVec.ofNat 4 b.ident) (.refused (firstItem b.errors))), false, false⟩ ∈ t.hlc.queue) ∧
      (p.kind = .measReport → (s.serving h.sub).any (·.barred) = false → (t.mobOf h.sub).guard = (s.mobOf h.sub).params.ttt) := by
  obtain ⟨entry, psub, pident⟩ := State.txnBy_some hp
  let u := (s.noticed h).restartLinkIdle h.sub
  let q := p.linkHeard h.sub
  have noticed := State.noticed_rest h s
  have found : u.txnBy h.sub (BitVec.ofNat 4 b.ident) = some (i, q) := by
    rw [State.txnBy_restartLinkIdle, State.txnBy_congr (s := s) (by rw [noticed]), hp]; rfl
  have hq : entryAt u.sge.txns i = some q := (State.txnBy_some found).1
  have qeq : q = { p with idle := q.idle } := Txn.linkHeard_eq ..
  have matched : q.matchedBy b.code = true := by
    rw [show q.matchedBy b.code = p.matchedBy b.code from Txn.linkHeard_matchedBy ..]
    unfold Txn.matchedBy; rcases hs with e | e <;> simp [e, hb]
  have takes : (s.noticed h).sgeTakes h.sub b = u.endTxn i (.refused (firstItem b.errors)) := by
    rw [State.sgeTakes_answer _ _ _ (by simp [hb]), State.answerCode_matched found matched]
    simp [State.answered, hb]
  let told := (u.freeTxn i).tellOwner q (.refused (firstItem b.errors)) none
  have qk : q.kind = .link ∨ q.kind = .pass ∨ q.kind = .measReport := by rw [qeq]; exact hk
  have sge : told.sge = (u.freeTxn i).sge := State.tellOwner_sge qk _ _
  obtain ⟨-, -, stray, waiters⟩ := State.freeTxn_table hq
  have uw : u.sge.waiters = [] := by show (s.noticed h).sge.waiters = []; rw [noticed]; exact hw
  have ends := State.endTxn_rests hq (.refused (firstItem b.errors)) (by rw [sge]; exact waiters uw)
  obtain ⟨-, -, -, -, -, -, fsge, -, -, -, fmob, -⟩ := State.finish_agreesButSleep s (u.endTxn i (.refused (firstItem b.errors)))
  have queue : told.Evolves (s.finish (u.endTxn i (.refused (firstItem b.errors)))) := State.finish_evolves _ ends.evolves
  have uhlc : (u.freeTxn i).hlc = s.hlc := by
    rw [show (u.freeTxn i).hlc = u.hlc by simp]; show (s.noticed h).hlc = s.hlc; rw [noticed]
  refine ⟨_, by rw [signalBlock_own hh (by omega), takes]; rfl, ?_, ?_, fun k room => ?_, fun k room => ?_, fun k unbarred => ?_⟩
  · rw [fsge, ends.txns, sge]; exact State.freeTxn_gone hq
  · rw [fsge, ends.stray, sge, stray]; show (s.noticed h).sge.stray = _; rw [noticed]
  · refine queue.mem_queue ?_
    have e : told = (u.freeTxn i).report (.missedPage h.sub (p.reason.getD .call) .noLink none (some (firstItem b.errors))) := by
      show State.tellOwner q _ none _ = _
      rw [qeq]; simp [State.tellOwner, k, State.linkEnded, psub]
    rw [e]; exact State.report_mem (by rw [uhlc]; exact room) _
  · refine queue.mem_queue ?_
    have e : told = (u.freeTxn i).report (.passOutcome h.sub (BitVec.ofNat 4 b.ident) (.refused (firstItem b.errors))) := by
      show State.tellOwner q _ none _ = _
      rw [qeq]; simp [State.tellOwner, k, State.passOutcome, psub, pident, TxnOutcome.ok]
    rw [e]; exact State.report_mem (by rw [uhlc]; exact room) _
  · have e : told = (u.freeTxn i).onMobOf h.sub fun m => { m with guard := m.params.ttt } := by
      show State.tellOwner q _ none _ = _
      rw [qeq]; simp [State.tellOwner, k, State.reportEndedTxn, psub]
    have mob : (u.freeTxn i).mobOf h.sub = (s.noticed h).mobOf h.sub := by unfold State.mobOf; simp [u]
    have now : told.mobOf h.sub = { (s.noticed h).mobOf h.sub with guard := (s.mobOf h.sub).params.ttt } := by
      rw [e, State.onMobOf_mobOf, if_pos rfl, mob, State.noticed_mobOf]
      split <;> rfl
    have serving : told.serving h.sub = s.serving h.sub := by
      unfold State.serving; rw [now, State.noticed_mobOf]; split <;> rfl
    have guard := (ends.cells h.sub (by rw [serving]; exact unbarred)).2
    have final : (s.finish (u.endTxn i (.refused (firstItem b.errors)))).mobOf h.sub = (u.endTxn i (.refused (firstItem b.errors))).mobOf h.sub := by
      unfold State.mobOf; rw [fmob]
    rw [final, guard]
    show (told.mobOf h.sub).guard = _
    rw [now]

/-- Settles O12: the matching by `signalBlock_matching`, the refusal by `signalBlock_refusal`. -/
theorem answersAreMatched : Obligations.AnswersAreMatched :=
  ⟨fun _ _ _ _ hh hb hm => signalBlock_matching hh hb hm, fun _ _ _ _ _ _ hh hb hp hs hk _ hw => signalBlock_refusal hh hb hp hs hk hw⟩

end Sys2Proof.Machine
end

section
/-! Sitting 1: settling a subscription whose activity state stays as it is, or becomes ATTENDED or IN_CALL, and UP_SIGNAL (O18). -/

namespace Sys2Proof.Machine

/-! ### Free claim entries -/

theorem lowestFree_ne_none_iff {α : Type} (l : List (Option α)) : lowestFree l ≠ none ↔ ∃ i, i < l.length ∧ entryAt l i = none := by
  constructor
  · intro h
    obtain ⟨i, hi⟩ := Option.ne_none_iff_exists'.1 h
    exact ⟨i, lowestFree_some hi⟩
  · rintro ⟨i, hi, hn⟩ h
    have e : l[i] = none := by
      have k : l[i]? = some l[i] := List.getElem?_eq_getElem hi
      cases hc : l[i] with
      | none => rfl
      | some v => simp [entryAt, k, hc] at hn
    exact lowestFree_none h l[i] (List.getElem_mem hi) e

/-- A table whose free entries stay free keeps its room. -/
theorem State.room_of {s t : State} (len : t.rta.claims.length = s.rta.claims.length)
    (h : ∀ j, entryAt s.rta.claims j = none → entryAt t.rta.claims j = none) (k : lowestFree s.rta.claims ≠ none) :
    lowestFree t.rta.claims ≠ none := by
  obtain ⟨i, hi, hn⟩ := (lowestFree_ne_none_iff _).1 k
  exact (lowestFree_ne_none_iff _).2 ⟨i, len ▸ hi, h i hn⟩

theorem State.withdraw_room (s : State) (x : Sub) (k : ClaimKind) (h : lowestFree s.rta.claims ≠ none) :
    lowestFree (s.withdraw x k).rta.claims ≠ none := by
  obtain ⟨-, -, -, len, -⟩ := (State.withdraw_evolves x k (.refl s)).rta
  refine State.room_of len (fun j hj => ?_) h
  rw [State.withdraw_entry]
  split
  · exact hj
  · next e he =>
    obtain ⟨hc, -, -⟩ := State.claimOf_some he
    rw [if_neg, hj]
    rintro rfl
    rw [hc] at hj; cases hj

/-- A claim placed again takes no entry. -/
theorem State.place_room {s : State} {x : Sub} {k : ClaimKind} {e : Nat × Claim} (he : s.claimOf x k = some e) (w : Window)
    (h : lowestFree s.rta.claims ≠ none) : lowestFree (s.place x k w).2.rta.claims ≠ none := by
  obtain ⟨-, -, -, len, -⟩ := (State.place_evolves x k w (.refl s)).rta
  obtain ⟨hc, -, -⟩ := State.claimOf_some he
  refine State.room_of len (fun j hj => ?_) h
  rw [State.place_entry, he]
  dsimp only
  rw [if_neg, hj]
  rintro rfl
  rw [hc] at hj; cases hj

/-! ### Entering ATTENDED or IN_CALL touches the claims of PAGING_LISTEN and MEASURE alone -/

theorem State.withRelax_claims (x : Sub) (f : PscSub → PscSub) (s : State) :
    (s.claimsOk → ∀ y k, k ≠ .measure → (s.withRelax x f).claimOf y k = s.claimOf y k) ∧
      (lowestFree s.rta.claims ≠ none → lowestFree (s.withRelax x f).rta.claims ≠ none) := by
  have same : (s.onPscOf x f).rta = s.rta := rfl
  unfold State.withRelax
  dsimp only
  split
  · unfold State.replaceMeasure
    (repeat' split)
    · exact ⟨fun _ _ _ _ => rfl, id⟩
    · exact ⟨fun _ _ _ _ => rfl, id⟩
    · next e he _ =>
      exact ⟨fun h y k hk => State.claimOf_place_other (s := s.onPscOf x f) _ h (.inr hk), fun h => State.place_room he _ h⟩
  · exact ⟨fun _ _ _ _ => rfl, id⟩

theorem State.enterBusy_claims (x : Sub) (s : State) :
    (s.claimsOk → ∀ y k, k ≠ .pagingListen → k ≠ .measure → (s.enterBusy x).claimOf y k = s.claimOf y k) ∧
      (lowestFree s.rta.claims ≠ none → lowestFree (s.enterBusy x).rta.claims ≠ none) := by
  have relax := State.withRelax_claims x (fun p => { p with relaxCount := 0 }) ((s.setFilter x true).withdrawPaging x)
  refine ⟨fun h y k hp hm => ?_, fun h => relax.2 (State.withdraw_room (s.setFilter x true) x .pagingListen h)⟩
  exact (relax.1 (State.withdraw_claimsOk (s := s.setFilter x true) h) y k hm).trans
    (State.claimOf_withdraw_other (s := s.setFilter x true) h (.inr hp))

/-! ### What settling does then -/

/-- The activity state of `x` stays, or becomes ATTENDED or IN_CALL from a state without a call. -/
def State.keepsBusy (s : State) (x : Sub) : Prop :=
  s.activity x = s.derivedActivity x ∨ ((s.derivedActivity x).isBusy = true ∧ s.activity x ≠ .inCall)

/-- What settling `x` does then: SGE's part and the results stay, and no claim but those of PAGING_LISTEN and MEASURE changes. -/
structure State.Tidies (x : Sub) (s t : State) : Prop where
  rests : s.Rests t
  sge : t.sge = s.sge
  results : t.hlc.results = s.hlc.results
  claims : s.claimsOk → ∀ y k, k ≠ .pagingListen → k ≠ .measure → t.claimOf y k = s.claimOf y k
  room : lowestFree s.rta.claims ≠ none → lowestFree t.rta.claims ≠ none
  activity : t.activity x = s.derivedActivity x

theorem State.updateStanding_activity (x y : Sub) (s : State) : (s.updateStanding x).activity y = s.activity y := by
  have e (t : State) (r : Report) : (t.reportWake r).activity y = t.activity y := by simp [State.activity, State.record]
  have w (v : Standing) : (s.onRecord x fun r => { r with standing := v }).activity y = s.activity y := by
    have g : (s.onRecord x fun r => { r with standing := v }).record y = if y = x then { s.record y with standing := v } else s.record y :=
      PerSub.get_upd ..
    unfold State.activity
    rw [g]; split <;> rfl
  unfold State.updateStanding
  dsimp only
  split
  · rfl
  · rw [e, w]

theorem State.updateStanding_results (x : Sub) (s : State) : (s.updateStanding x).hlc.results = s.hlc.results := by
  have e (t : State) (r : Report) : (t.reportWake r).hlc.results = t.hlc.results := by
    cases t.offerEntry_spec ⟨.report r, true, false⟩ with
    | inl k => rw [show (t.reportWake r).hlc = _ from k.2]
    | inr k => rw [show (t.reportWake r).hlc = _ from k.2]
  unfold State.updateStanding
  dsimp only
  split
  · rfl
  · rw [e]; rfl

theorem State.updateStanding_tidies {x : Sub} {s t : State} (h : s.Tidies x t) : s.Tidies x (t.updateStanding x) where
  rests := h.rests.trans (State.updateStanding_rests ..)
  sge := by rw [(State.updateStanding_keeps ..).2.2.2.2.2.2.2.1, h.sge]
  results := (State.updateStanding_results ..).trans h.results
  claims := fun hc y k hp hm => by
    rw [← h.claims hc y k hp hm]
    unfold State.claimOf; simp
  room := fun hr => by simpa using h.room hr
  activity := (State.updateStanding_activity ..).trans h.activity

theorem State.derive_same {x : Sub} {s : State} (h : s.activity x = s.derivedActivity x) : s.derive x = s.updateStanding x := by
  simp [State.derive, h]

/-- The activity state written, where no call ends with it. -/
theorem State.writeActivity_plain {x : Sub} {s : State} (h : s.activity x ≠ .inCall) (a : Activity) :
    s.writeActivity x a = s.onRecord x fun r => { r with activity := a } := by
  simp [State.writeActivity, h]

theorem State.derive_busy {x : Sub} {s : State} (hb : (s.derivedActivity x).isBusy = true) (hn : s.activity x ≠ .inCall)
    (hne : s.activity x ≠ s.derivedActivity x) : s.derive x =
      (if (s.activity x).isBusy then s.onRecord x fun r => { r with activity := s.derivedActivity x }
        else (s.onRecord x fun r => { r with activity := s.derivedActivity x }).enterBusy x).updateStanding x := by
  unfold State.derive
  simp only [hne, if_false, State.writeActivity_plain hn]
  cases hd : s.derivedActivity x with
  | attended => rfl
  | inCall => rfl
  | detached => rw [hd] at hb; cases hb
  | noService => rw [hd] at hb; cases hb
  | camped => rw [hd] at hb; cases hb

theorem State.onRecord_record_same (x : Sub) (f : SubRecord → SubRecord) (s : State) : (s.onRecord x f).record x = f (s.record x) :=
  PerSub.get_upd_same ..

theorem State.derive_tidies {x : Sub} {s : State} (h : s.keepsBusy x) : s.Tidies x (s.derive x) := by
  by_cases he : s.activity x = s.derivedActivity x
  · rw [State.derive_same he]
    exact State.updateStanding_tidies ⟨.refl s, rfl, rfl, fun _ _ _ _ _ => rfl, id, he⟩
  · obtain ⟨hb, hn⟩ := h.resolve_left he
    rw [State.derive_busy hb hn he]
    apply State.updateStanding_tidies
    let u := s.onRecord x fun r => { r with activity := s.derivedActivity x }
    have wrote : s.Tidies x u :=
      ⟨State.onRecord_rests x _ (fun _ => by rfl) s, rfl, rfl, fun _ _ _ _ _ => rfl, id,
        congrArg (·.activity) (State.onRecord_record_same ..)⟩
    split
    · exact wrote
    · obtain ⟨claims, room⟩ := State.enterBusy_claims x u
      have sbs : (u.enterBusy x).sbs = u.sbs := by simp
      exact {
        rests := wrote.rests.trans (State.enterBusy_rests ..)
        sge := by rw [(State.enterBusy_keeps ..).2.2.2.2.2.1]; rfl
        results := by simp
        claims := claims
        room := room
        activity := (congrArg (fun b : Sbs => (b.recs.get x).activity) sbs).trans wrote.activity }

/-- Settling is deriving and re-examining where no call ends with it. -/
theorem State.settle_eq {x : Sub} {s : State} (h : s.keepsBusy x) : s.settle x = (s.derive x).reexamine x := by
  have act : (s.settleAlone x).activity x = s.derivedActivity x := by
    rw [← (State.derive_tidies h).activity]
    unfold State.settleAlone State.activity State.record
    simp
  unfold State.settle
  dsimp only
  rw [act, if_neg]
  · rfl
  · simp only [Bool.and_eq_true, beq_iff_eq, bne_iff_ne, not_and, not_not]
    intro hi
    cases h with
    | inl e => rw [← e, hi]
    | inr e => exact absurd hi e.2

theorem State.settle_tidies {x : Sub} {s : State} (h : s.keepsBusy x) : s.Rests (s.settle x) ∧ (s.settle x).sge = s.sge ∧
    (s.settle x).hlc.results = s.hlc.results ∧ (s.settle x).activity x = s.derivedActivity x := by
  have tidy := State.derive_tidies h
  rw [State.settle_eq h]
  refine ⟨tidy.rests.trans (State.reexamine_rests ..), by simp [tidy.sge], by simp [tidy.results], ?_⟩
  rw [← tidy.activity]
  unfold State.activity State.record
  simp

/-- SIGNALLING after settling, where nothing is asked for (R10). -/
theorem State.settle_signalling {x : Sub} {s : State} (h : s.keepsBusy x) (hc : s.claimsOk) (ha : s.noneAsked) (hq : s.sge.queues.get x ≠ []) :
    (s.claimInPlace x .traffic = true → (s.settle x).claimInPlace x .signalling = false) ∧
      (s.claimInPlace x .traffic = false → s.takesClaim x .signalling → (s.settle x).claimInPlace x .signalling = true) := by
  have tidy := State.derive_tidies h
  have admits := tidy.rests.evolves.admits
  have kept {k : ClaimKind} (hp : k ≠ .pagingListen) (hm : k ≠ .measure) := tidy.claims hc x k hp hm
  have traffic : (s.derive x).claimInPlace x .traffic = s.claimInPlace x .traffic := by
    unfold State.claimInPlace; rw [kept (by decide) (by decide)]
  have takes (k : s.takesClaim x .signalling) : (s.derive x).takesClaim x .signalling := by
    have e := kept (k := .signalling) (by decide) (by decide)
    unfold State.takesClaim State.hasClaim at *
    rw [e]
    exact k.imp (fun p => ⟨p.1, tidy.room p.2⟩) id
  rw [State.settle_eq h]
  exact ⟨fun ht => State.claimInPlace_signalling_idle (admits.claims hc) (admits.asked ha) (.inl (by rw [traffic, ht])),
    fun ht hk => State.claimInPlace_signalling_wanted (admits.claims hc) (admits.asked ha) (by rw [traffic, ht])
      (.inl (by rw [tidy.sge]; exact hq)) (takes hk)⟩

/-! ### The activity state is the one the facts give (R20) -/

theorem State.calls_congr {s t : State} (h : t.cal = s.cal) (x : Sub) : t.hasCtx x = s.hasCtx x ∧ t.hasCall x = s.hasCall x := by
  have ctx : t.ctx = s.ctx := funext fun i => by simp only [State.ctx, h]
  have of : t.ctxOf x = s.ctxOf x := funext fun i => by simp only [State.ctxOf, ctx]
  simp only [State.hasCtx, State.hasCall, of, ctx, and_self]

theorem State.derivedActivity_congr {s t : State} {x : Sub} (act : t.activity x = s.activity x) (serving : t.serving x = s.serving x)
    (cal : t.cal = s.cal) (txns : (t.txnsOf x).isEmpty = (s.txnsOf x).isEmpty)
    (outgoing : (t.outgoingOf x).isSome = (s.outgoingOf x).isSome) : t.derivedActivity x = s.derivedActivity x := by
  obtain ⟨ctx, call⟩ := State.calls_congr cal x
  simp only [State.derivedActivity, act, serving, call, ctx, txns, outgoing]

/-- A subscription with service: how its derived activity state is found. -/
theorem State.derivedActivity_served {s : State} {x : Sub} (hd : s.activity x ≠ .detached) (hs : (s.serving x).isSome = true) :
    s.derivedActivity x = if s.hasCall x then .inCall
      else if !(s.txnsOf x).isEmpty || s.hasCtx x || (s.outgoingOf x).isSome then .attended else .camped := by
  have served : (s.serving x).isNone = false := by simpa [Option.isSome_iff_ne_none] using hs
  simp [State.derivedActivity, hd, served]

/-- A subscription in a camped state has a serving cell. -/
theorem State.activityOk.served {s : State} (h : s.activityOk) {x : Sub} (hc : (s.activity x).isCampedState = true) :
    s.activity x ≠ .detached ∧ (s.serving x).isSome = true := by
  obtain ⟨derived, -⟩ := h x
  have hd : s.activity x ≠ .detached := fun e => by rw [e] at hc; cases hc
  refine ⟨hd, ?_⟩
  by_contra hn
  have none : (s.serving x).isNone = true := by simpa using hn
  rw [derived] at hc
  simp [State.derivedActivity, hd, none, Activity.isCampedState] at hc

/-- A subscription with an open transaction is ATTENDED or IN_CALL. -/
theorem State.activityOk.busy {s : State} (h : s.activityOk) {x : Sub} (ht : s.txnsOf x ≠ []) :
    (s.activity x).isCampedState = true ∧ (s.activity x).isBusy = true := by
  obtain ⟨derived, without⟩ := h x
  have hc : (s.activity x).isCampedState = true := by
    by_contra hn
    exact ht (without (by simpa using hn)).2.2.1
  obtain ⟨hd, hs⟩ := h.served hc
  refine ⟨hc, ?_⟩
  rw [derived, State.derivedActivity_served hd hs]
  have he : (s.txnsOf x).isEmpty = false := by simpa [List.isEmpty_iff] using ht
  simp only [he, Bool.not_false, Bool.true_or, if_true]
  split <;> rfl

/-- An established call makes its subscription IN_CALL. -/
theorem State.activityOk.inCall {s : State} (h : s.activityOk) {x : Sub} (hc : s.hasCall x = true) : s.activity x = .inCall := by
  obtain ⟨derived, without⟩ := h x
  have ctx : s.hasCtx x = true := by
    unfold State.hasCall at hc
    unfold State.hasCtx
    rw [List.any_eq_true] at hc ⊢
    obtain ⟨i, hi, k⟩ := hc
    exact ⟨i, hi, (Bool.and_eq_true_iff.1 k).1⟩
  have camped : (s.activity x).isCampedState = true := by
    by_contra hn
    have := (without (by simpa using hn)).2.1
    rw [ctx] at this; cases this
  obtain ⟨hd, hs⟩ := h.served camped
  rw [derived, State.derivedActivity_served hd hs, if_pos hc]

/-- What only opens a transaction or a text, or leaves both alone, keeps a subscription in a camped state busy. -/
theorem State.activityOk.keepsBusy {s t : State} (h : s.activityOk) {x : Sub} (hc : (s.activity x).isCampedState = true)
    (act : t.activity x = s.activity x) (serving : t.serving x = s.serving x) (cal : t.cal = s.cal)
    (txns : s.txnsOf x ≠ [] → t.txnsOf x ≠ []) (outgoing : (s.outgoingOf x).isSome = true → (t.outgoingOf x).isSome = true) :
    t.keepsBusy x := by
  obtain ⟨hd, hs⟩ := h.served hc
  have before := State.derivedActivity_served hd hs
  have after := State.derivedActivity_served (s := t) (x := x) (by rw [act]; exact hd) (by rw [serving]; exact hs)
  obtain ⟨ctx, call⟩ := State.calls_congr cal x
  rw [← (h x).1] at before
  unfold State.keepsBusy
  rw [act]
  by_cases hk : s.hasCall x = true
  · exact .inl (by rw [before, after, call, if_pos hk, if_pos hk])
  · rw [if_neg hk] at before
    rw [call, if_neg hk] at after
    by_cases hb : (!(t.txnsOf x).isEmpty || t.hasCtx x || (t.outgoingOf x).isSome) = true
    · refine .inr ⟨by rw [after, if_pos hb]; rfl, fun e => ?_⟩
      rw [e] at before
      split at before <;> cases before
    · have hb' : ¬ (!(s.txnsOf x).isEmpty || s.hasCtx x || (s.outgoingOf x).isSome) = true := by
        intro k
        refine hb ?_
        simp only [Bool.or_eq_true, Bool.not_eq_true', List.isEmpty_eq_false_iff] at k ⊢
        rw [ctx]
        exact k.imp (Or.imp txns id) outgoing
      exact .inl (by rw [before, after, if_neg hb, if_neg hb'])

end Sys2Proof.Machine
end

section
/-! Sitting 1: UP_SIGNAL, answered once (O18). -/

namespace Sys2Proof.Machine

/-! ### The frame is taken -/

theorem State.agreesButSleep_trans {s t u : State} (h : s.agreesButSleep t) (k : t.agreesButSleep u) : s.agreesButSleep u := by
  obtain ⟨a1, a2, a3, a4, a5, a6, a7, a8, a9, a10, a11, a12, a13, a14, a15⟩ := h
  obtain ⟨b1, b2, b3, b4, b5, b6, b7, b8, b9, b10, b11, b12, b13, b14, b15⟩ := k
  exact ⟨b1.trans a1, b2.trans a2, b3.trans a3, b4.trans a4, b5.trans a5, b6.trans a6, b7.trans a7, b8.trans a8, b9.trans a9,
    b10.trans a10, b11.trans a11, b12.trans a12, b13.trans a13, b14.trans a14, sameLink_trans a15 b15⟩

/-- Offering held texts leaves the outgoing texts alone. -/
theorem State.offerTexts_outgoing (s : State) : s.offerTexts.txt.outgoing = s.txt.outgoing := by
  have one (i : Nat) (t : State) : (t.offerText i).txt.outgoing = t.txt.outgoing := by
    unfold State.offerText
    (repeat' split) <;> rfl
  have key (l : List Nat) : ∀ t : State, (l.foldl (fun s i => s.offerText i) t).txt.outgoing = t.txt.outgoing := by
    induction l with
    | nil => exact fun _ => rfl
    | cons i l ih => exact fun t => (ih _).trans (one i t)
  exact key _ s

/-- What taking a frame from the hold leaves alone. -/
theorem State.heard_keeps (s : State) (rest : List HostFrame) : (s.heard rest).rta = s.rta ∧ (s.heard rest).sge = s.sge ∧
    (s.heard rest).sbs = s.sbs ∧ (s.heard rest).mob = s.mob ∧ (s.heard rest).cal = s.cal ∧
    (s.heard rest).txt.outgoing = s.txt.outgoing ∧ (s.heard rest).hlc.results = s.hlc.results ∧
    (s.heard rest).hlc.inbound = rest ∧ (s.heard rest).hlc.host = .awake := by
  unfold State.heard
  dsimp only
  split
  · next h => simp [h]
  · obtain ⟨host, inbound, -⟩ := (State.offerTexts_evolves (.refl
      ({ s with hlc := { s.hlc with inbound := rest, host := .awake, lostWake := false } } : State))).hlc
    simp [State.offerTexts_outgoing, host, inbound]

/-- The activity states hold after a frame has been taken, if they held before. -/
theorem State.heard_activityOk {s : State} (h : s.activityOk) (rest : List HostFrame) : (s.heard rest).activityOk := by
  obtain ⟨-, sge, sbs, mob, cal, outgoing, -⟩ := s.heard_keeps rest
  intro x
  have act : (s.heard rest).activity x = s.activity x := by simp only [State.activity, State.record, sbs]
  have serving : (s.heard rest).serving x = s.serving x := by simp only [State.serving, State.mobOf, mob]
  have txns : (s.heard rest).txnsOf x = s.txnsOf x := by simp only [State.txnsOf, State.openTxns, sge]
  have texts : (s.heard rest).outgoingOf x = s.outgoingOf x := by simp only [State.outgoingOf, outgoing]
  obtain ⟨derived, without⟩ := h x
  rw [State.derivedActivity_congr act serving cal (by rw [txns]) (by rw [texts]), act, serving, (State.calls_congr cal x).1, txns, texts]
  exact ⟨derived, without⟩

section UpSignal
variable {s : State} {f : HostFrame} {rest : List HostFrame}

/-- The row of an UP_SIGNAL at the head of the hold. -/
theorem upSignal_row (hi : s.hlc.inbound = f :: rest) (hf : f.type = .upSignal) (hm : s.mayAct = true) (hr : s.resultPlaces < 8)
    {code : ResultCode} {data : List Byte} {v : State} (h : (s.heard rest).doUpSignal f = (code, data, v)) :
    exec .upSignal s = .next (s.finish (v.reply f 0 code data).evaluate) := by
  have room : ¬ Config.resultDepth ≤ s.resultPlaces := by simp only [Config.resultDepth]; omega
  have e : s.actUpSignal = (v.reply f 0 code data).evaluate := by
    unfold State.actUpSignal
    rw [hi]
    dsimp only
    rw [State.heard_eq hi, h]
    simp [hm, hf, room]
  show s.answer s.actUpSignal = _
  rw [e]; rfl

theorem upSignal_refuses (hi : s.hlc.inbound = f :: rest) (hf : f.type = .upSignal) (hm : s.mayAct = true) (hr : s.resultPlaces < 8)
    {code : ResultCode} (h : (s.heard rest).doUpSignal f = refuse code (s.heard rest)) : Refuses .upSignal 0 code s f rest := by
  refine ⟨_, upSignal_row hi hf hm hr h, ?_⟩
  have e : (s.heard rest).reply f 0 code [] = s.acted rest (f.result 0 code []) := by
    rw [← State.heard_eq hi, State.acted_eq hi]
  rw [e]
  exact State.agreesButSleep_trans (State.evaluate_agrees _) (State.finish_agreesButSleep ..)

/-- An UP_SIGNAL that is taken: `v` is the state with its message in the queue, before `x` settles. -/
theorem upSignal_taken (hi : s.hlc.inbound = f :: rest) (hf : f.type = .upSignal) (hm : s.mayAct = true) (hr : s.resultPlaces < 8)
    {x : Sub} {data : List Byte} {v : State} (h : (s.heard rest).doUpSignal f = (.ok, data, v.settle x)) (busy : v.keepsBusy x)
    (rta : v.rta = s.rta) (cal : v.cal = s.cal) (hlc : v.hlc = (s.heard rest).hlc) (hq : v.sge.queues.get x ≠ []) :
    ∃ t, exec .upSignal s = .next t ∧ t.hlc.results = s.hlc.results ++ [f.result 0 .ok data] ∧ t.hlc.inbound = rest ∧ t.hlc.host = .awake ∧
      t.sge = v.sge ∧ t.cal = s.cal ∧ (s.claimsOk → s.noneAsked →
        (s.claimInPlace x .traffic = true → t.claimInPlace x .signalling = false) ∧
        (s.claimInPlace x .traffic = false → s.takesClaim x .signalling → t.claimInPlace x .signalling = true)) := by
  obtain ⟨rests, sge, results, -⟩ := State.settle_tidies busy
  obtain ⟨-, -, -, -, -, -, heardResults, heardInbound, heardHost⟩ := s.heard_keeps rest
  obtain ⟨host, inbound, -⟩ := rests.evolves.hlc
  have replied : ((v.settle x).reply f 0 .ok data).hlc = _ := State.reply_hlc ..
  let u := ((v.settle x).reply f 0 .ok data).evaluate
  have uhlc : u.hlc = ((v.settle x).reply f 0 .ok data).hlc := by simp [u]
  obtain ⟨-, -, -, -, trta, -, tsge, -, -, -, -, tcal, -, -, thost, tinbound, -, -, tresults, -⟩ := State.finish_agreesButSleep s u
  have turta : (s.finish u).rta = (v.settle x).rta := by rw [trta]; simp [u]
  have place (k : ClaimKind) : (s.finish u).claimInPlace x k = (v.settle x).claimInPlace x k := by
    unfold State.claimInPlace State.claimOf; rw [turta]
  have before (k : ClaimKind) : v.claimInPlace x k = s.claimInPlace x k := by
    unfold State.claimInPlace State.claimOf; rw [rta]
  refine ⟨_, upSignal_row hi hf hm hr h, ?_, ?_, ?_, ?_, ?_, fun hc ha => ?_⟩
  · rw [tresults, uhlc, replied, results, hlc, heardResults]
  · rw [tinbound, uhlc, replied, inbound, hlc, heardInbound]
  · rw [thost, uhlc, replied, host, hlc, heardHost]
  · rw [tsge, ← sge]; simp [u]
  · rw [tcal, ← cal, ← rests.cal]; simp [u]
  · have settled := State.settle_signalling busy (by unfold State.claimsOk; rw [rta]; exact hc) (by unfold State.noneAsked; rw [rta]; exact ha) hq
    rw [place, ← before]
    refine ⟨settled.1, fun ht hk => settled.2 ht ?_⟩
    unfold State.takesClaim State.hasClaim State.claimOf at *
    rw [rta]; exact hk

/-! ### What the model answers -/

section Read
variable {x : Sub} {code : Nat} {expect : Bool} {payload : List Byte}

/-- UP_SIGNAL once it has been read (R16). -/
theorem doUpSignal_read (hx : headerSub f.sub = some (some x)) (hp : readAll readUpSignal f.payload = some (code, expect, payload)) (u : State) :
    u.doUpSignal f = if !inRange 16 63 code then refuse .badParam u
      else match u.activity x with
        | .detached => refuse .state u
        | .noService => refuse .noService u
        | .camped | .attended | .inCall =>
          if expect && u.activity x.other == .inCall then refuse .busyOther u else u.sendPass x code expect payload := by
  simp only [State.doUpSignal, hx, hp] <;> rfl

theorem inRange_16_63 : inRange 16 63 code = true ↔ 16 ≤ code ∧ code ≤ 63 := by simp [inRange]

/-- In a camped state the message is offered, unless it would open a transaction beside the other's call. -/
theorem doUpSignal_camped (hx : headerSub f.sub = some (some x)) (hp : readAll readUpSignal f.payload = some (code, expect, payload))
    (lo : 16 ≤ code) (hi : code ≤ 63) {u : State} (hc : (u.activity x).isCampedState = true) :
    u.doUpSignal f = if expect && u.activity x.other == .inCall then refuse .busyOther u else u.sendPass x code expect payload := by
  rw [doUpSignal_read hx hp, inRange_16_63.2 ⟨lo, hi⟩]
  cases ha : u.activity x with
  | detached => rw [ha] at hc; cases hc
  | noService => rw [ha] at hc; cases hc
  | camped => rfl
  | attended => rfl
  | inCall => rfl

end Read

/-- The host's offer is taken where the queue has a place and, for a transaction, the table an entry; the host has no hold (R9). -/
theorem takesOffer_host (u : State) (x : Sub) (k : Option TxnKind) (body : UpBody) :
    u.takesOffer x ⟨some .host, k, 0, none, body⟩ = (!u.queueFull x && !(k.isSome && u.tableFull)) := by
  simp [State.takesOffer, State.hasPlace, Owner.hasHold]

theorem sendPass_refused {u : State} {x : Sub} {code : Nat} {expect : Bool} {payload : List Byte}
    (h : 6 ≤ (u.sge.queues.get x).length ∨ (expect = true ∧ lowestFree u.sge.txns = none)) :
    u.sendPass x code expect payload = refuse .busy u := by
  have refused : u.takesOffer x ⟨some .host, if expect then some .pass else none, 0, none, .pass code payload⟩ = false := by
    rw [takesOffer_host]
    cases h with
    | inl h =>
      have full : u.queueFull x = true := decide_eq_true h
      simp [full]
    | inr h => simp [h.1, State.tableFull, h.2]
  have e : u.offer x ⟨some .host, if expect then some .pass else none, 0, none, .pass code payload⟩ = (none, u) := by
    unfold State.offer; rw [refused]; rfl
  unfold State.sendPass
  dsimp only
  rw [e]

/-- The state with the message of an UP_SIGNAL in the queue. -/
theorem sendPass_plain {u : State} {x : Sub} (code : Nat) (payload : List Byte) (h : (u.sge.queues.get x).length < 6) :
    u.sendPass x code false payload = (.ok, [], (u.enqueue x ⟨some .host, 0, false, .pass code payload, 0⟩).settle x) := by
  have full : u.queueFull x = false := decide_eq_false (Nat.not_le.2 h)
  have takes : u.takesOffer x ⟨some .host, none, 0, none, .pass code payload⟩ = true := by rw [takesOffer_host]; simp [full]
  have e := State.offer_plain takes rfl
  unfold State.sendPass
  dsimp only
  rw [if_neg Bool.false_ne_true, e]
  rfl

/-- `u` with a PASS transaction of `x` in entry `i`. -/
def State.withPass (u : State) (x : Sub) (i : Nat) : State :=
  u.onSge fun g => { g with
    txns := g.txns.set i (some ⟨x, .pass, u.nextFreeIdent x, .host, .queued, none, none, none⟩)
    nextIdent := g.nextIdent.set x (u.nextFreeIdent x + 1) }

theorem sendPass_opens {u : State} {x : Sub} (code : Nat) (payload : List Byte) (h : (u.sge.queues.get x).length < 6) {i : Nat}
    (hf : lowestFree u.sge.txns = some i) : u.sendPass x code true payload =
      (.ok, putNat (u.nextFreeIdent x).toNat,
        ((u.withPass x i).enqueue x ⟨some .host, u.nextFreeIdent x, true, .pass code payload, 0⟩).settle x) := by
  have full : u.queueFull x = false := decide_eq_false (Nat.not_le.2 h)
  have takes : u.takesOffer x ⟨some .host, some .pass, 0, none, .pass code payload⟩ = true := by
    rw [takesOffer_host]; simp [full, State.tableFull, hf]
  obtain ⟨j, hj, e⟩ := State.offer_opens takes rfl
  obtain rfl : j = i := Option.some.inj (hj.symm.trans hf)
  unfold State.sendPass
  dsimp only
  rw [if_pos rfl, e]
  rfl

end UpSignal

/-- A transaction entered in a free entry is one of its subscription's. -/
theorem State.txnsOf_ne_nil {s : State} {x : Sub} {i : Nat} {p : Txn} (h : entryAt s.sge.txns i = some p) (hx : p.sub = x) : s.txnsOf x ≠ [] := by
  refine List.ne_nil_of_mem (a := (i, p)) ?_
  simp [State.txnsOf, State.openTxns, mem_taken, h, hx]

section Accepted
variable {s : State} {f : HostFrame} {rest : List HostFrame} {x : Sub} {code : Nat} {payload : List Byte}

/-- What the two kinds of accepted UP_SIGNAL have in common: `g` is what the table becomes, `m` the message. -/
theorem upSignal_accepted (hi : s.hlc.inbound = f :: rest) (hf : f.type = .upSignal) (hm : s.mayAct = true) (hr : s.resultPlaces < 8)
    (hc : (s.activity x).isCampedState = true) (hq : (s.sge.queues.get x).length < 6) (ha : s.activityOk) {data : List Byte} {m : Msg}
    (hw : m.wait = 0) {g : Sge → Sge} (hg : (g s.sge).queues = s.sge.queues) (txns : ∀ i p, entryAt s.sge.txns i = some p →
      entryAt (g s.sge).txns i = some p)
    (h : (s.heard rest).doUpSignal f = (.ok, data, (((s.heard rest).onSge g).enqueue x m).settle x)) :
    ∃ t, exec .upSignal s = .next t ∧ t.hlc.results = s.hlc.results ++ [f.result 0 .ok data] ∧ t.hlc.inbound = rest ∧ t.hlc.host = .awake ∧
      t.sge.queues.get x = s.sge.queues.get x ++ [m] ∧ t.sge.txns = (g s.sge).txns ∧ t.sge.nextIdent = (g s.sge).nextIdent ∧ t.cal = s.cal ∧
      (s.claimsOk → s.noneAsked →
        (s.claimInPlace x .traffic = true → t.claimInPlace x .signalling = false) ∧
        (s.claimInPlace x .traffic = false → s.takesClaim x .signalling → t.claimInPlace x .signalling = true)) := by
  obtain ⟨rta, sge, sbs, mob, cal, outgoing, -⟩ := s.heard_keeps rest
  let v := ((s.heard rest).onSge g).enqueue x m
  have vsge : v.sge = { g s.sge with queues := s.sge.queues.upd x (· ++ [m]) } := by
    have e := State.enqueue_room (s := (s.heard rest).onSge g) (x := x) (by simp only [State.onSge_sge, sge, hg]; exact hq) m
    rw [e]
    simp only [State.onSge_sge, sge, hg]
    rw [show ({ m with wait := 0 } : Msg) = m by rw [← hw]]
  have busy : v.keepsBusy x := by
    refine ha.keepsBusy hc ?_ ?_ ?_ (fun hn => ?_) (fun ho => ?_)
    · simp [State.activity, State.record, v, sbs]
    · simp [State.serving, State.mobOf, v, mob]
    · simp [v, cal]
    · obtain ⟨⟨i, p⟩, hp⟩ := List.exists_mem_of_ne_nil _ hn
      simp only [State.txnsOf, State.openTxns, List.mem_filter, mem_taken, beq_iff_eq] at hp
      exact State.txnsOf_ne_nil (s := v) (by rw [vsge]; exact txns i p hp.1) hp.2
    · simpa [State.outgoingOf, v, outgoing] using ho
  have queue : v.sge.queues.get x = s.sge.queues.get x ++ [m] := by rw [vsge]; simp
  obtain ⟨t, e, results, inbound, host, tsge, tcal, claims⟩ := upSignal_taken hi hf hm hr h busy (by simp [rta]) (by simp [cal]) (by simp)
    (by rw [queue]; simp)
  exact ⟨t, e, results, inbound, host, by rw [tsge]; exact queue, by rw [tsge, vsge], by rw [tsge, vsge], tcal, claims⟩

end Accepted

/-- Settles O18: the refusals by `upSignal_refuses`, the acceptances by `upSignal_accepted`. -/
theorem upSignalIsAnswered : Obligations.UpSignalIsAnswered := by
  refine ⟨fun s f rest x code expect payload hi hf hm hr hx hp => ?_, fun s f rest hi hf hm hr hb => ?_⟩
  · obtain ⟨rta, sge, sbs, -⟩ := s.heard_keeps rest
    have act (y : Sub) : (s.heard rest).activity y = s.activity y := by simp only [State.activity, State.record, sbs]
    have ident : (s.heard rest).nextFreeIdent x = s.nextFreeIdent x := by
      simp only [State.nextFreeIdent, State.usedIdents, State.txnsOf, State.openTxns, sge]
    have camped (lo : 16 ≤ code) (hi : code ≤ 63) (hc : (s.activity x).isCampedState = true) :
        (s.heard rest).doUpSignal f = if expect && s.activity x.other == .inCall then refuse .busyOther (s.heard rest)
          else (s.heard rest).sendPass x code expect payload := by
      rw [doUpSignal_camped hx hp lo hi (by rw [act]; exact hc), act]
    refine ⟨fun lo hi' he hc hq ha => ?_, fun out => ?_, fun lo hi' hd => ?_, fun lo hi' hd => ?_, fun lo hi' hc he ho => ?_,
      fun i lo hi' he hc hq ha ho hl => ?_, fun lo hi' hc ho hn => ?_⟩
    · subst he
      have done := camped lo hi' hc
      rw [Bool.false_and, if_neg Bool.false_ne_true, sendPass_plain code payload (by rw [sge]; exact hq)] at done
      obtain ⟨t, e, results, inbound, host, queue, txns, next, cal, claims⟩ := upSignal_accepted (g := id) hi hf hm hr hc hq ha rfl rfl
        (fun _ _ k => k) done
      exact ⟨t, e, results, inbound, host, queue, txns, cal, next, claims⟩
    · refine upSignal_refuses hi hf hm hr ?_
      have no : inRange 16 63 code = false := by
        rw [Bool.eq_false_iff, ne_eq, inRange_16_63]; omega
      rw [doUpSignal_read hx hp, no]; rfl
    · refine upSignal_refuses hi hf hm hr ?_
      rw [doUpSignal_read hx hp, inRange_16_63.2 ⟨lo, hi'⟩, act, hd]; rfl
    · refine upSignal_refuses hi hf hm hr ?_
      rw [doUpSignal_read hx hp, inRange_16_63.2 ⟨lo, hi'⟩, act, hd]; rfl
    · refine upSignal_refuses hi hf hm hr ?_
      rw [camped lo hi' hc, he, ho]; rfl
    · subst he
      have done := camped lo hi' hc
      rw [Bool.true_and, if_neg (by simpa using ho), sendPass_opens code payload (by rw [sge]; exact hq) (by rw [sge]; exact hl), ident] at done
      let g : Sge → Sge := fun g => { g with
        txns := g.txns.set i (some ⟨x, .pass, s.nextFreeIdent x, .host, .queued, none, none, none⟩)
        nextIdent := g.nextIdent.set x (s.nextFreeIdent x + 1) }
      have table : (s.heard rest).withPass x i = (s.heard rest).onSge g := by simp only [State.withPass, ident, g]
      rw [table] at done
      obtain ⟨t, e, results, inbound, host, queue, txns, next, cal, claims⟩ := upSignal_accepted (g := g) hi hf hm hr hc hq ha rfl rfl
        (fun j p hj => by
          have free := (lowestFree_some hl).2
          simp only [g]
          rw [entryAt_set_other _ _ _ _ (by rintro rfl; rw [free] at hj; cases hj)]
          exact hj) done
      exact ⟨t, e, results, inbound, host, txns, queue, cal, by rw [next]; simp [g], by rw [next]; simp [g], claims⟩
    · refine upSignal_refuses hi hf hm hr ?_
      rw [camped lo hi' hc, if_neg, sendPass_refused (by rw [sge]; exact hn)]
      simp only [Bool.and_eq_true, beq_iff_eq, not_and]
      rintro he
      exact ho.resolve_left (by simp [he])
  · refine upSignal_refuses hi hf hm hr ?_
    rcases hb with h | h | h
    · simp [State.doUpSignal, h]
    · simp [State.doUpSignal, h]
    · unfold State.doUpSignal
      rw [h]
      cases headerSub f.sub with
      | none => rfl
      | some y => cases y <;> rfl

end Sys2Proof.Machine
end

section
/-! Sitting 1: the owners that wait try again (O23). -/

namespace Sys2Proof.Machine

theorem State.hasTxn_of_entry {s : State} {x : Sub} {i : Nat} {p : Txn} (h : entryAt s.sge.txns i = some p) (hx : p.sub = x) :
    s.hasTxn x p.kind = true := by
  unfold State.hasTxn
  rw [List.any_eq_true]
  exact ⟨(i, p), by simp [State.txnsOf, State.openTxns, mem_taken, h, hx], beq_self_eq_true _⟩

theorem State.txnsOf_congr {s t : State} (h : t.sge.txns = s.sge.txns) (x : Sub) : t.txnsOf x = s.txnsOf x := by
  simp only [State.txnsOf, State.openTxns, h]

theorem State.hasTxn_congr {s t : State} (h : t.sge.txns = s.sge.txns) (x : Sub) (k : TxnKind) : t.hasTxn x k = s.hasTxn x k := by
  simp only [State.hasTxn, State.txnsOf_congr h]

theorem State.txnsOf_of_hasTxn {s : State} {x : Sub} {k : TxnKind} (h : s.hasTxn x k = true) : s.txnsOf x ≠ [] := by
  intro e
  simp [State.hasTxn, e] at h

/-- An offer taken that opens a transaction opens it for its subscription. -/
theorem State.offer_hasTxn {s : State} {x : Sub} {o : Offer} {k : TxnKind} (h : s.takesOffer x o = true) (ho : o.opens = some k) :
    (s.offer x o).1.isSome = true ∧ (s.offer x o).2.hasTxn x k = true := by
  obtain ⟨i, hi, e⟩ := State.offer_opens h ho
  rw [e]
  refine ⟨rfl, State.hasTxn_of_entry (i := i) (p := ⟨x, k, s.nextFreeIdent x, o.owner.getD .host, .queued, none, none, o.reason⟩) ?_ rfl⟩
  rw [(State.enqueue_table ..).1]
  exact entryAt_set_same _ _ _ (lowestFree_some hi).1

/-- An offer touches neither the waiters nor the records. -/
theorem State.offer_waiters (x : Sub) (o : Offer) (s : State) : (s.offer x o).2.sge.waiters = s.sge.waiters := by
  have queue (t : State) (m : Msg) : (t.enqueue x m).sge.waiters = t.sge.waiters := by
    cases t.enqueue_spec x m with
    | inl e => rw [e.2]
    | inr e => rw [e.2]
  unfold State.offer
  (repeat' split) <;> simp [queue]

/-! ### A pending update is opened (R27) -/

/-- What opening an update brings, where SGE takes it. -/
structure State.UpdateOpened (x : Sub) (s t : State) : Prop where
  registration : (t.record x).registration = .updating
  pending : (t.record x).updatePending = false
  txn : t.hasTxn x .area = true
  activity : t.activity x = s.activity x
  mob : t.mob = s.mob
  cal : t.cal = s.cal
  txt : t.txt = s.txt
  waiters : t.sge.waiters = s.sge.waiters.filter fun e => !(e.what == .update && e.sub == x)

theorem State.openUpdate_opens {s : State} {x : Sub} {v : Serving} (hv : s.serving x = some v) (ho : s.activity x.other ≠ .inCall)
    (hc : s.hasCall x.other = false) (ht : s.takesOffer x (s.areaOffer x v.area) = true) (byPage : Bool) :
    s.UpdateOpened x (s.openUpdate x byPage) := by
  obtain ⟨taken, opened⟩ := State.offer_hasTxn ht rfl
  let u := (s.offer x (s.areaOffer x v.area)).2
  have e : s.openUpdate x byPage = (u.dropUpdate x).onRecord x fun r => { r with registration := .updating } := by
    have quiet : ¬ (s.activity x.other == .inCall || s.hasCall x.other) = true := by simp [ho, hc]
    obtain ⟨ident, hi⟩ := Option.isSome_iff_exists.1 taken
    have pair : s.offer x (s.areaOffer x v.area) = (some ident, u) := Prod.ext hi rfl
    unfold State.openUpdate
    rw [hv]
    dsimp only
    rw [if_neg quiet, pair]
  have usbs : u.sbs = s.sbs := by simp [u]
  have record : (s.openUpdate x byPage).record x =
      { s.record x with updatePending := false, updateByPage := false, registration := .updating } := by
    rw [e, State.onRecord_record_same]
    have drop : (u.dropUpdate x).record x = { u.record x with updatePending := false, updateByPage := false } :=
      State.onRecord_record_same ..
    rw [drop, show u.record x = s.record x by simp only [State.record, usbs]]
  have table : (s.openUpdate x byPage).sge.txns = u.sge.txns := by rw [e]; rfl
  refine ⟨by rw [record], by rw [record], ?_, ?_, by rw [e]; simp [u], by rw [e]; simp [u], by rw [e]; simp [u], ?_⟩
  · rw [State.hasTxn_congr table]; exact opened
  · unfold State.activity; rw [record]
  · rw [e]
    show u.sge.waiters.filter _ = _
    rw [State.offer_waiters]

/-- A pending update whose time has come is opened anew, within the ending of a transaction or in its turn. -/
theorem State.tryUpdate_opens {s : State} {x : Sub} {v : Serving} (hp : (s.record x).updatePending = true) (hv : s.serving x = some v)
    (hd : (s.record x).updateByPage = true ∨ (s.record x).dueFor v.area = true) (ho : s.activity x.other ≠ .inCall)
    (hc : s.hasCall x.other = false) (ht : s.takesOffer x (s.areaOffer x v.area) = true) :
    s.UpdateOpened x (s.tryOnce .update x) := by
  have e : s.tryOnce .update x = s.openUpdate x (s.record x).updateByPage := by
    have due : ((s.record x).updateByPage || (s.record x).dueFor v.area) = true := by simpa using hd
    simp only [State.tryOnce, hp, if_true, State.retryUpdate, hv, due]
  rw [e]
  exact State.openUpdate_opens hv ho hc ht _

/-! ### In its turn -/

theorem waiterRetry_turn {s : State} {w : WaitKind} {x : Sub} (h : s.isTurn w x = true) :
    s.waiterRetry w x = ((s.clearDue w x).tryOnce w x).settle x := by
  simp [State.waiterRetry, h]

/-- A subscription with a serving cell is in a camped state. -/
theorem State.activityOk.camped {s : State} (h : s.activityOk) {x : Sub} (hs : s.serving x ≠ none) : (s.activity x).isCampedState = true := by
  by_contra hn
  exact hs ((h x).2 (by simpa using hn)).1

/-- Without IN_CALL there is no established call. -/
theorem State.activityOk.noCall {s : State} (h : s.activityOk) {x : Sub} (hn : s.activity x ≠ .inCall) : s.hasCall x = false := by
  by_contra hc
  exact hn (h.inCall (by simpa using hc))

section Turn
variable {s : State} {x : Sub}

theorem updateRetry_opens {v : Serving} (turn : s.isTurn .update x = true) (hp : (s.record x).updatePending = true)
    (hv : s.serving x = some v) (ha : s.activityOk) (hd : (s.record x).dueFor v.area = true) (ho : s.activity x.other ≠ .inCall)
    (ht : s.takesOffer x (s.areaOffer x v.area) = true) :
    ∃ t, exec (.pendingUpdateRetry x) s = .next t ∧ (t.record x).registration = .updating ∧ (t.record x).updatePending = false ∧
      t.hasTxn x .area = true ∧ t.cal = s.cal ∧ t.txt = s.txt := by
  have opened := State.tryUpdate_opens (s := s.clearDue .update x) hp hv (.inr hd) ho (ha.noCall ho) ht
  have busy : ((s.clearDue .update x).tryOnce .update x).keepsBusy x :=
    ha.keepsBusy (ha.camped (by rw [hv]; exact Option.some_ne_none v)) opened.activity (by unfold State.serving State.mobOf; rw [opened.mob]; rfl)
      opened.cal (fun _ => State.txnsOf_of_hasTxn opened.txn) (by unfold State.outgoingOf; rw [opened.txt]; exact id)
  obtain ⟨rests, sge, -⟩ := State.settle_tidies busy
  obtain ⟨-, -, -, -, -, -, tsge, tsbs, -, -, -, tcal, -, ttxt, -⟩ := State.finish_agreesButSleep s (((s.clearDue .update x).tryOnce .update x).settle x)
  have record := rests.record x
  have turnEq : exec (.pendingUpdateRetry x) s = .next (s.finish (((s.clearDue .update x).tryOnce .update x).settle x)) := by
    show s.answer (s.waiterRetry .update x) = _
    rw [waiterRetry_turn turn]; rfl
  have now : (s.finish (((s.clearDue .update x).tryOnce .update x).settle x)).record x =
      (((s.clearDue .update x).tryOnce .update x).settle x).record x := by unfold State.record; rw [tsbs]
  unfold SubRecord.sameFacts at record
  refine ⟨_, turnEq, ?_, ?_, ?_, ?_, ?_⟩
  · rw [now, record]; exact opened.registration
  · rw [now, record]; exact opened.pending
  · exact (State.hasTxn_congr (by rw [tsge, sge]) x .area).trans opened.txn
  · rw [tcal, rests.cal, opened.cal]; rfl
  · rw [ttxt, rests.txt, opened.txt]; rfl

theorem updateRetry_drops {v : Serving} (turn : s.isTurn .update x = true) (hp : (s.record x).updatePending = true)
    (hb : (s.record x).updateByPage = false) (hv : s.serving x = some v) (ha : s.activityOk) (hd : (s.record x).dueFor v.area = false) :
    ∃ t, exec (.pendingUpdateRetry x) s = .next t ∧ (t.record x).registration = (s.record x).registration ∧ (t.record x).updatePending = false ∧
      t.sge.txns = s.sge.txns ∧ t.sge.queues = s.sge.queues ∧ t.cal = s.cal ∧ t.txt = s.txt := by
  let u := (s.clearDue .update x).dropUpdate x
  have e : (s.clearDue .update x).tryOnce .update x = u := by
    have served : (s.clearDue .update x).serving x = some v := hv
    have same : (s.clearDue .update x).record x = s.record x := rfl
    simp only [State.tryOnce, same, hp, if_true, State.retryUpdate, served, hb, hd, Bool.or_self, Bool.false_eq_true, if_false, u]
  have record : u.record x = { s.record x with updatePending := false, updateByPage := false } := State.onRecord_record_same ..
  have busy : u.keepsBusy x := .inl (by
    rw [State.derivedActivity_congr (s := s) (t := u) (by unfold State.activity; rw [record]) rfl rfl rfl rfl, ← (ha x).1]
    unfold State.activity; rw [record])
  obtain ⟨rests, sge, -⟩ := State.settle_tidies busy
  obtain ⟨-, -, -, -, -, -, tsge, tsbs, -, -, -, tcal, -, ttxt, -⟩ := State.finish_agreesButSleep s (u.settle x)
  have facts := rests.record x
  have turnEq : exec (.pendingUpdateRetry x) s = .next (s.finish (u.settle x)) := by
    show s.answer (s.waiterRetry .update x) = _
    rw [waiterRetry_turn turn, e]; rfl
  have now : (s.finish (u.settle x)).record x = (u.settle x).record x := by unfold State.record; rw [tsbs]
  unfold SubRecord.sameFacts at facts
  rw [record] at facts
  refine ⟨_, turnEq, ?_, ?_, ?_, ?_, ?_, ?_⟩
  · rw [now, facts]
  · rw [now, facts]
  · rw [tsge, sge]; rfl
  · rw [tsge, sge]; rfl
  · rw [tcal, rests.cal]; rfl
  · rw [ttxt, rests.txt]; rfl

/-! ### A due segment (R158) -/

/-- The TEXT_SEG of the next segment, as TXT offers it. -/
def Outgoing.offer (o : Outgoing) : Offer :=
  ⟨some .txt, some .textOut, 0, none, .textSeg o.reference o.total o.nextSeq o.destination (o.segments.head?.getD [])⟩

theorem takesOffer_segment (u : State) (x : Sub) (o : Outgoing) : u.takesOffer x o.offer = u.takes x .txt := by
  simp [State.takesOffer, State.takes, Outgoing.offer]

theorem State.setOutgoing_outgoingOf (x y : Sub) (o : Option Outgoing) (s : State) :
    (s.setOutgoing x o).outgoingOf y = if y = x then o else s.outgoingOf y := PerSub.get_set ..

theorem sendSegment_taken {u : State} {o : Outgoing} (ho : u.outgoingOf x = some o) (ht : u.takes x .txt = true) :
    u.sendSegment x = ((u.offer x o.offer).2.setOutgoing x (some { o with segmentDue := false })).endWait .segment x := by
  obtain ⟨taken, -⟩ := State.offer_hasTxn (s := u) (x := x) (o := o.offer) (by rw [takesOffer_segment]; exact ht) rfl
  obtain ⟨ident, hi⟩ := Option.isSome_iff_exists.1 taken
  have pair : u.offer x o.offer = (some ident, (u.offer x o.offer).2) := Prod.ext hi rfl
  have offered : u.offerSegment x = (true, ((u.offer x o.offer).2.setOutgoing x (some { o with segmentDue := false })).endWait .segment x) := by
    unfold State.offerSegment
    rw [ho]
    dsimp only
    rw [show (⟨some .txt, some .textOut, 0, none, .textSeg o.reference o.total o.nextSeq o.destination (o.segments.head?.getD [])⟩ : Offer) =
      o.offer from rfl, pair]
  unfold State.sendSegment
  rw [offered]

theorem sendSegment_refused {u : State} {o : Outgoing} (ho : u.outgoingOf x = some o) (ht : u.takes x .txt = false) :
    u.sendSegment x = (u.setOutgoing x (some { o with segmentDue := true })).beginWait .segment x := by
  have refused : u.offer x o.offer = (none, u) := by
    cases u.offer_spec x o.offer with
    | inl e => exact e.2
    | inr e => rw [takesOffer_segment, ht] at e; cases e.1
  have offered : u.offerSegment x = (false, u) := by
    unfold State.offerSegment
    rw [ho]
    dsimp only
    rw [show (⟨some .txt, some .textOut, 0, none, .textSeg o.reference o.total o.nextSeq o.destination (o.segments.head?.getD [])⟩ : Offer) =
      o.offer from rfl, refused]
  unfold State.sendSegment
  rw [offered]
  dsimp only
  rw [ho]

theorem tryOnce_segment {u : State} {o : Outgoing} (ho : u.outgoingOf x = some o) (hd : o.segmentDue = true) :
    u.tryOnce .segment x = u.sendSegment x := by
  simp [State.tryOnce, ho, hd]

theorem segmentRetry_sends {o : Outgoing} (turn : s.isTurn .segment x = true) (ho : s.outgoingOf x = some o) (hd : o.segmentDue = true)
    (ha : s.activityOk) (ht : s.takes x .txt = true) :
    ∃ t, exec (.segmentDueRetry x) s = .next t ∧ t.outgoingOf x = some { o with segmentDue := false } ∧
      t.hasTxn x .textOut = true ∧ t.txt.free = s.txt.free ∧ t.cal = s.cal ∧ t.vcp = s.vcp := by
  let c := s.clearDue .segment x
  let w := ((c.offer x o.offer).2.setOutgoing x (some { o with segmentDue := false })).endWait .segment x
  have e : c.tryOnce .segment x = w := (tryOnce_segment (u := c) ho hd).trans (sendSegment_taken (u := c) ho ht)
  have txn : w.hasTxn x .textOut = true := by
    have opened := (State.offer_hasTxn (s := c) (x := x) (o := o.offer) (by rw [takesOffer_segment]; exact ht) rfl).2
    exact (State.hasTxn_congr (s := (c.offer x o.offer).2) (t := w) rfl x .textOut).trans opened
  have outgoing : w.outgoingOf x = some { o with segmentDue := false } := by
    rw [show w.outgoingOf x = ((c.offer x o.offer).2.setOutgoing x (some { o with segmentDue := false })).outgoingOf x from rfl,
      State.setOutgoing_outgoingOf, if_pos rfl]
  have camped : (s.activity x).isCampedState = true := by
    by_contra hn
    have := ((ha x).2 (by simpa using hn)).2.2.2
    rw [ho] at this; cases this
  have busy : w.keepsBusy x := ha.keepsBusy camped (by simp [State.activity, State.record, w, c]) (by simp [State.serving, State.mobOf, w, c])
    (by simp [w, c]) (fun _ => State.txnsOf_of_hasTxn txn) (fun _ => by rw [outgoing]; rfl)
  obtain ⟨rests, sge, -⟩ := State.settle_tidies busy
  obtain ⟨-, -, -, -, -, -, tsge, -, -, -, -, tcal, tvcp, ttxt, -⟩ := State.finish_agreesButSleep s (w.settle x)
  have turnEq : exec (.segmentDueRetry x) s = .next (s.finish (w.settle x)) := by
    show s.answer (s.waiterRetry .segment x) = _
    rw [waiterRetry_turn turn, e]; rfl
  refine ⟨_, turnEq, ?_, ?_, ?_, ?_, ?_⟩
  · unfold State.outgoingOf; rw [ttxt, rests.txt]; exact outgoing
  · exact (State.hasTxn_congr (by rw [tsge, sge]) x .textOut).trans txn
  · rw [ttxt, rests.txt]; simp [w, c, State.setOutgoing]
  · rw [tcal, rests.cal]; simp [w, c]
  · rw [tvcp, rests.vcp]; simp [w, c]

theorem segmentRetry_waits {o : Outgoing} (turn : s.isTurn .segment x = true) (ho : s.outgoingOf x = some o) (hd : o.segmentDue = true)
    (ha : s.activityOk) (ht : s.takes x .txt = false) :
    ∃ t, exec (.segmentDueRetry x) s = .next t ∧ t.outgoingOf x = some o ∧ t.sge.txns = s.sge.txns ∧
      t.txt.free = s.txt.free ∧ t.cal = s.cal := by
  let c := s.clearDue .segment x
  let w := (c.setOutgoing x (some { o with segmentDue := true })).beginWait .segment x
  have e : c.tryOnce .segment x = w := (tryOnce_segment (u := c) ho hd).trans (sendSegment_refused (u := c) ho ht)
  have wtxt : w.txt = (c.setOutgoing x (some { o with segmentDue := true })).txt := by simp [w]
  have outgoing : w.outgoingOf x = some o := by
    have same : ({ o with segmentDue := true } : Outgoing) = o := by rw [← hd]
    rw [show w.outgoingOf x = (c.setOutgoing x (some { o with segmentDue := true })).outgoingOf x by unfold State.outgoingOf; rw [wtxt],
      State.setOutgoing_outgoingOf, if_pos rfl, same]
  have wtxns : w.sge.txns = s.sge.txns := by
    unfold w State.beginWait
    split <;> rfl
  have busy : w.keepsBusy x := .inl (by
    have act : w.activity x = s.activity x := by simp [State.activity, State.record, w, c]
    rw [State.derivedActivity_congr (s := s) (t := w) act (by simp [State.serving, State.mobOf, w, c]) (by simp [w, c])
      (by rw [State.txnsOf_congr wtxns]) (by rw [outgoing, ho]), ← (ha x).1, act])
  obtain ⟨rests, sge, -⟩ := State.settle_tidies busy
  obtain ⟨-, -, -, -, -, -, tsge, -, -, -, -, tcal, -, ttxt, -⟩ := State.finish_agreesButSleep s (w.settle x)
  have turnEq : exec (.segmentDueRetry x) s = .next (s.finish (w.settle x)) := by
    show s.answer (s.waiterRetry .segment x) = _
    rw [waiterRetry_turn turn, e]; rfl
  refine ⟨_, turnEq, ?_, ?_, ?_, ?_⟩
  · unfold State.outgoingOf; rw [ttxt, rests.txt]; exact outgoing
  · rw [tsge, sge, wtxns]
  · rw [ttxt, rests.txt, wtxt]; simp [c, State.setOutgoing]
  · rw [tcal, rests.cal]; simp [w, c]

end Turn

/-! ### Within an ending (R5) -/

/-- What an event makes of a waiter of those that can try. -/
def State.marked (s : State) (e : Waiter) : Waiter := if s.mayTry e then { e with due := true } else e

theorem State.markWaiters_all (s : State) :
    (s.markWaiters fun _ => true).sge = { s.sge with waiters := s.sge.waiters.map s.marked } := by
  simp only [State.markWaiters, State.onSge_sge, Bool.true_and]
  rfl

/-- A message removed: the queue and the hold of the subscription lose it, and the waiters are at most marked. -/
theorem State.removeMessage_shrinks (s : State) (y : Sub) (ident : Ident) (x : Sub) :
    ((s.removeMessage y ident).sge.queues.get x).Sublist (s.sge.queues.get x) ∧
      ((s.removeMessage y ident).sge.holds.get x).Sublist (s.sge.holds.get x) ∧
      (s.removeMessage y ident).sbs = s.sbs ∧
      (s.removeMessage y ident).sge.waiters.map s.marked = s.sge.waiters.map s.marked := by
  have filtered (u : State) (p : Msg → Bool) : ((u.sge.holds.upd y (·.filter p)).get x).Sublist (u.sge.holds.get x) := by
    rw [PerSub.get_upd]
    split
    · exact List.filter_sublist
    · exact List.Sublist.refl _
  have twice (l : List Waiter) (p : Waiter → Bool) :
      (l.map fun e => if p e && s.mayTry e then { e with due := true } else e).map s.marked = l.map s.marked := by
    rw [List.map_map]
    refine List.map_congr_left fun e _ => ?_
    have may (b : Bool) : s.mayTry { e with due := b } = s.mayTry e := rfl
    simp only [Function.comp, State.marked]
    split
    · next h => rw [may, (Bool.and_eq_true_iff.1 h).2]; rfl
    · rfl
  unfold State.removeMessage
  dsimp only
  split
  · exact ⟨List.Sublist.refl _, filtered s _, rfl, rfl⟩
  · next pos _ =>
    refine ⟨?_, ?_, by simp, ?_⟩
    · show ((s.dropQueued y pos).sge.queues.get x).Sublist _
      rw [State.dropQueued_queues, PerSub.get_upd]
      split
      · exact List.eraseIdx_sublist ..
      · exact List.Sublist.refl _
    · have holds : (s.dropQueued y pos).sge.holds = s.sge.holds := by rw [State.dropQueued_sge]
      exact (filtered (s.dropQueued y pos) _).trans (by rw [holds])
    · show (s.dropQueued y pos).sge.waiters.map s.marked = _
      unfold State.dropQueued
      split
      · dsimp only
        split
        · exact twice _ _
        · exact twice _ _
      · rfl

/-- The first two steps of an ending: queues and holds lose messages alone, and every waiter that can try is due. -/
theorem State.freeTxn_shrinks {s : State} {i : Nat} {p : Txn} (h : entryAt s.sge.txns i = some p) (x : Sub) :
    ((s.freeTxn i).sge.queues.get x).Sublist (s.sge.queues.get x) ∧ ((s.freeTxn i).sge.holds.get x).Sublist (s.sge.holds.get x) ∧
      (s.freeTxn i).sge.waiters = s.sge.waiters.map s.marked := by
  let u := s.onSge fun g => { g with txns := g.txns.set i none }
  have e : s.freeTxn i = (u.removeMessage p.sub p.ident).markWaiters fun _ => true := by simp [State.freeTxn, h, u]
  obtain ⟨queues, holds, sbs, waiters⟩ := u.removeMessage_shrinks p.sub p.ident x
  rw [e, State.markWaiters_all]
  have marked : (u.removeMessage p.sub p.ident).marked = s.marked := by
    funext w
    simp only [State.marked, State.mayTry, State.activity, State.record, sbs]
    rfl
  exact ⟨queues, holds, by rw [marked]; exact waiters⟩

/-- A message that has a place still has it after others have gone. -/
theorem State.hasPlace_of_sublist {s t : State} {x : Sub} {o : Option Owner} (queues : (t.sge.queues.get x).Sublist (s.sge.queues.get x))
    (holds : (t.sge.holds.get x).Sublist (s.sge.holds.get x)) (h : s.hasPlace x o = true) : t.hasPlace x o = true := by
  have full (k : s.queueFull x = false) : t.queueFull x = false :=
    decide_eq_false fun n => of_decide_eq_false k (Nat.le_trans n queues.length_le)
  have taken (a : Owner) (k : s.holdTaken x a = false) : t.holdTaken x a = false := by
    unfold State.holdTaken at k ⊢
    rw [List.any_eq_false] at k ⊢
    exact fun m hm => k m (holds.subset hm)
  unfold State.hasPlace at h ⊢
  cases o with
  | none =>
    simp only [Bool.or_false, Bool.not_eq_true'] at h ⊢
    exact full h
  | some a =>
    simp only [Bool.or_eq_true, Bool.and_eq_true, Bool.not_eq_true'] at h ⊢
    exact h.imp full (And.imp_right (taken a))

/-- A message of an owner that had a place is taken once an entry has been freed. -/
theorem State.freeTxn_takes {s : State} {i : Nat} {p : Txn} (h : entryAt s.sge.txns i = some p) {x : Sub} {o : Offer}
    (hp : s.hasPlace x o.owner = true) : (s.freeTxn i).takesOffer x o = true := by
  obtain ⟨queues, holds, -⟩ := State.freeTxn_shrinks h x
  have free : lowestFree (s.freeTxn i).sge.txns ≠ none := by
    refine (lowestFree_ne_none_iff _).2 ⟨i, ?_, State.freeTxn_gone h⟩
    rw [(State.freeTxn_table h).1, List.length_set]
    exact lt_of_entryAt h
  obtain ⟨j, hj⟩ := Option.ne_none_iff_exists'.1 free
  simp [State.takesOffer, State.hasPlace_of_sublist queues holds hp, State.tableFull, hj]

/-- What stands when the entry of a transaction has been freed, within a step in rank order. -/
structure State.Freed (i : Nat) (s f : State) : Prop where
  sbs : f.sbs = s.sbs
  mob : f.mob = s.mob
  cal : f.cal = s.cal
  vcp : f.vcp = s.vcp
  txt : f.txt = s.txt
  hlc : f.hlc = s.hlc
  psc : f.psc = s.psc
  clock : f.clock = s.clock
  rta : f.rta = { s.rta with asked := some [] }
  txns : f.sge.txns = s.sge.txns.set i none
  waiters : f.sge.waiters = s.sge.waiters.map s.marked
  takes : ∀ (x : Sub) (o : Offer), s.hasPlace x o.owner = true → f.takesOffer x o = true

theorem State.freeTxn_freed {s : State} {i : Nat} {p : Txn} (h : entryAt s.sge.txns i = some p) :
    s.Freed i ((s.setAsked (some [])).freeTxn i) := by
  let r := s.setAsked (some [])
  obtain ⟨-, -, waiters⟩ := State.freeTxn_shrinks (s := r) h .a
  exact {
    sbs := by simp [State.setAsked]
    mob := by simp [State.setAsked]
    cal := by simp [State.setAsked]
    vcp := by simp [State.setAsked]
    txt := by simp [State.setAsked]
    hlc := by simp [State.setAsked]
    psc := by simp [State.setAsked]
    clock := by simp [State.setAsked]
    rta := by simp [State.setAsked]
    txns := (State.freeTxn_table (s := r) h).1
    waiters := waiters
    takes := fun x o hp => State.freeTxn_takes (s := r) h (o := o) hp }

section Freed
variable {s f : State} {i : Nat}

theorem State.Freed.record (h : s.Freed i f) (y : Sub) : f.record y = s.record y := by unfold State.record; rw [h.sbs]

theorem State.Freed.activity (h : s.Freed i f) (y : Sub) : f.activity y = s.activity y := congrArg SubRecord.activity (h.record y)

theorem State.Freed.serving (h : s.Freed i f) (y : Sub) : f.serving y = s.serving y := by unfold State.serving State.mobOf; rw [h.mob]

theorem State.Freed.nobody (h : s.Freed i f) (hw : s.sge.waiters = []) : f.sge.waiters = [] := by rw [h.waiters, hw]; rfl

end Freed

/-- What the end of an idle LINK makes of a state: its entry is freed, those who wait may try, and its subscription settles (R14). -/
theorem idleExpiry_ends {s : State} {x : Sub} {ident : Ident} {i : Nat} {p : Txn} (hp : s.txnBy x ident = some (i, p)) (hk : p.kind = .link)
    (hs : p.state = .linked) (hi : p.idle = some 0) : s.idleExpiry x ident = ((s.freeTxn i).tryWaiters (some x)).settle x := by
  obtain ⟨entry, psub, -⟩ := State.txnBy_some hp
  have told : (s.freeTxn i).tellOwner p .linkIdle none = s.freeTxn i := by simp [State.tellOwner, hk, State.linkEnded]
  have e : s.idleExpiry x ident = s.endTxn i .linkIdle := by simp [State.idleExpiry, hp, hs, hi]
  rw [e, State.endTxn, State.endTxnWith_eq entry, told, psub]

/-- The update that waits is opened within the ending of another transaction of its subscription, before that settles. -/
theorem freed_opensUpdate {s f : State} {x : Sub} {i : Nat} {v : Serving} {due : Bool} (fr : s.Freed i f) (ha : s.activityOk)
    (hw : s.sge.waiters = [⟨.update, x, due⟩]) (hu : (s.record x).updatePending = true) (hv : s.serving x = some v)
    (hd : (s.record x).updateByPage = true ∨ (s.record x).dueFor v.area = true) (ho : s.activity x.other ≠ .inCall)
    (hq : s.hasPlace x (some .psc) = true) :
    s.UpdateOpened x (f.tryWaiters (some x)) ∧ (f.tryWaiters (some x)).sge.waiters = [] := by
  have camped := ha.camped (x := x) (by rw [hv]; exact Option.some_ne_none v)
  have may (u : State) (b : Bool) (hact : u.activity x = s.activity x) : u.mayTry ⟨.update, x, b⟩ = true := by
    show (_ || (u.activity x).isCampedState) = true
    rw [hact, camped, Bool.or_true]
  have waiters : f.sge.waiters = [⟨.update, x, true⟩] := by
    rw [fr.waiters, hw]
    simp [State.marked, may s due rfl]
  let c := f.clearDue .update x
  have opened : c.UpdateOpened x (c.tryOnce .update x) := by
    refine State.tryUpdate_opens (v := v) ?_ ((fr.serving x).trans hv) ?_ ?_ ?_ ?_
    · show (f.record x).updatePending = true; rw [fr.record]; exact hu
    · show (f.record x).updateByPage = true ∨ (f.record x).dueFor v.area = true; rw [fr.record]; exact hd
    · show f.activity x.other ≠ .inCall; rw [fr.activity]; exact ho
    · rw [(State.calls_congr (s := s) (t := c) fr.cal x.other).2]; exact ha.noCall ho
    · exact fr.takes x (c.areaOffer x v.area) hq
  have tried : f.tryWaiters (some x) = c.tryOnce .update x := by
    simp [State.tryWaiters, State.dueWaiters, waiters, may f true (fr.activity x), State.tryWaiter, c]
  rw [tried]
  refine ⟨{ opened with
    activity := opened.activity.trans (fr.activity x)
    mob := opened.mob.trans fr.mob
    cal := opened.cal.trans fr.cal
    txt := opened.txt.trans fr.txt
    waiters := ?_ }, ?_⟩
  · rw [opened.waiters, hw]
    simp [c, State.clearDue, waiters]
  · rw [opened.waiters]
    simp [c, State.clearDue, waiters]

/-- The third part of O23: the idle LINK ends, and the update that waits is opened before its subscription settles. -/
theorem linkIdle_opensUpdate {s : State} {x : Sub} {ident : Ident} {i : Nat} {p : Txn} {v : Serving} {due : Bool} (ha : s.activityOk)
    (hp : s.txnBy x ident = some (i, p)) (hk : p.kind = .link) (hs : p.state = .linked) (hi : p.idle = some 0)
    (hw : s.sge.waiters = [⟨.update, x, due⟩]) (hu : (s.record x).updatePending = true) (hv : s.serving x = some v)
    (hd : (s.record x).updateByPage = true ∨ (s.record x).dueFor v.area = true) (ho : s.activity x.other ≠ .inCall)
    (hq : s.hasPlace x (some .psc) = true) :
    ∃ t, exec (.linkIdle x ident) s = .next t ∧ (t.record x).registration = .updating ∧ (t.record x).updatePending = false ∧
      t.hasTxn x .area = true ∧ t.activity x = s.activity x ∧ t.sge.waiters = [] := by
  obtain ⟨entry, psub, -⟩ := State.txnBy_some hp
  let r := s.setAsked (some [])
  let w := (r.freeTxn i).tryWaiters (some x)
  obtain ⟨opened, nobody⟩ : s.UpdateOpened x w ∧ w.sge.waiters = [] :=
    freed_opensUpdate (State.freeTxn_freed entry) ha hw hu hv hd ho hq
  have acted : r.idleExpiry x ident = w.settle x := idleExpiry_ends (s := r) hp hk hs hi
  have same : w.activity x = w.derivedActivity x := by
    have some_w : (w.txnsOf x).isEmpty = false := by simpa [List.isEmpty_iff] using State.txnsOf_of_hasTxn opened.txn
    have some_s : (s.txnsOf x).isEmpty = false := by simpa [List.isEmpty_iff] using State.txnsOf_ne_nil entry psub
    rw [opened.activity, (ha x).1]
    refine (State.derivedActivity_congr opened.activity ?_ opened.cal (some_w.trans some_s.symm) ?_).symm
    · unfold State.serving State.mobOf; rw [opened.mob]
    · unfold State.outgoingOf; rw [opened.txt]
  obtain ⟨rests, sge, -, act⟩ := State.settle_tidies (.inl same)
  obtain ⟨-, -, -, -, -, -, isge, isbs, -⟩ := State.inRankOrder_keeps (fun u => u.idleExpiry x ident) s
  have isge : (s.inRankOrder fun u => u.idleExpiry x ident).sge = w.sge := by rw [isge, ← sge, ← acted]
  have isbs : (s.inRankOrder fun u => u.idleExpiry x ident).sbs = (w.settle x).sbs := by rw [isbs, ← acted]
  obtain ⟨-, -, -, -, -, -, tsge, tsbs, -⟩ := State.finish_agreesButSleep s (s.inRankOrder fun u => u.idleExpiry x ident)
  have record : (s.finish (s.inRankOrder fun u => u.idleExpiry x ident)).record x = (w.settle x).record x := by
    unfold State.record; rw [tsbs, isbs]
  have facts := rests.record x
  unfold SubRecord.sameFacts at facts
  refine ⟨_, rfl, ?_, ?_, ?_, ?_, ?_⟩
  · rw [record, facts]; exact opened.registration
  · rw [record, facts]; exact opened.pending
  · exact (State.hasTxn_congr (by rw [tsge, isge]) x .area).trans opened.txn
  · exact (congrArg SubRecord.activity record).trans (act.trans (same.symm.trans opened.activity))
  · rw [tsge, isge, nobody]

/-- Settles O23: a pending update and a due segment in their turns, and the update that an ending lets in. -/
theorem waitersTryAgain : Obligations.WaitersTryAgain := by
  refine ⟨fun s x v turn hp hb hv ha => ⟨fun hd ho ht => updateRetry_opens turn hp hv ha hd ho ht, fun hd => updateRetry_drops turn hp hb hv ha hd⟩,
    fun s x o turn ho hd ha => ⟨segmentRetry_sends turn ho hd ha, fun ht => segmentRetry_waits turn ho hd ha ht⟩,
    fun s x ident i p v due ha hp hk hs hi hw hu hv hd ho hq => linkIdle_opensUpdate ha hp hk hs hi hw hu hv hd ho hq⟩

end Sys2Proof.Machine
end

section
/-! Sitting 1: the turns in which the placements of a boundary are taken, and the rows of timers whose occasion is not at hand. -/

namespace Sys2Proof.Machine

/-! ### What a turn leaves alone outside RTA -/

/-- Contexts, hold stack and pending request stay; a retry of TRAFFIC may change. -/
def State.sameCalls (s t : State) : Prop :=
  t.cal.contexts = s.cal.contexts ∧ t.cal.holdStack = s.cal.holdStack ∧ t.cal.pendingReq = s.cal.pendingReq

theorem State.sameCalls.trans {s t u : State} (h : s.sameCalls t) (k : t.sameCalls u) : s.sameCalls u :=
  ⟨k.1.trans h.1, k.2.1.trans h.2.1, k.2.2.trans h.2.2⟩

theorem State.sameCalls_of_cal {s t : State} (h : t.cal = s.cal) : s.sameCalls t := by
  unfold State.sameCalls; rw [h]; exact ⟨rfl, rfl, rfl⟩

theorem State.sameCalls.ctx {s t : State} (h : s.sameCalls t) : t.ctx = s.ctx := by
  funext i; unfold State.ctx; rw [h.1]

theorem State.placeTraffic_sameCalls (x : Sub) (s : State) : s.sameCalls (s.placeTraffic x) := by
  have retry (u : State) (r : Retry) : u.sameCalls (u.onCal fun c => { c with trafficRetry := c.trafficRetry.set x r }) := ⟨rfl, rfl, rfl⟩
  unfold State.placeTraffic
  split
  · exact State.sameCalls_of_cal rfl
  · split <;> (have k := congrArg Prod.snd ‹_ = (_, _)›; dsimp only at k; subst k)
    · have placed := (State.sameCalls_of_cal (s := s) (t := (s.place x .traffic standingWindow).2) (by simp)).trans (retry _ .none)
      dsimp only
      split
      · exact placed.trans (State.sameCalls_of_cal (by simp))
      · exact placed
    · exact (State.sameCalls_of_cal (s := s) (t := (s.place x .traffic standingWindow).2) (by simp)).trans (retry _ .waiting)

theorem State.tryMeasure_cells (x : Sub) (s : State) : s.keepsCells (s.tryMeasure x) := by
  unfold State.tryMeasure
  dsimp only
  split <;> (have k := congrArg Prod.snd ‹_ = (_, _)›; dsimp only at k; subst k) <;>
    exact (State.keepsCells_of_mob (by simp)).trans (State.onMobOf_cells x _ (fun _ => by constructor <;> rfl) _)

theorem State.trySearch_cells (x : Sub) (s : State) : s.keepsCells (s.trySearch x) := by
  unfold State.trySearch
  dsimp only
  split <;> (have k := congrArg Prod.snd ‹_ = (_, _)›; dsimp only at k; subst k) <;>
    exact (State.keepsCells_of_mob (by simp)).trans (State.onMobOf_cells x _ (fun _ => by constructor <;> rfl) _)

theorem State.placeNow_keepsOwners (k : ClaimKind) (x : Sub) (s : State) : s.sameCalls (s.placeNow k x) ∧ s.keepsCells (s.placeNow k x) := by
  cases k with
  | handoverAccess => exact ⟨State.sameCalls_of_cal rfl, State.keepsCells_of_mob rfl⟩
  | traffic =>
    exact ⟨(State.placeTraffic_sameCalls x s).trans (State.sameCalls_of_cal (by simp [State.placeNow])),
      State.keepsCells_of_mob (by simp [State.placeNow])⟩
  | signalling =>
    exact ⟨State.sameCalls_of_cal (by simp [State.placeNow]), State.keepsCells_of_mob (by simp [State.placeNow, State.placeSignalling])⟩
  | pagingListen => exact ⟨State.sameCalls_of_cal (by simp [State.placeNow]), State.keepsCells_of_mob (by simp [State.placeNow])⟩
  | beaconRead => exact ⟨State.sameCalls_of_cal (by simp [State.placeNow]), State.tryRead_cells x s⟩
  | measure => exact ⟨State.sameCalls_of_cal (by simp [State.placeNow]), State.tryMeasure_cells x s⟩
  | search => exact ⟨State.sameCalls_of_cal (by simp [State.placeNow]), State.trySearch_cells x s⟩

theorem State.takeTurn_keepsOwners (e : ClaimKind × Sub) (s : State) : s.sameCalls (s.takeTurn e) ∧ s.keepsCells (s.takeTurn e) := by
  unfold State.takeTurn
  split
  · exact State.placeNow_keepsOwners e.1 e.2 (s.unask e.2 e.1)
  · split
    · exact State.placeNow_keepsOwners e.1 e.2 s
    · exact ⟨State.sameCalls_of_cal rfl, State.keepsCells_of_mob rfl⟩

theorem State.takeTurns_keepsOwners (l : List (ClaimKind × Sub)) (s : State) :
    s.sameCalls (l.foldl State.takeTurn s) ∧ s.keepsCells (l.foldl State.takeTurn s) := by
  induction l generalizing s with
  | nil => exact ⟨State.sameCalls_of_cal rfl, State.keepsCells_of_mob rfl⟩
  | cons e l ih =>
    obtain ⟨calls, cells⟩ := s.takeTurn_keepsOwners e
    obtain ⟨calls', cells'⟩ := ih (s.takeTurn e)
    exact ⟨calls.trans calls', cells.trans cells'⟩

/-- A step in rank order: what its turns keep of what its action has made. -/
theorem State.inRankOrder_keepsOwners (act : State → State) (s : State) :
    (act (s.setAsked (some []))).sameCalls (s.inRankOrder act) ∧ (act (s.setAsked (some []))).keepsCells (s.inRankOrder act) :=
  State.takeTurns_keepsOwners placementOrder _

/-- What its action has put in the host-bound queue and among the results stays there. -/
theorem State.inRankOrder_link (act : State → State) (s : State) :
    (∀ e ∈ (act (s.setAsked (some []))).hlc.queue, e ∈ (s.inRankOrder act).hlc.queue) ∧
      ∀ r ∈ (act (s.setAsked (some []))).hlc.results, r ∈ (s.inRankOrder act).hlc.results := by
  have turns : (act (s.setAsked (some []))).Evolves (placementOrder.foldl State.takeTurn (act (s.setAsked (some [])))) :=
    State.Evolves.foldl (fun _ _ => by simp) _ (.refl _)
  obtain ⟨-, -, results, queue, -⟩ := turns.hlc
  exact ⟨fun e he => queue.subset he, fun r hr => results.subset hr⟩

/-! ### A row whose occasion is not at hand (R7, R14, R17) -/

/-- A row in rank order whose action does nothing changes nothing. -/
theorem rankedRow_idle {act : State → State} {s : State} (h : act (s.setAsked (some [])) = s.setAsked (some [])) :
    ∃ t, s.answer (s.inRankOrder act) = .next t ∧ s.agrees t :=
  ⟨_, rfl, by rw [State.inRankOrder_same act s h]; exact State.finish_agrees rfl⟩

section Idle
variable {s : State} {x : Sub} {ident : Ident} {n : Nat}

theorem answerExpiry_idle (h : ∀ i p, s.txnBy x ident = some (i, p) → p.answer ≠ some 0) : s.answerExpiry x ident = s := by
  unfold State.answerExpiry
  split
  · rfl
  · next e he => rw [if_neg]; simp [h e.1 e.2 he]

theorem idleExpiry_idle (h : ∀ i p, s.txnBy x ident = some (i, p) → p.idle ≠ some 0) : s.idleExpiry x ident = s := by
  unfold State.idleExpiry
  split
  · rfl
  · next e he => rw [if_neg]; simp [h e.1 e.2 he]

theorem waitExpiry_idle (h : ∀ m, (s.sge.queues.get x)[n]? = some m → m.wait < 1024) : s.waitExpiry x n = s := by
  unfold State.waitExpiry
  split
  · rfl
  · next m hm =>
    have early : m.wait < Config.waitLimit := h m hm
    rw [if_pos early]

theorem ringExpiry_idle (h : (s.ctx n).ring ≠ some 0) : s.ringExpiry n = s := by
  simp [State.ringExpiry, h]

theorem deadlineExpiry_idle (h : ∀ e, entryAt s.txt.entries n = some e → 0 < e.deadline) : s.deadlineExpiry n = s := by
  unfold State.deadlineExpiry
  split
  · rfl
  · next e he => rw [if_neg (Nat.ne_of_gt (h e he))]

theorem returnExpiry_idle (h : 0 < (s.mobOf x).returnCounter) : s.returnExpiry x = s := by
  simp [State.returnExpiry, Nat.ne_of_gt h]

end Idle

/-- The first part of O16. -/
theorem expiries_idle (s : State) (x : Sub) (ident : Ident) (n : Nat) :
    ((∀ i p, s.txnBy x ident = some (i, p) → p.answer ≠ some 0) → ∃ t, exec (.answerTimerExpiry x ident) s = .next t ∧ s.agrees t) ∧
    ((∀ i p, s.txnBy x ident = some (i, p) → p.idle ≠ some 0) → ∃ t, exec (.linkIdle x ident) s = .next t ∧ s.agrees t) ∧
    ((∀ m, (s.sge.queues.get x)[n]? = some m → m.wait < 1024) → ∃ t, exec (.waitTimerExpiry x n) s = .next t ∧ s.agrees t) ∧
    ((s.ctx n).ring ≠ some 0 → ∃ t, exec (.ringTimeout n) s = .next t ∧ s.agrees t) ∧
    ((∀ e, entryAt s.txt.entries n = some e → 0 < e.deadline) → ∃ t, exec (.reassemblyDeadline n) s = .next t ∧ s.agrees t) ∧
    (0 < (s.mobOf x).returnCounter → ∃ t, exec (.returnCounterExpiry x) s = .next t ∧ s.agrees t) := by
  refine ⟨fun h => rankedRow_idle ?_, fun h => rankedRow_idle ?_, fun h => rankedRow_idle ?_, fun h => rankedRow_idle ?_, fun h => ?_,
    fun h => rankedRow_idle ?_⟩
  · exact answerExpiry_idle (s := s.setAsked (some [])) h
  · exact idleExpiry_idle (s := s.setAsked (some [])) h
  · exact waitExpiry_idle (s := s.setAsked (some [])) h
  · exact ringExpiry_idle (s := s.setAsked (some [])) h
  · refine ⟨s.finish (s.deadlineExpiry n), rfl, ?_⟩
    rw [deadlineExpiry_idle h]; exact State.finish_agrees rfl
  · exact returnExpiry_idle (s := s.setAsked (some [])) h

/-! ### A message is discarded (R7, R17) -/

theorem State.withdraw_asked (s : State) (x : Sub) (k : ClaimKind) :
    (s.withdraw x k).rta.asked = s.rta.asked.map fun l => l.filter (· != (k, x)) := by
  have marked (u : State) : u.markUnitWithdrawn.rta.asked = u.rta.asked := by unfold State.markUnitWithdrawn; split <;> rfl
  have purpose (u : State) : (u.dropPurpose x k).rta = u.rta := by unfold State.dropPurpose; split <;> rfl
  unfold State.withdraw
  dsimp only
  (repeat' split)
  · rfl
  · rw [marked]; rfl
  · rw [purpose]; rfl
  · rw [purpose]; rfl

/-- With nothing to send SIGNALLING is withdrawn, whether placements are taken at once or in turn. -/
theorem State.reexamine_empty {s : State} {x : Sub} (hq : s.sge.queues.get x = []) (ht : s.txnsOf x = []) :
    s.reexamine x = s.withdraw x .signalling := by
  unfold State.reexamine
  split
  · rfl
  · rw [if_pos (by rw [hq, ht]; rfl)]

/-- A row in rank order that ends with the withdrawal of SIGNALLING leaves none in place. -/
theorem inRankOrder_withdraws {act : State → State} {s u : State} {x : Sub} (h : act (s.setAsked (some [])) = u.withdraw x .signalling)
    (asked : u.rta.asked = some []) (hc : u.claimsOk) : (s.inRankOrder act).claimInPlace x .signalling = false := by
  rw [State.inRankOrder_idle act s (by rw [h, State.withdraw_asked, asked]; rfl), h]
  exact State.claimInPlace_withdraw hc

theorem State.finish_claimInPlace (s t : State) (x : Sub) (k : ClaimKind) : (s.finish t).claimInPlace x k = t.claimInPlace x k := by
  unfold State.claimInPlace State.claimOf; simp

section Discard
variable {s : State} {x : Sub} {m : Msg}

theorem dropQueued_rta (s : State) (x : Sub) (pos : Nat) : (s.dropQueued x pos).rta = s.rta := by simp

/-- The second part of O16: a message without a transaction has waited 1024 frames. -/
theorem waitExpiry_discards {n : Nat} (hm : (s.sge.queues.get x)[n]? = some m) (ho : m.opens = false) (hw : 1024 ≤ m.wait) (ha : s.activityOk) :
    ∃ t, exec (.waitTimerExpiry x n) s = .next t ∧ t.sge.queues.get x = (s.sge.queues.get x).eraseIdx n ∧
      t.sge.queues.get x.other = s.sge.queues.get x.other ∧ t.sge.txns = s.sge.txns ∧ t.cal.contexts = s.cal.contexts ∧
      t.cal.holdStack = s.cal.holdStack ∧ t.cal.pendingReq = s.cal.pendingReq ∧ t.txt = s.txt ∧
      (s.claimsOk → (s.sge.queues.get x).eraseIdx n = [] → s.txnsOf x = [] → t.claimInPlace x .signalling = false) := by
  let r := s.setAsked (some [])
  let u := r.dropQueued x n
  have usbs : u.sbs = s.sbs := by simp [u, r, State.setAsked]
  have act : u.activity x = s.activity x := by unfold State.activity State.record; rw [usbs]
  have txns : u.txnsOf x = s.txnsOf x := State.txnsOf_congr (s := r) (r.dropQueued_txns x n) x
  have same : u.activity x = u.derivedActivity x := by
    rw [act, (ha x).1]
    refine (State.derivedActivity_congr act ?_ ?_ (by rw [txns]) ?_).symm
    · simp [State.serving, State.mobOf, u, r, State.setAsked]
    · simp [u, r, State.setAsked]
    · simp [State.outgoingOf, u, r, State.setAsked]
  have acted : r.waitExpiry x n = u.settle x := by
    have late : ¬ m.wait < Config.waitLimit := Nat.not_lt.2 hw
    have here : (r.sge.queues.get x)[n]? = some m := hm
    simp [State.waitExpiry, here, late, ho, u]
  obtain ⟨rests, sge, -⟩ := State.settle_tidies (.inl same)
  obtain ⟨-, -, -, -, -, -, isge, -, -, itxt, -⟩ := State.inRankOrder_keeps (fun v => v.waitExpiry x n) s
  obtain ⟨⟨contexts, stack, pending⟩, -⟩ := State.inRankOrder_keepsOwners (fun v => v.waitExpiry x n) s
  obtain ⟨-, -, -, -, -, -, tsge, -, -, -, -, tcal, -, ttxt, -⟩ := State.finish_agreesButSleep s (s.inRankOrder fun v => v.waitExpiry x n)
  have tsge : (s.finish (s.inRankOrder fun v => v.waitExpiry x n)).sge = u.sge := by rw [tsge, isge, ← sge, ← acted]
  have cal : (r.waitExpiry x n).cal = s.cal := by rw [acted, rests.cal]; simp [u, r, State.setAsked]
  refine ⟨_, rfl, ?_, ?_, ?_, ?_, ?_, ?_, ?_, fun hc hq ht => ?_⟩
  · rw [tsge, State.dropQueued_queues]; simp [r, State.setAsked]
  · rw [tsge, State.dropQueued_queues]; simp [r, State.setAsked]
  · rw [tsge]; exact r.dropQueued_txns x n
  · rw [tcal, contexts]; exact congrArg _ cal
  · rw [tcal, stack]; exact congrArg _ cal
  · rw [tcal, pending]; exact congrArg _ cal
  · rw [ttxt, itxt]
    show (r.waitExpiry x n).txt = _
    rw [acted, rests.txt]; simp [u, r, State.setAsked]
  · rw [State.finish_claimInPlace]
    have tidy := State.derive_tidies (.inl same)
    have rta : (u.derive x).rta = r.rta := by rw [State.derive_same same]; simp [u]
    have queue : (u.derive x).sge.queues.get x = [] := by
      rw [tidy.sge, State.dropQueued_queues]; simpa [r, State.setAsked] using hq
    have gone : (u.derive x).txnsOf x = [] := (State.txnsOf_congr (by rw [tidy.sge]) x).trans (txns.trans ht)
    refine inRankOrder_withdraws (u := u.derive x) ?_ (by rw [rta]; rfl) (by unfold State.claimsOk; rw [rta]; exact hc)
    show r.waitExpiry x n = _
    rw [acted, State.settle_eq (.inl same), State.reexamine_empty queue gone]

/-- The third part of O16: a DETACH_NOTICE has waited 128 frames. -/
theorem noticeExpiry_discards {rest : List Msg} (hq : s.sge.queues.get x = m :: rest) (hn : m.isNotice = true) (hd : s.activity x = .detached)
    (hw : 128 ≤ m.wait) :
    ∃ t, exec (.detachNoticeExpiry x) s = .next t ∧ t.sge.queues.get x = rest ∧ t.sge.txns = s.sge.txns ∧
      (rest = [] → s.txnsOf x = [] → s.claimsOk → t.claimInPlace x .signalling = false) := by
  let r := s.setAsked (some [])
  let u := r.dropQueued x 0
  have acted : r.noticeExpiry x = u.reexamine x := by
    have here : r.sge.queues.get x = m :: rest := hq
    have off : r.activity x = .detached := hd
    have late : Config.noticeLimit ≤ m.wait := hw
    simp [State.noticeExpiry, here, hn, off, late, u]
  obtain ⟨-, -, -, -, -, -, isge, -⟩ := State.inRankOrder_keeps (fun v => v.noticeExpiry x) s
  obtain ⟨-, -, -, -, -, -, tsge, -⟩ := State.finish_agreesButSleep s (s.inRankOrder fun v => v.noticeExpiry x)
  have tsge : (s.finish (s.inRankOrder fun v => v.noticeExpiry x)).sge = u.sge := by
    rw [tsge, isge]
    show (r.noticeExpiry x).sge = _
    rw [acted]; simp
  have queue : u.sge.queues.get x = rest := by rw [State.dropQueued_queues]; simp [r, State.setAsked, hq]
  refine ⟨_, rfl, by rw [tsge, queue], by rw [tsge]; exact r.dropQueued_txns x 0, fun he ht hc => ?_⟩
  rw [State.finish_claimInPlace]
  have rta : u.rta = r.rta := by simp [u]
  refine inRankOrder_withdraws (u := u) ?_ (by rw [rta]; rfl) (by unfold State.claimsOk; rw [rta]; exact hc)
  show r.noticeExpiry x = _
  rw [acted, State.reexamine_empty (queue.trans he) ((State.txnsOf_congr (s := r) (r.dropQueued_txns x 0) x).trans ht)]

theorem noticeExpiry_idle {rest : List Msg} (hq : s.sge.queues.get x = m :: rest) (hw : m.wait < 128) :
    ∃ t, exec (.detachNoticeExpiry x) s = .next t ∧ s.agrees t := by
  refine rankedRow_idle ?_
  have here : (s.setAsked (some [])).sge.queues.get x = m :: rest := hq
  have early : ¬ Config.noticeLimit ≤ m.wait := Nat.not_le.2 hw
  unfold State.noticeExpiry
  rw [here]
  simp [early]

end Discard

end Sys2Proof.Machine
end

section
/-! Sitting 1: the claims and the placements asked for, through the turns of a boundary. -/

namespace Sys2Proof.Machine

/-! ### What the owners' placements do to RTA is the placement alone -/

theorem State.tryPaging_none {s : State} {x : Sub} (h : (s.pscOf x).schedule = none) : s.tryPaging x = s := by
  simp [State.tryPaging, h]

theorem State.tryPaging_rta {s : State} {x : Sub} {d : Schedule} (h : (s.pscOf x).schedule = some d) :
    (s.tryPaging x).rta = (s.place x .pagingListen (s.pagingWindow d)).2.rta := by
  unfold State.tryPaging
  rw [h]
  dsimp only
  split <;> (have k := congrArg Prod.snd ‹_ = (_, _)›; dsimp only at k; subst k)
  · rfl
  · simp

theorem State.tryRead_rta (s : State) (x : Sub) : (s.tryRead x).rta = (s.place x .beaconRead ⟨s.clock.now + 1, 15, 4, 0, false⟩).2.rta := by
  unfold State.tryRead State.readRefused State.readFailed
  dsimp only
  (repeat' split) <;> (have h := congrArg Prod.snd ‹_ = (_, _)›; dsimp only at h; subst h) <;> rfl

theorem State.tryMeasure_rta (s : State) (x : Sub) :
    (s.tryMeasure x).rta = (s.place x .measure ⟨s.clock.now + 1, 15, 1, s.measurePeriod x, false⟩).2.rta := by
  unfold State.tryMeasure
  dsimp only
  split <;> (have h := congrArg Prod.snd ‹_ = (_, _)›; dsimp only at h; subst h) <;> rfl

theorem State.trySearch_rta (s : State) (x : Sub) :
    (s.trySearch x).rta = (s.place x .search ⟨s.clock.now + 1, 15, 4, (s.mobOf x).params.searchInterval, false⟩).2.rta := by
  unfold State.trySearch
  dsimp only
  split <;> (have h := congrArg Prod.snd ‹_ = (_, _)›; dsimp only at h; subst h) <;> rfl

/-! ### What is asked for -/

section Asked
variable {s : State} {x y : Sub} {k l : ClaimKind}

theorem State.hasAsked_congr {t : State} (h : t.rta.asked = s.rta.asked) (y : Sub) (l : ClaimKind) : t.hasAsked y l = s.hasAsked y l := by
  simp only [State.hasAsked, h]

theorem State.hasAsked_filtered {t : State} (h : t.rta.asked = s.rta.asked.map fun e => e.filter (· != (k, x))) (y : Sub) (l : ClaimKind) :
    t.hasAsked y l = (s.hasAsked y l && (l, y) != (k, x)) := by
  simp only [State.hasAsked, h]
  cases s.rta.asked with
  | none => rfl
  | some e =>
    rw [Bool.eq_iff_iff]
    simp [List.mem_filter]
    tauto

theorem State.place_asked (s : State) (x : Sub) (k : ClaimKind) (w : Window) : (s.place x k w).2.rta.asked = s.rta.asked := by
  unfold State.place
  dsimp only
  (repeat' split) <;> simp [State.onClaim]

theorem State.onClaim_asked (i : Nat) (f : Claim → Claim) (s : State) : (s.onClaim i f).rta.asked = s.rta.asked := rfl

/-- A re-examination asks for SIGNALLING alone. -/
theorem State.reexamine_hasAsked (s : State) (x y : Sub) (hl : l ≠ .signalling) : (s.reexamine x).hasAsked y l = s.hasAsked y l := by
  have withdrawn : (s.withdraw x .signalling).hasAsked y l = s.hasAsked y l := by
    rw [State.hasAsked_filtered (s.withdraw_asked x .signalling), show ((l, y) != (ClaimKind.signalling, x)) = true by simp [hl], Bool.and_true]
  unfold State.reexamine
  (repeat' split)
  · exact withdrawn
  · exact withdrawn
  · rfl
  · cases ha : s.rta.asked with
    | none =>
      rw [State.ask_now ha]
      exact State.hasAsked_congr (s.place_asked x .signalling standingWindow) y l
    | some e =>
      rw [State.ask_later ha]
      split
      · rfl
      · simp [State.hasAsked, State.setAsked, ha, hl]

theorem State.placeTraffic_asked (s : State) (x : Sub) : (s.placeTraffic x).rta.asked = s.rta.asked := by
  unfold State.placeTraffic
  split
  · rfl
  · split <;> (have h := congrArg Prod.snd ‹_ = (_, _)›; dsimp only at h; subst h)
    · dsimp only
      split
      · unfold State.suspendClaim
        split
        · exact s.place_asked x .traffic standingWindow
        · exact s.place_asked x .traffic standingWindow
      · exact s.place_asked x .traffic standingWindow
    · exact s.place_asked x .traffic standingWindow

theorem State.tryPaging_asked (s : State) (x : Sub) : (s.tryPaging x).rta.asked = s.rta.asked := by
  cases h : (s.pscOf x).schedule with
  | none => rw [State.tryPaging_none h]
  | some d => rw [State.tryPaging_rta h]; exact State.place_asked ..

theorem State.tryRead_asked (s : State) (x : Sub) : (s.tryRead x).rta.asked = s.rta.asked := by
  rw [State.tryRead_rta]
  exact State.place_asked ..

theorem State.tryMeasure_asked (s : State) (x : Sub) : (s.tryMeasure x).rta.asked = s.rta.asked := by
  rw [State.tryMeasure_rta]
  exact State.place_asked ..

theorem State.trySearch_asked (s : State) (x : Sub) : (s.trySearch x).rta.asked = s.rta.asked := by
  rw [State.trySearch_rta]
  exact State.place_asked ..

theorem State.placeNow_hasAsked (s : State) (k : ClaimKind) (x y : Sub) (hl : l ≠ .signalling) :
    (s.placeNow k x).hasAsked y l = s.hasAsked y l := by
  cases k with
  | handoverAccess => rfl
  | traffic => exact (State.reexamine_hasAsked _ x y hl).trans (State.hasAsked_congr (s.placeTraffic_asked x) y l)
  | signalling => exact State.hasAsked_congr (s.place_asked x .signalling standingWindow) y l
  | pagingListen => exact State.hasAsked_congr (s.tryPaging_asked x) y l
  | beaconRead => exact State.hasAsked_congr (s.tryRead_asked x) y l
  | measure => exact State.hasAsked_congr (s.tryMeasure_asked x) y l
  | search => exact State.hasAsked_congr (s.trySearch_asked x) y l

/-- A turn takes back what is asked for of its own kind and subscription, and asks for SIGNALLING alone. -/
theorem State.takeTurn_hasAsked (s : State) (e : ClaimKind × Sub) (y : Sub) (hl : l ≠ .signalling) :
    ((s.takeTurn e).hasAsked y l = true → s.hasAsked y l = true) ∧ ((l, y) ≠ e → (s.takeTurn e).hasAsked y l = s.hasAsked y l) := by
  unfold State.takeTurn
  split
  · have taken : ((s.unask e.2 e.1).placeNow e.1 e.2).hasAsked y l = (s.hasAsked y l && (l, y) != (e.1, e.2)) :=
      (State.placeNow_hasAsked _ e.1 e.2 y hl).trans (State.hasAsked_filtered rfl y l)
    rw [taken]
    exact ⟨fun h => (Bool.and_eq_true_iff.1 h).1, fun h => by rw [show ((l, y) != (e.1, e.2)) = true by simpa using h, Bool.and_true]⟩
  · split
    · rw [State.placeNow_hasAsked s e.1 e.2 y hl]
      exact ⟨id, fun _ => rfl⟩
    · exact ⟨id, fun _ => rfl⟩

end Asked

/-! ### The claims of one kind and subscription -/

section Same
variable {s t u : State} {x y : Sub} {k l : ClaimKind}

theorem State.sameClaims.refl (y : Sub) (l : ClaimKind) (s : State) : s.sameClaims y l s := fun _ _ _ _ => Iff.rfl

theorem State.sameClaims.trans (h : s.sameClaims y l t) (k : t.sameClaims y l u) : s.sameClaims y l u :=
  fun i c hy hl => (k i c hy hl).trans (h i c hy hl)

theorem State.sameClaims_of_claims (h : t.rta.claims = s.rta.claims) : s.sameClaims y l t := by
  intro i c _ _; rw [h]

/-- No claim of this kind and subscription is in the table. -/
def State.noClaim (y : Sub) (l : ClaimKind) (s : State) : Prop := ∀ i c, entryAt s.rta.claims i = some c → ¬ (c.sub = y ∧ c.kind = l)

theorem State.noClaim_iff (s : State) : s.noClaim y l ↔ s.claimOf y l = none := by
  refine ⟨fun h => ?_, fun h i c hc => State.claimOf_none h i c hc⟩
  cases hc : s.claimOf y l with
  | none => rfl
  | some e =>
    obtain ⟨here, sub, kind⟩ := State.claimOf_some (e := e) hc
    exact absurd ⟨sub, kind⟩ (h e.1 e.2 here)

theorem State.sameClaims.noClaim (h : s.sameClaims y l t) (n : s.noClaim y l) : t.noClaim y l :=
  fun i c hc e => n i c ((h i c e.1 e.2).1 hc) e

/-- The one claim of this kind and subscription. -/
def State.soleClaim (y : Sub) (l : ClaimKind) (j : Nat) (c : Claim) (s : State) : Prop :=
  (entryAt s.rta.claims j = some c ∧ c.sub = y ∧ c.kind = l) ∧
    ∀ i d, entryAt s.rta.claims i = some d → d.sub = y → d.kind = l → i = j

theorem State.soleClaim.claimOf {j : Nat} {c : Claim} (h : s.soleClaim y l j c) : s.claimOf y l = some (j, c) := by
  obtain ⟨⟨hc, sub, kind⟩, sole⟩ := h
  cases hf : s.claimOf y l with
  | none => exact absurd ⟨sub, kind⟩ (State.claimOf_none hf j c hc)
  | some e =>
    obtain ⟨he, esub, ekind⟩ := State.claimOf_some (e := e) hf
    obtain rfl : e.1 = j := sole e.1 e.2 he esub ekind
    rw [Option.some.inj (hc.symm.trans he)]

theorem State.sameClaims.soleClaim {j : Nat} {c : Claim} (h : s.sameClaims y l t) (k : s.soleClaim y l j c) : t.soleClaim y l j c := by
  obtain ⟨⟨hc, sub, kind⟩, sole⟩ := k
  exact ⟨⟨(h j c sub kind).2 hc, sub, kind⟩, fun i d hd ds dk => sole i d ((h i d ds dk).1 hd) ds dk⟩

theorem State.reexamine_sameClaims (s : State) (x : Sub) (hl : l ≠ .signalling) : s.sameClaims y l (s.reexamine x) := by
  unfold State.reexamine State.ask
  (repeat' split)
  · exact s.withdraw_sameClaims (.inr hl)
  · exact s.withdraw_sameClaims (.inr hl)
  · exact .refl y l _
  · exact s.place_sameClaims _ (.inr hl)
  · exact .refl y l _
  · exact State.sameClaims_of_claims rfl

/-- A claim changed but for its kind and subscription is no other's. -/
theorem State.onClaim_sameClaims {i : Nat} {f : Claim → Claim} (hf : ∀ c, (f c).sub = c.sub ∧ (f c).kind = c.kind)
    (hi : ∀ c, entryAt s.rta.claims i = some c → ¬ (c.sub = y ∧ c.kind = l)) : s.sameClaims y l (s.onClaim i f) := by
  intro j c hy hl
  have changed : entryAt (s.onClaim i f).rta.claims j = if i = j then (entryAt s.rta.claims j).map f else entryAt s.rta.claims j :=
    entryAt_modify_map ..
  rw [changed]
  split
  · next h =>
    subst h
    constructor
    · intro e
      obtain ⟨d, hd, rfl⟩ := Option.map_eq_some_iff.1 e
      exact absurd ⟨(hf d).1.symm.trans hy, (hf d).2.symm.trans hl⟩ (hi d hd)
    · exact fun e => absurd ⟨hy, hl⟩ (hi c e)
  · exact Iff.rfl

theorem State.suspendClaim_sameClaims (s : State) (hne : y ≠ x ∨ l ≠ k) : s.sameClaims y l (s.suspendClaim x k) := by
  unfold State.suspendClaim
  split
  · exact .refl y l _
  · next e he =>
    obtain ⟨here, sub, kind⟩ := State.claimOf_some (e := e) he
    refine State.onClaim_sameClaims (fun c => ?_) (fun c hc h => ?_)
    · split <;> exact ⟨rfl, rfl⟩
    · obtain rfl : e.2 = c := Option.some.inj (here.symm.trans hc)
      cases hne with
      | inl n => exact n (h.1.symm.trans sub)
      | inr n => exact n (h.2.symm.trans kind)

theorem State.placeTraffic_sameClaims (s : State) (hne : y ≠ x ∨ l ≠ .traffic) : s.sameClaims y l (s.placeTraffic x) := by
  have placed := s.place_sameClaims standingWindow hne
  unfold State.placeTraffic
  split
  · exact .refl y l _
  · split <;> (have h := congrArg Prod.snd ‹_ = (_, _)›; dsimp only at h; subst h)
    · dsimp only
      split
      · exact placed.trans ((State.sameClaims_of_claims rfl).trans (State.suspendClaim_sameClaims _ hne))
      · exact placed
    · exact placed

theorem State.tryPaging_sameClaims (s : State) (hne : y ≠ x ∨ l ≠ .pagingListen) : s.sameClaims y l (s.tryPaging x) := by
  cases h : (s.pscOf x).schedule with
  | none => rw [State.tryPaging_none h]; exact .refl y l s
  | some d => exact (s.place_sameClaims (s.pagingWindow d) hne).trans (State.sameClaims_of_claims (by rw [State.tryPaging_rta h]))

theorem State.placeNow_sameClaims (s : State) (hs : l ≠ .signalling) (hne : (l, y) ≠ (k, x)) : s.sameClaims y l (s.placeNow k x) := by
  have other : y ≠ x ∨ l ≠ k := by
    by_contra h
    rw [not_or, not_not, not_not] at h
    exact hne (Prod.ext h.2 h.1)
  have by_place {t : State} {w : Window} (h : t.rta = (s.place x k w).2.rta) : s.sameClaims y l t :=
    (s.place_sameClaims w other).trans (State.sameClaims_of_claims (by rw [h]))
  cases k with
  | handoverAccess => exact .refl y l _
  | traffic => exact (s.placeTraffic_sameClaims other).trans (State.reexamine_sameClaims _ x hs)
  | signalling => exact by_place rfl
  | pagingListen => exact s.tryPaging_sameClaims other
  | beaconRead => exact by_place (s.tryRead_rta x)
  | measure => exact by_place (s.tryMeasure_rta x)
  | search => exact by_place (s.trySearch_rta x)

/-- A turn changes the claims of its own kind and subscription, and of SIGNALLING, alone. -/
theorem State.takeTurn_sameClaims (s : State) {e : ClaimKind × Sub} (hs : l ≠ .signalling) (hne : (l, y) ≠ e) :
    s.sameClaims y l (s.takeTurn e) := by
  unfold State.takeTurn
  split
  · exact State.placeNow_sameClaims (s.unask e.2 e.1) hs hne
  · split
    · exact s.placeNow_sameClaims hs hne
    · exact .refl y l _

theorem State.takeTurns_sameClaims (order : List (ClaimKind × Sub)) (s : State) (hs : l ≠ .signalling) (hne : (l, y) ∉ order) :
    s.sameClaims y l (order.foldl State.takeTurn s) := by
  induction order generalizing s with
  | nil => exact .refl y l _
  | cons e order ih =>
    rw [List.mem_cons, not_or] at hne
    exact (s.takeTurn_sameClaims hs hne.1).trans (ih _ hne.2)

end Same

/-! ### How many claims there are -/

theorem takenFrom_length {α : Type} (n : Nat) (l : List (Option α)) : (takenFrom n l).length = l.countP Option.isSome := by
  induction l generalizing n with
  | nil => rfl
  | cons e l ih => cases e <;> simp [takenFrom, ih]

/-- How many entries of the claim table are taken. -/
def State.claimCount (s : State) : Nat := (taken s.rta.claims).length

theorem State.claimCount_eq (s : State) : s.claimCount = s.rta.claims.countP Option.isSome := takenFrom_length ..

theorem countP_set_le {α : Type} (l : List (Option α)) (i : Nat) (v : Option α) :
    (l.set i v).countP Option.isSome ≤ l.countP Option.isSome + 1 := by
  induction l generalizing i with
  | nil => simp
  | cons e l ih =>
    cases i with
    | zero => simp only [List.set_cons_zero, List.countP_cons]; split <;> omega
    | succ i => simp only [List.set_cons_succ, List.countP_cons]; have := ih i; omega

theorem countP_set_none_le {α : Type} (l : List (Option α)) (i : Nat) : (l.set i none).countP Option.isSome ≤ l.countP Option.isSome := by
  induction l generalizing i with
  | nil => simp
  | cons e l ih =>
    cases i with
    | zero => simp [List.countP_cons]
    | succ i => simp only [List.set_cons_succ, List.countP_cons]; have := ih i; omega

theorem countP_modify_map {α : Type} (f : α → α) (l : List (Option α)) (i : Nat) :
    (l.modify i (Option.map f)).countP Option.isSome = l.countP Option.isSome := by
  induction l generalizing i with
  | nil => simp
  | cons e l ih =>
    cases i with
    | zero => cases e <;> simp
    | succ i => simp [List.countP_cons, ih]

theorem State.onClaim_count (i : Nat) (f : Claim → Claim) (s : State) : (s.onClaim i f).claimCount = s.claimCount := by
  rw [State.claimCount_eq, State.claimCount_eq]; exact countP_modify_map ..

theorem State.claimCount_congr {s t : State} (h : t.rta.claims = s.rta.claims) : t.claimCount = s.claimCount := by
  unfold State.claimCount; rw [h]

theorem State.place_count (s : State) (x : Sub) (k : ClaimKind) (w : Window) : (s.place x k w).2.claimCount ≤ s.claimCount + 1 := by
  unfold State.place
  dsimp only
  split
  · rw [State.claimCount_congr (congrArg Rta.claims (State.recomputeWake_keeps _).2.2.2.2.2.1), State.onClaim_count]
    exact Nat.le_succ _
  · split
    · exact Nat.le_succ _
    · rw [State.claimCount_eq, State.claimCount_eq]
      simp only [State.recomputeWake_keeps, State.onRta_rta]
      exact countP_set_le ..

theorem State.withdraw_count (s : State) (x : Sub) (k : ClaimKind) : (s.withdraw x k).claimCount ≤ s.claimCount := by
  have marked (u : State) : u.markUnitWithdrawn.rta.claims = u.rta.claims := by unfold State.markUnitWithdrawn; split <;> rfl
  have purpose (u : State) : (u.dropPurpose x k).rta = u.rta := by unfold State.dropPurpose; split <;> rfl
  unfold State.withdraw
  dsimp only
  (repeat' split)
  · exact Nat.le_refl _
  · rw [State.claimCount_congr (marked _), State.onClaim_count]; exact Nat.le_refl _
  · rw [State.claimCount_congr (congrArg Rta.claims (purpose _)), State.claimCount_eq, State.claimCount_eq]; exact countP_set_none_le ..
  · rw [State.claimCount_congr (congrArg Rta.claims (purpose _)), State.claimCount_eq, State.claimCount_eq]; exact countP_set_none_le ..

/-- A table with fewer claims than places has a free one. -/
theorem State.room_of_count {s : State} (h : s.claimCount < s.rta.claims.length) : ∃ i, lowestFree s.rta.claims = some i := by
  by_contra hn
  have full := lowestFree_none (Option.eq_none_iff_forall_ne_some.2 fun i hi => hn ⟨i, hi⟩)
  rw [State.claimCount_eq, List.countP_eq_length.2 fun e he => Option.isSome_iff_ne_none.2 (full e he)] at h
  exact Nat.lt_irrefl _ h

end Sys2Proof.Machine
end

section
/-! Sitting 1: PAGING_LISTEN placed in its turn when a subscription becomes CAMPED, and LINK_IDLE (O16). -/

namespace Sys2Proof.Machine

/-! ### The turns before that of PAGING_LISTEN -/

theorem State.onPscOf_schedule (x y : Sub) (f : PscSub → PscSub) (hf : ∀ p, (f p).schedule = p.schedule) (s : State) :
    ((s.onPscOf x f).pscOf y).schedule = (s.pscOf y).schedule := by
  have e : (s.onPscOf x f).pscOf y = if y = x then f (s.pscOf y) else s.pscOf y := PerSub.get_upd ..
  rw [e]
  split
  · exact hf _
  · rfl

theorem State.lostOccasion_schedule (s : State) (x y : Sub) (wasMissed : Bool) :
    ((s.lostOccasion x wasMissed).pscOf y).schedule = (s.pscOf y).schedule := by
  have reported (u : State) (r : Report) : (u.report r).pscOf y = u.pscOf y := by unfold State.pscOf; simp
  have either (c : Prop) [Decidable c] (r : Report) (f : PscSub → PscSub) (hf : ∀ p, (f p).schedule = p.schedule) :
      ((if c then (s.clearRun x).report r else s.onPscOf x f).pscOf y).schedule = (s.pscOf y).schedule := by
    split
    · rw [reported]; exact State.onPscOf_schedule x y _ (fun _ => by rfl) s
    · exact State.onPscOf_schedule x y f hf s
  exact either _ _ _ fun _ => by rfl

theorem State.placeNow_schedule (s : State) (k : ClaimKind) (x y : Sub) : ((s.placeNow k x).pscOf y).schedule = (s.pscOf y).schedule := by
  have of_per {t : State} (h : t.psc.per = s.psc.per) : (t.pscOf y).schedule = (s.pscOf y).schedule := by unfold State.pscOf; rw [h]
  cases k with
  | handoverAccess => rfl
  | traffic => exact of_per (by simp [State.placeNow])
  | signalling => exact of_per (by simp [State.placeNow, State.placeSignalling])
  | pagingListen =>
    show ((s.tryPaging x).pscOf y).schedule = _
    unfold State.tryPaging
    split
    · rfl
    · next d _ =>
      have placed : ((s.place x .pagingListen (s.pagingWindow d)).2.pscOf y).schedule = (s.pscOf y).schedule := of_per (by simp)
      split <;> (have h := congrArg Prod.snd ‹_ = (_, _)›; dsimp only at h; subst h)
      · exact (State.onPscOf_schedule x y _ (fun _ => by rfl) _).trans placed
      · exact (State.lostOccasion_schedule ..).trans ((State.onPscOf_schedule x y _ (fun _ => by rfl) _).trans placed)
  | beaconRead => exact of_per (by simp [State.placeNow])
  | measure =>
    refine of_per (t := s.tryMeasure x) ?_
    show (s.tryMeasure x).psc.per = _
    unfold State.tryMeasure
    dsimp only
    split <;> (have h := congrArg Prod.snd ‹_ = (_, _)›; dsimp only at h; subst h) <;> simp
  | search => exact of_per (by simp [State.placeNow])

theorem State.takeTurn_schedule (s : State) (e : ClaimKind × Sub) (y : Sub) : ((s.takeTurn e).pscOf y).schedule = (s.pscOf y).schedule := by
  unfold State.takeTurn
  split
  · exact State.placeNow_schedule ..
  · split
    · exact State.placeNow_schedule ..
    · rfl

/-- Where placements are taken in turn, a re-examination takes no entry. -/
theorem State.reexamine_count {s : State} (h : s.rta.asked ≠ none) (x : Sub) : (s.reexamine x).claimCount ≤ s.claimCount := by
  unfold State.reexamine
  (repeat' split)
  · exact State.withdraw_count ..
  · exact State.withdraw_count ..
  · exact Nat.le_refl _
  · obtain ⟨l, hl⟩ := Option.ne_none_iff_exists'.1 h
    rw [State.ask_later hl]
    split <;> exact Nat.le_refl _

theorem State.placeTraffic_count (s : State) (x : Sub) : (s.placeTraffic x).claimCount ≤ s.claimCount + 1 := by
  have placed := s.place_count x .traffic standingWindow
  unfold State.placeTraffic
  split
  · exact Nat.le_succ _
  · split <;> (have h := congrArg Prod.snd ‹_ = (_, _)›; dsimp only at h; subst h)
    · dsimp only
      split
      · unfold State.suspendClaim
        split
        · exact placed
        · rw [State.onClaim_count]; exact placed
      · exact placed
    · exact placed

/-- A placement taken in its turn takes at most one entry. -/
theorem State.placeNow_count {s : State} (h : s.rta.asked ≠ none) (k : ClaimKind) (x : Sub) : (s.placeNow k x).claimCount ≤ s.claimCount + 1 := by
  have of_rta {t : State} {w : Window} (e : t.rta = (s.place x k w).2.rta) : t.claimCount ≤ s.claimCount + 1 := by
    rw [State.claimCount_congr (congrArg Rta.claims e)]; exact s.place_count ..
  cases k with
  | handoverAccess => exact Nat.le_succ _
  | traffic => exact Nat.le_trans (State.reexamine_count (by rw [s.placeTraffic_asked]; exact h) x) (s.placeTraffic_count x)
  | signalling => exact of_rta rfl
  | pagingListen =>
    cases h : (s.pscOf x).schedule with
    | none => rw [show s.placeNow .pagingListen x = s from State.tryPaging_none h]; exact Nat.le_succ _
    | some d => exact of_rta (State.tryPaging_rta h)
  | beaconRead => exact of_rta (s.tryRead_rta x)
  | measure => exact of_rta (s.tryMeasure_rta x)
  | search => exact of_rta (s.trySearch_rta x)

theorem State.asked_of_hasAsked {s : State} {x : Sub} {k : ClaimKind} (h : s.hasAsked x k = true) : s.rta.asked ≠ none := by
  intro e
  simp [State.hasAsked, e] at h

theorem State.takeTurn_count {s : State} (h : s.rta.asked ≠ none) (e : ClaimKind × Sub) : (s.takeTurn e).claimCount ≤ s.claimCount + 1 := by
  unfold State.takeTurn
  split
  · rw [← State.claimCount_congr (s := s) (t := s.unask e.2 e.1) rfl]
    refine State.placeNow_count ?_ e.1 e.2
    obtain ⟨l, hl⟩ := Option.ne_none_iff_exists'.1 h
    simp [State.unask, hl]
  · split
    · exact State.placeNow_count h e.1 e.2
    · exact Nat.le_succ _

/-- `x` is CAMPED and waits for the turn of its PAGING_LISTEN, asked for at frame `now` with schedule `d`: at most `n` entries are taken,
and the other subscription has an established call or not as `busy` says. -/
structure State.Awaits (x : Sub) (d : Schedule) (now : Frame) (busy : Bool) (n : Nat) (s : State) : Prop where
  asked : s.hasAsked x .pagingListen = true
  others : ∀ y l, l ≠ .signalling → s.hasAsked y l = true → y = x ∧ (l = .pagingListen ∨ l = .beaconRead)
  claim : s.noClaim x .pagingListen
  schedule : (s.pscOf x).schedule = some d
  size : s.rta.claims.length = 12
  count : s.claimCount ≤ n
  noCall : s.hasCall x = false
  other : s.hasCall x.other = busy
  inCall : busy = true → s.activity x.other ≠ .camped
  clock : s.clock.now = now

section Awaits
variable {s : State} {x : Sub} {d : Schedule} {now : Frame} {busy : Bool} {n : Nat}

/-- Another's turn takes at most one entry, and leaves the rest as it is. -/
theorem State.Awaits.turn (h : s.Awaits x d now busy n) {e : ClaimKind × Sub} (hne : e ≠ (.pagingListen, x)) :
    (s.takeTurn e).Awaits x d now busy (n + 1) := by
  obtain ⟨calls, -⟩ := s.takeTurn_keepsOwners e
  have call (y : Sub) : (s.takeTurn e).hasCall y = s.hasCall y := by
    have of : (s.takeTurn e).ctxOf y = s.ctxOf y := by funext i; simp only [State.ctxOf, calls.ctx]
    simp only [State.hasCall, of, calls.ctx]
  obtain ⟨-, -, -, len, -⟩ := (State.takeTurn_evolves e (.refl s)).rta
  exact {
    asked := ((s.takeTurn_hasAsked e x (by decide)).2 hne.symm).trans h.asked
    others := fun y l hl ha => h.others y l hl ((s.takeTurn_hasAsked e y hl).1 ha)
    claim := (s.takeTurn_sameClaims (by decide) hne.symm).noClaim h.claim
    schedule := (s.takeTurn_schedule e x).trans h.schedule
    size := len.trans h.size
    count := Nat.le_trans (State.takeTurn_count (State.asked_of_hasAsked h.asked) e) (Nat.succ_le_succ h.count)
    noCall := (call x).trans h.noCall
    other := (call x.other).trans h.other
    inCall := fun hb => by
      have same : (s.takeTurn e).activity x.other = s.activity x.other := by simp [State.activity, State.record]
      rw [same]; exact h.inCall hb
    clock := by rw [(s.takeTurn_keeps e).2.2.2.1]; exact h.clock }

/-- A turn whose placement is neither asked for nor due passes. -/
theorem State.takeTurn_passes {e : ClaimKind × Sub} (ha : s.hasAsked e.2 e.1 = false) (hd : s.placementDue e.1 e.2 = false) :
    s.takeTurn e = s := by
  simp [State.takeTurn, ha, hd]

theorem State.Awaits.notAsked (h : s.Awaits x d now busy n) {y : Sub} {l : ClaimKind} (hl : l ≠ .signalling)
    (hn : ¬ (y = x ∧ (l = .pagingListen ∨ l = .beaconRead))) : s.hasAsked y l = false := by
  by_contra ha
  exact hn (h.others y l hl (by simpa using ha))

theorem State.Awaits.access (h : s.Awaits x d now busy n) (y : Sub) : s.takeTurn (.handoverAccess, y) = s :=
  State.takeTurn_passes (h.notAsked (by simp) (by simp)) rfl

theorem State.Awaits.traffic (h : s.Awaits x d now busy n) {y : Sub} (hc : s.hasCall y = false) : s.takeTurn (.traffic, y) = s :=
  State.takeTurn_passes (h.notAsked (by simp) (by simp)) (by simp [State.placementDue, hc])

theorem State.Awaits.paging (h : s.Awaits x d now true n) : s.takeTurn (.pagingListen, x.other) = s :=
  State.takeTurn_passes (h.notAsked (by simp) fun k => other_ne x k.1) (by simp [State.placementDue, h.inCall rfl])

/-- The turns before that of the PAGING_LISTEN of a subscription. -/
def turnsBefore : Sub → List (ClaimKind × Sub)
  | .a => [(.handoverAccess, .a), (.handoverAccess, .b), (.traffic, .a), (.traffic, .b), (.signalling, .a), (.signalling, .b)]
  | .b => [(.handoverAccess, .a), (.handoverAccess, .b), (.traffic, .a), (.traffic, .b), (.signalling, .a), (.signalling, .b),
      (.pagingListen, .a)]

/-- The turns after it. -/
def turnsAfter : Sub → List (ClaimKind × Sub)
  | .a => [(.pagingListen, .b), (.beaconRead, .a), (.beaconRead, .b), (.measure, .a), (.measure, .b), (.search, .a), (.search, .b)]
  | .b => [(.beaconRead, .a), (.beaconRead, .b), (.measure, .a), (.measure, .b), (.search, .a), (.search, .b)]

theorem placementOrder_split (x : Sub) : placementOrder = turnsBefore x ++ (ClaimKind.pagingListen, x) :: turnsAfter x := by
  cases x <;> rfl

/-- Where the call of the other is known, its turns of TRAFFIC and PAGING_LISTEN take no two entries. -/
theorem State.Awaits.before_b (h : s.Awaits .b d now busy n) :
    ((turnsBefore .b).foldl State.takeTurn s).Awaits .b d now busy (n + 3) := by
  simp only [turnsBefore, List.foldl_cons, List.foldl_nil, h.access]
  cases busy with
  | true =>
    have traffic := h.turn (e := (.traffic, .a)) (by decide)
    rw [traffic.traffic traffic.noCall]
    have both := (traffic.turn (e := (.signalling, .a)) (by decide)).turn (e := (.signalling, .b)) (by decide)
    rw [show State.takeTurn _ (.pagingListen, .a) = _ from both.paging]
    exact both
  | false =>
    rw [h.traffic (y := .a) h.other, h.traffic h.noCall]
    exact ((h.turn (e := (.signalling, .a)) (by decide)).turn (e := (.signalling, .b)) (by decide)).turn (by decide)

theorem State.Awaits.before_a (h : s.Awaits .a d now busy n) :
    ((turnsBefore .a).foldl State.takeTurn s).Awaits .a d now busy (n + 3) := by
  simp only [turnsBefore, List.foldl_cons, List.foldl_nil, h.access, h.traffic h.noCall]
  exact ((h.turn (e := (.traffic, .b)) (by decide)).turn (e := (.signalling, .a)) (by decide)).turn (by decide)

/-- In its turn PAGING_LISTEN takes an entry, with the window of R69. -/
theorem State.Awaits.taken (h : s.Awaits x d now busy n) (hn : n < 12) :
    ∃ j, (s.takeTurn (.pagingListen, x)).soleClaim x .pagingListen j
      (newClaim x .pagingListen (Window.placedAt now ⟨pagingFirst now d, 0, d.length, d.cycle, false⟩)) := by
  let u := s.unask x .pagingListen
  have turn : s.takeTurn (.pagingListen, x) = u.tryPaging x := by simp [State.takeTurn, h.asked, State.placeNow, u]
  have none : u.claimOf x .pagingListen = none := (State.noClaim_iff (s := u)).1 h.claim
  obtain ⟨j, hj⟩ := State.room_of_count (s := u) (by
    rw [show u.rta.claims.length = 12 from h.size]; exact Nat.lt_of_le_of_lt h.count hn)
  have rta := State.tryPaging_rta (s := u) (x := x) h.schedule
  have window : u.pagingWindow d = ⟨pagingFirst now d, 0, d.length, d.cycle, false⟩ := by
    unfold State.pagingWindow
    rw [show u.clock.now = now from h.clock]
  have entries (i : Nat) : entryAt (s.takeTurn (.pagingListen, x)).rta.claims i = if j = i then
      some (newClaim x .pagingListen (Window.placedAt now ⟨pagingFirst now d, 0, d.length, d.cycle, false⟩)) else entryAt s.rta.claims i := by
    rw [turn, rta]
    rw [State.place_entry, none, hj, window, show u.clock.now = now from h.clock]
    rfl
  refine ⟨j, ⟨by rw [entries, if_pos rfl], rfl, rfl⟩, fun i c hc sub kind => ?_⟩
  by_contra hne
  rw [entries, if_neg (Ne.symm hne)] at hc
  exact h.claim i c hc ⟨sub, kind⟩

/-- The turns after its own leave the claim as it is. -/
theorem State.Awaits.stays {before later : List (ClaimKind × Sub)} (h : (before.foldl State.takeTurn s).Awaits x d now busy n) (hn : n < 12)
    (hl : (.pagingListen, x) ∉ later) : ∃ j, ((before ++ (.pagingListen, x) :: later).foldl State.takeTurn s).soleClaim x .pagingListen j
      (newClaim x .pagingListen (Window.placedAt now ⟨pagingFirst now d, 0, d.length, d.cycle, false⟩)) := by
  rw [List.foldl_append, List.foldl_cons]
  obtain ⟨j, placed⟩ := h.taken hn
  have kept := State.takeTurns_sameClaims (y := x) (l := .pagingListen) later ((before.foldl State.takeTurn s).takeTurn (.pagingListen, x))
    (by decide) hl
  exact ⟨j, kept.soleClaim placed⟩

/-- The turns of a boundary place the PAGING_LISTEN that a subscription waits for. -/
theorem State.Awaits.placed (h : s.Awaits x d now busy 8) :
    ∃ j, (placementOrder.foldl State.takeTurn s).soleClaim x .pagingListen j
      (newClaim x .pagingListen (Window.placedAt now ⟨pagingFirst now d, 0, d.length, d.cycle, false⟩)) := by
  rw [placementOrder_split x]
  cases x with
  | a => exact h.before_a.stays (by decide) (by decide)
  | b => exact h.before_b.stays (by decide) (by decide)

end Awaits

end Sys2Proof.Machine
end

section
/-! Sitting 1: what becoming CAMPED asks for, and LINK_IDLE (O16). -/

namespace Sys2Proof.Machine

/-! ### Becoming CAMPED within a boundary (R21, R69) -/

/-- With no owner waiting, settling is deriving and re-examining. -/
theorem State.settle_none {s : State} (h : s.sge.waiters = []) (x : Sub) : s.settle x = (s.derive x).reexamine x := by
  unfold State.settle
  dsimp only
  split
  · rw [State.tryWaiters_none ((State.settleAlone_rests x s).waiters h)]; rfl
  · rfl

theorem State.writeActivity_record (s : State) (x y : Sub) (a : Activity) :
    (s.writeActivity x a).record y = if y = x then { s.record y with activity := a } else s.record y := by
  have plain : (s.onRecord x fun r => { r with activity := a }).record y = if y = x then { s.record y with activity := a } else s.record y :=
    PerSub.get_upd ..
  have sbs : (s.writeActivity x a).sbs = (s.onRecord x fun r => { r with activity := a }).sbs := by
    unfold State.writeActivity
    dsimp only
    split
    · exact (State.markWaiters_keeps ..).2.2.2.2.2.2.2.1
    · rfl
  rw [← plain]
  unfold State.record
  rw [sbs]

/-- A subscription that leaves ATTENDED or IN_CALL for CAMPED, its cell not barred. -/
theorem State.derive_leaves {s : State} {x : Sub} (hb : (s.activity x).isBusy = true) (hd : s.derivedActivity x = .camped)
    (hu : (s.serving x).any (·.barred) = false) : s.derive x =
      ((((s.writeActivity x .camped).setFilter x false).placePaging x).refreshRead x).updateStanding x := by
  have changed : s.activity x ≠ .camped := fun e => by rw [e] at hb; cases hb
  have serving : ((s.writeActivity x .camped).setFilter x false).serving x = s.serving x := by
    unfold State.serving State.mobOf; simp
  unfold State.derive
  dsimp only
  rw [hd, if_neg changed, if_neg changed]
  show State.updateStanding x (State.enterCamped x _) = _
  unfold State.enterCamped
  dsimp only
  rw [if_neg (by rw [serving, hu]; exact Bool.false_ne_true)]

/-- A subscription that is CAMPED after settling was derived as CAMPED, if it was ATTENDED or IN_CALL before. -/
theorem State.derived_of_camped {s : State} {x : Sub} (hb : (s.activity x).isBusy = true) (h : (s.derive x).activity x = .camped) :
    s.derivedActivity x = .camped := by
  by_contra hn
  refine hn ?_
  have wrote : (s.writeActivity x (s.derivedActivity x)).activity x = s.derivedActivity x := by
    unfold State.activity
    rw [State.writeActivity_record, if_pos rfl]
  rw [← h]
  unfold State.derive
  dsimp only
  rw [State.updateStanding_activity]
  by_cases he : s.activity x = s.derivedActivity x
  · simp [he]
  · simp only [he, if_false, hb, if_true]
    split
    · next hd => exact absurd hd hn
    · exact wrote.symm
    · exact wrote.symm
    · exact wrote.symm
    · exact wrote.symm

/-- Within a boundary an owner's asking adds to what is asked for, and nothing else changes. -/
theorem State.ask_within {s : State} {l : List (ClaimKind × Sub)} (h : s.rta.asked = some l) (x : Sub) (k : ClaimKind) (now : State → State) :
    (∃ m, s.ask x k now = s.setAsked (some m)) ∧ ∀ y j, (s.ask x k now).hasAsked y j = (s.hasAsked y j || (j, y) == (k, x)) := by
  rw [State.ask_later h]
  split
  · next hc =>
    refine ⟨⟨l, by rw [← h]; rfl⟩, fun y j => ?_⟩
    simp only [List.contains_eq_mem, decide_eq_true_eq] at hc
    rw [Bool.eq_iff_iff]
    simp only [State.hasAsked, h, Option.any_some, Bool.or_eq_true, List.contains_eq_mem, decide_eq_true_eq, beq_iff_eq]
    exact ⟨.inl, fun e => e.elim id fun e => e ▸ hc⟩
  · refine ⟨⟨_, rfl⟩, fun y j => ?_⟩
    rw [Bool.eq_iff_iff]
    simp only [State.hasAsked, State.setAsked, State.onRta_rta, h, Option.any_some, Bool.or_eq_true, List.contains_eq_mem, decide_eq_true_eq,
      List.mem_append, List.mem_singleton, beq_iff_eq]

/-- What two states have in common of what the turns look at, but for what is asked for. -/
structure State.SameBooking (s t : State) : Prop where
  claims : t.rta.claims = s.rta.claims
  per : t.psc.per = s.psc.per
  cal : t.cal = s.cal
  sbs : t.sbs = s.sbs
  clock : t.clock = s.clock
  asked : s.rta.asked ≠ none → t.rta.asked ≠ none

theorem State.SameBooking.trans {s t u : State} (h : s.SameBooking t) (k : t.SameBooking u) : s.SameBooking u :=
  ⟨k.claims.trans h.claims, k.per.trans h.per, k.cal.trans h.cal, k.sbs.trans h.sbs, k.clock.trans h.clock, k.asked ∘ h.asked⟩

theorem State.ask_booking {s : State} (h : s.rta.asked ≠ none) (x : Sub) (k : ClaimKind) (now : State → State) :
    s.SameBooking (s.ask x k now) := by
  obtain ⟨l, hl⟩ := Option.ne_none_iff_exists'.1 h
  obtain ⟨⟨m, e⟩, -⟩ := State.ask_within hl x k now
  rw [e]
  exact ⟨rfl, rfl, rfl, rfl, rfl, fun _ => Option.some_ne_none m⟩

/-- A refresh read may be asked for, and nothing else. -/
theorem State.refreshRead_within {s : State} (h : s.rta.asked ≠ none) (x : Sub) : s.SameBooking (s.refreshRead x) ∧
    ∀ y j, ((s.hasAsked y j = true → (s.refreshRead x).hasAsked y j = true) ∧
      ((s.refreshRead x).hasAsked y j = true → s.hasAsked y j = true ∨ (j = .beaconRead ∧ y = x))) := by
  have same : s.SameBooking s := ⟨rfl, rfl, rfl, rfl, rfl, id⟩
  unfold State.refreshRead State.placeRead
  split
  · exact ⟨same, fun _ _ => ⟨id, .inl⟩⟩
  · split
    · let u := s.onMobOf x fun m => { m with readPurpose := some .refresh }
      obtain ⟨l, hl⟩ := Option.ne_none_iff_exists'.1 h
      have asks := (State.ask_within (s := u) hl x .beaconRead (State.tryRead x)).2
      have base : s.SameBooking u := ⟨rfl, rfl, rfl, rfl, rfl, id⟩
      refine ⟨base.trans (State.ask_booking (s := u) h x .beaconRead _), fun y j => ?_⟩
      rw [asks, show u.hasAsked y j = s.hasAsked y j from rfl]
      refine ⟨fun k => by rw [k]; rfl, fun k => ?_⟩
      rw [Bool.or_eq_true, beq_iff_eq, Prod.mk.injEq] at k
      exact k
    · exact ⟨same, fun _ _ => ⟨id, .inl⟩⟩

/-- What a subscription that becomes CAMPED within a boundary asks for, and what stays as it is. -/
theorem State.derive_camps {s : State} {x : Sub} (hb : (s.activity x).isBusy = true) (hd : s.derivedActivity x = .camped)
    (hu : (s.serving x).any (·.barred) = false) (asked : s.rta.asked = some []) (hr : (s.record x).registration ≠ .rejected) :
    (s.derive x).rta.claims = s.rta.claims ∧ (s.derive x).psc.per = s.psc.per ∧ (s.derive x).cal = s.cal ∧
      (s.derive x).activity x.other = s.activity x.other ∧ (s.derive x).rta.asked ≠ none ∧
      (s.derive x).hasAsked x .pagingListen = true ∧
      ∀ y j, (s.derive x).hasAsked y j = true → y = x ∧ (j = .pagingListen ∨ j = .beaconRead) := by
  let v := (s.writeActivity x .camped).setFilter x false
  let p := v.placePaging x
  have vrec : v.record x = { s.record x with activity := .camped } := (s.writeActivity_record ..).trans (if_pos rfl)
  have vother : v.record x.other = s.record x.other := (s.writeActivity_record ..).trans (if_neg (other_ne x))
  have vasked : v.rta.asked = some [] := by simp [v, asked]
  have within : v.rta.asked ≠ none := by rw [vasked]; exact Option.some_ne_none _
  have pasks : p = v.ask x .pagingListen (State.tryPaging x) := by
    have here : ((v.record x).registration == .rejected) = false := by rw [vrec]; simpa using hr
    simp only [p, State.placePaging, here, Bool.false_eq_true, if_false]
  have first : v.SameBooking p := by rw [pasks]; exact State.ask_booking within ..
  have pasked (y : Sub) (j : ClaimKind) : p.hasAsked y j = ((j, y) == (ClaimKind.pagingListen, x)) := by
    rw [pasks, (State.ask_within vasked x .pagingListen (State.tryPaging x)).2]
    simp [State.hasAsked, vasked]
  obtain ⟨second, reads⟩ := State.refreshRead_within (first.asked within) x
  have booked := first.trans second
  have derived : s.derive x = (p.refreshRead x).updateStanding x := State.derive_leaves hb hd hu
  have rta : (s.derive x).rta = (p.refreshRead x).rta := by rw [derived]; simp
  have asks (y : Sub) (j : ClaimKind) : (s.derive x).hasAsked y j = (p.refreshRead x).hasAsked y j :=
    State.hasAsked_congr (congrArg Rta.asked rta) y j
  refine ⟨?_, ?_, ?_, ?_, ?_, ?_, fun y j ha => ?_⟩
  · rw [rta, booked.claims]; simp [v]
  · rw [derived, (State.updateStanding_keeps ..).2.2.2.2.2.2.2.2.1, booked.per]; simp [v]
  · rw [derived, (State.updateStanding_keeps ..).2.2.2.2.2.2.2.2.2.2.1, booked.cal]; simp [v]
  · rw [derived, State.updateStanding_activity]
    unfold State.activity
    rw [← vother]
    unfold State.record
    rw [booked.sbs]
  · rw [rta]; exact booked.asked within
  · rw [asks]; exact (reads x .pagingListen).1 (by rw [pasked]; exact beq_self_eq_true _)
  · rw [asks] at ha
    cases (reads y j).2 ha with
    | inl e =>
      rw [pasked, beq_iff_eq, Prod.mk.injEq] at e
      exact ⟨e.2, .inl e.1⟩
    | inr e => exact ⟨e.2, .inr e.1⟩

/-- A subscription without contexts has no established call. -/
theorem State.hasCall_of_idle {s : State} {x : Sub} (h : s.idle x) : s.hasCall x = false := by
  by_contra k
  have ctx := h.1
  unfold State.hasCtx at ctx
  unfold State.hasCall at k
  rw [List.any_eq_false] at ctx
  rw [Bool.not_eq_false, List.any_eq_true] at k
  obtain ⟨i, hi, e⟩ := k
  exact ctx i hi (Bool.and_eq_true_iff.1 e).1

/-- A subscription that has become CAMPED within a boundary waits for the turn of its PAGING_LISTEN. -/
theorem State.settled_awaits {s : State} {x : Sub} {d : Schedule} (hb : (s.activity x).isBusy = true) (hd : s.derivedActivity x = .camped)
    (hu : (s.serving x).any (·.barred) = false) (asked : s.rta.asked = some []) (hr : (s.record x).registration ≠ .rejected)
    (hs : (s.pscOf x).schedule = some d) (hn : s.noClaim x .pagingListen) (size : s.rta.claims.length = 12) (count : s.claimCount ≤ 8)
    (hc : s.hasCall x.other = true → s.activity x.other ≠ .camped) :
    ((s.derive x).reexamine x).Awaits x d s.clock.now (s.hasCall x.other) 8 := by
  obtain ⟨claims, per, cal, other, within, asks, only⟩ := State.derive_camps hb hd hu asked hr
  have cal : ((s.derive x).reexamine x).cal = s.cal := by simp [cal]
  exact {
    asked := (State.reexamine_hasAsked _ x x (by decide)).trans asks
    others := fun y j hj ha => only y j (by rw [← State.reexamine_hasAsked _ x y hj]; exact ha)
    claim := (State.reexamine_sameClaims _ x (by decide)).noClaim ((State.sameClaims_of_claims claims).noClaim hn)
    schedule := by
      have per : ((s.derive x).reexamine x).psc.per = s.psc.per := by simp [per]
      unfold State.pscOf
      rw [per]; exact hs
    size := by
      obtain ⟨-, -, -, len, -⟩ := (State.reexamine_evolves x (.refl (s.derive x))).rta
      rw [len, claims, size]
    count := Nat.le_trans (State.reexamine_count within x) (by rw [State.claimCount_congr claims]; exact count)
    noCall := (State.calls_congr cal x).2.trans (State.hasCall_of_idle (State.idle_of_derived hd))
    other := (State.calls_congr cal x.other).2
    inCall := fun k => by
      have same : ((s.derive x).reexamine x).activity x.other = (s.derive x).activity x.other := by simp [State.activity, State.record]
      rw [same, other]; exact hc k
    clock := by simp }

/-! ### LINK_IDLE (R14) -/

/-- A subscription that becomes CAMPED with the end of its last transaction: its listen filter is closed, and its PAGING_LISTEN placed. -/
theorem freed_camps {s f : State} {act : State → State} {x : Sub} {i : Nat} {p : Txn} (fr : s.Freed i f) (ha : s.activityOk)
    (entry : entryAt s.sge.txns i = some p) (psub : p.sub = x) (settled : act (s.setAsked (some [])) = (f.derive x).reexamine x)
    (unbarred : (s.serving x).any (·.barred) = false) (camped : (s.finish (s.inRankOrder act)).activity x = .camped) :
    (s.finish (s.inRankOrder act)).dlc.filters.get x = false ∧
      ∀ d, (s.record x).registration ≠ .rejected → (s.pscOf x).schedule = some d → s.hasClaim x .pagingListen = false →
        s.rta.claims.length = 12 → (taken s.rta.claims).length ≤ 8 →
        ∃ j c, (s.finish (s.inRankOrder act)).claimOf x .pagingListen = some (j, c) ∧ c.state = .waiting ∧
          c.first = pagingFirst s.clock.now d ∧ c.slack = 0 ∧ c.length = d.length ∧ c.period = d.cycle := by
  obtain ⟨-, -, -, -, -, idlc, -, isbs, -⟩ := State.inRankOrder_keeps act s
  obtain ⟨-, -, -, -, trta, tdlc, -, tsbs, -⟩ := State.finish_agreesButSleep s (s.inRankOrder act)
  have busy : (f.activity x).isBusy = true := by rw [fr.activity]; exact (ha.busy (State.txnsOf_ne_nil entry psub)).2
  have serving : (f.serving x).any (·.barred) = false := by rw [fr.serving]; exact unbarred
  have derived : f.derivedActivity x = .camped := by
    refine State.derived_of_camped busy ?_
    rw [← camped]
    unfold State.activity State.record
    rw [tsbs, isbs, settled]; simp
  refine ⟨?_, fun d hr hd hn size count => ?_⟩
  · rw [tdlc, idlc, settled, State.derive_leaves busy derived serving]
    simp [State.setFilter]
  · have claims : f.rta.claims = s.rta.claims := by rw [fr.rta]
    have awaits := State.settled_awaits (s := f) (d := d) busy derived serving (by rw [fr.rta]) (by rw [fr.record]; exact hr)
      (by unfold State.pscOf; rw [fr.psc]; exact hd) ((State.sameClaims_of_claims claims).noClaim (s.noClaim_iff.2 (by simpa [State.hasClaim] using hn)))
      (by rw [claims]; exact size) (by rw [State.claimCount_congr claims]; exact count)
      (fun hc => by rw [(State.calls_congr fr.cal x.other).2] at hc; rw [fr.activity, ha.inCall hc]; decide)
    obtain ⟨j, placed⟩ := awaits.placed
    have same : (placementOrder.foldl State.takeTurn ((f.derive x).reexamine x)).sameClaims x .pagingListen (s.finish (s.inRankOrder act)) :=
      State.sameClaims_of_claims (by rw [trta, ← settled]; rfl)
    exact ⟨j, _, (same.soleClaim placed).claimOf, rfl, by rw [fr.clock]; rfl, rfl, rfl, rfl⟩

/-- The fourth part of O16. -/
theorem linkIdle_ends {s : State} {x : Sub} {ident : Ident} {i : Nat} {p : Txn} (ha : s.activityOk) (hp : s.txnBy x ident = some (i, p))
    (hk : p.kind = .link) (hs : p.state = .linked) (hi : p.idle = some 0) (hw : s.sge.waiters = []) :
    ∃ t, exec (.linkIdle x ident) s = .next t ∧ entryAt t.sge.txns i = none ∧
      ((s.serving x).any (·.barred) = false →
        (∀ j, j ≠ i → entryAt t.sge.txns j = entryAt s.sge.txns j) ∧ t.cal.contexts = s.cal.contexts ∧ t.cal.holdStack = s.cal.holdStack ∧
          t.cal.pendingReq = s.cal.pendingReq ∧ t.txt = s.txt ∧ t.vcp = s.vcp ∧
          (t.activity x = .camped → t.dlc.filters.get x = false ∧
            ∀ d, (s.record x).registration ≠ .rejected → (s.pscOf x).schedule = some d → s.hasClaim x .pagingListen = false →
              s.rta.claims.length = 12 → (taken s.rta.claims).length ≤ 8 →
              ∃ j c, t.claimOf x .pagingListen = some (j, c) ∧ c.state = .waiting ∧ c.first = pagingFirst s.clock.now d ∧ c.slack = 0 ∧
                c.length = d.length ∧ c.period = d.cycle)) := by
  obtain ⟨entry, psub, -⟩ := State.txnBy_some hp
  let r := s.setAsked (some [])
  let f := r.freeTxn i
  let act : State → State := State.idleExpiry x ident
  have fr : s.Freed i f := State.freeTxn_freed entry
  have nobody := fr.nobody hw
  have acted : act r = f.settle x := by
    have e : act r = (f.tryWaiters (some x)).settle x := idleExpiry_ends (s := r) hp hk hs hi
    rw [e, State.tryWaiters_none nobody]
  have rests : f.Rests (act r) := by rw [acted]; exact State.settle_rests nobody x
  obtain ⟨-, -, -, -, -, -, isge, -, ivcp, itxt, -⟩ := State.inRankOrder_keeps act s
  obtain ⟨⟨contexts, stack, pending⟩, -⟩ := State.inRankOrder_keepsOwners act s
  obtain ⟨-, -, -, -, -, -, tsge, -, -, -, -, tcal, tvcp, ttxt, -⟩ := State.finish_agreesButSleep s (s.inRankOrder act)
  have txns : (s.finish (s.inRankOrder act)).sge.txns = s.sge.txns.set i none := by rw [tsge, isge]; exact rests.txns.trans fr.txns
  have cal : (act r).cal = s.cal := rests.cal.trans fr.cal
  refine ⟨s.finish (s.inRankOrder act), rfl, by rw [txns]; exact entryAt_set_none .., fun unbarred =>
    ⟨fun j hj => by rw [txns]; exact entryAt_set_other _ _ _ _ (Ne.symm hj), ?_, ?_, ?_, ttxt.trans (itxt.trans (rests.txt.trans fr.txt)),
      tvcp.trans (ivcp.trans (rests.vcp.trans fr.vcp)), freed_camps fr ha entry psub (acted.trans (State.settle_none nobody x)) unbarred⟩⟩
  · exact (congrArg Cal.contexts tcal).trans (contexts.trans (congrArg Cal.contexts cal))
  · exact (congrArg Cal.holdStack tcal).trans (stack.trans (congrArg Cal.holdStack cal))
  · exact (congrArg Cal.pendingReq tcal).trans (pending.trans (congrArg Cal.pendingReq cal))

/-- Settles O16: the rows not yet due by `expiries_idle`, then the message, the DETACH_NOTICE and the LINK whose time is over. -/
theorem timersAndWaitingMessages : Obligations.TimersAndWaitingMessages :=
  ⟨expiries_idle, fun _ _ _ _ hm ho hw ha => waitExpiry_discards hm ho hw ha,
    fun _ _ _ _ hq hn hd => ⟨noticeExpiry_discards hq hn hd, noticeExpiry_idle hq⟩,
    fun _ _ _ _ _ hc hp hk hs hi hw => linkIdle_ends hc.1 hp hk hs hi hw⟩

end Sys2Proof.Machine
end

section
/-! Sitting 1: what the owner of a transaction does at a TIMEOUT (R15, R28, R110, R129 to R132, R159). -/

namespace Sys2Proof.Machine

/-! ### The contexts -/

section Contexts
variable {s : State} {i : Nat}

theorem State.ctx_congr {t : State} (h : t.cal.contexts = s.cal.contexts) (j : Nat) : t.ctx j = s.ctx j := by
  unfold State.ctx; rw [h]

theorem State.onCtx_ctx (h : i < s.cal.contexts.length) (f : CallContext → CallContext) (j : Nat) :
    (s.onCtx i f).ctx j = if i = j then f (s.ctx j) else s.ctx j := by
  unfold State.ctx State.onCtx
  simp only [State.onCal_cal, List.getElem?_modify]
  split
  · next e => subst e; simp [h]
  · simp

theorem State.onCtx_length (f : CallContext → CallContext) : (s.onCtx i f).cal.contexts.length = s.cal.contexts.length := by
  simp [State.onCtx]

/-- A context that moves takes the state and nothing else; the pending request stays. -/
theorem State.moveCtx_calls (s : State) (i : Nat) (st : CallState) :
    (s.moveCtx i st).cal.contexts = (s.onCtx i fun c => { c with state := st }).cal.contexts ∧
      (s.moveCtx i st).cal.pendingReq = s.cal.pendingReq ∧
      (s.moveCtx i st).cal.contexts.length = s.cal.contexts.length := by
  have key : (s.moveCtx i st).cal.contexts = (s.onCtx i fun c => { c with state := st }).cal.contexts ∧
      (s.moveCtx i st).cal.pendingReq = s.cal.pendingReq := by
    unfold State.moveCtx
    dsimp only
    (repeat' split) <;> exact ⟨rfl, rfl⟩
  exact ⟨key.1, key.2, by rw [key.1, State.onCtx_length]⟩

theorem State.moveCtx_ctx (h : i < s.cal.contexts.length) (st : CallState) (j : Nat) :
    (s.moveCtx i st).ctx j = if i = j then { s.ctx j with state := st } else s.ctx j := by
  rw [State.ctx_congr (s.moveCtx_calls i st).1, State.onCtx_ctx h]

theorem State.moveCtx_link (s : State) (i : Nat) (st : CallState) :
    (s.moveCtx i st).hlc.results = s.hlc.results ∧ (s.moveCtx i st).hlc.queue = s.hlc.queue := by
  unfold State.moveCtx
  dsimp only
  (repeat' split) <;> exact ⟨rfl, rfl⟩

/-- A pending request is answered: its RESULT joins the others, and no context changes. -/
theorem State.answerPending_calls (s : State) (code : ResultCode) : (s.answerPending code).cal.contexts = s.cal.contexts ∧
    (s.answerPending code).cal.holdStack = s.cal.holdStack ∧ (s.answerPending code).cal.pendingReq = none ∧
    ∀ q, s.cal.pendingReq = some q → ⟨q.tag, q.sub, q.kind.code, code, []⟩ ∈ (s.answerPending code).hlc.results := by
  unfold State.answerPending
  split
  · next h => exact ⟨rfl, rfl, h, fun q hq => by rw [h] at hq; cases hq⟩
  · next p h => exact ⟨rfl, rfl, rfl, fun q hq => by rw [h] at hq; cases hq; simp⟩

end Contexts

/-! ### HOLD and RESUME (R130, R131) -/

section Settling
variable {s : State} {i : Nat}

/-- A HOLD fails: the context is ACTIVE again, and a request that waits for it fails. -/
theorem State.holdEnded_fails (hi : i < s.cal.contexts.length) (hs : (s.ctx i).state = .holding) :
    (s.holdEnded i false).ctx i = { s.ctx i with state := .active } ∧ (s.holdEnded i false).vcp.call = some ((s.ctx i).sub, i) ∧
      (s.holdEnded i false).vcp.playout = .filling ∧ ∀ q, s.cal.pendingReq = some q → q.ctx = i →
        (s.holdEnded i false).cal.pendingReq = none ∧ ⟨q.tag, q.sub, q.kind.code, .failed, []⟩ ∈ (s.holdEnded i false).hlc.results := by
  let m := s.moveActive i
  have calls : (s.moveCtx i .active).sameCalls m := State.placeTraffic_sameCalls ..
  have mctx (j : Nat) : m.ctx j = if i = j then { s.ctx j with state := .active } else s.ctx j := by
    rw [calls.ctx, State.moveCtx_ctx hi]
  have mlen : i < m.cal.contexts.length := by rw [calls.1, (s.moveCtx_calls i .active).2.2]; exact hi
  have mpending : m.cal.pendingReq = s.cal.pendingReq := calls.2.2.trans (s.moveCtx_calls i .active).2.1
  have start : (s.moveCtx i .active).vcp.call = some ((s.ctx i).sub, i) ∧ (s.moveCtx i .active).vcp.playout = .filling := by
    have sub : ((s.onCtx i fun c => { c with state := .active }).ctx i).sub = (s.ctx i).sub := by rw [State.onCtx_ctx hi, if_pos rfl]
    have e : s.moveCtx i .active = (s.onCtx i fun c => { c with state := .active }).voiceStart (s.ctx i).sub i := by
      unfold State.moveCtx
      simp [hs, sub]
    rw [e]; exact ⟨rfl, rfl⟩
  have voice : m.vcp = (s.moveCtx i .active).vcp := by simp [m, State.moveActive]
  have unanswered (j : Nat) : (m.unanswer j).ctx i = m.ctx i ∧ (m.unanswer j).cal.pendingReq = m.cal.pendingReq := by
    unfold State.unanswer
    split
    · next ho =>
      refine ⟨?_, rfl⟩
      have hj : j ≠ i := by
        rintro rfl
        rw [mctx, if_pos rfl] at ho; simp at ho
      unfold State.ctx State.onCtx
      simp [hj]
    · exact ⟨rfl, rfl⟩
  have e : s.holdEnded i false = match s.cal.pendingReq with
      | none => m
      | some p => if p.ctx != i then m else match p.kind with
        | .hold | .resume => m.answerPending .failed
        | .answer j => (m.unanswer j).answerPending .failed := by
    unfold State.holdEnded
    simp only [Bool.false_eq_true, if_false]
    rw [show State.moveActive i s = m from rfl, mpending] <;> rfl
  have here : m.ctx i = { s.ctx i with state := .active } := by rw [mctx, if_pos rfl]
  have kept (u : State) (hu : u.ctx i = m.ctx i ∧ u.vcp = m.vcp) : u.ctx i = { s.ctx i with state := .active } ∧
      u.vcp.call = some ((s.ctx i).sub, i) ∧ u.vcp.playout = .filling := by
    rw [hu.1, hu.2, voice]; exact ⟨here, start⟩
  have answered (u : State) (hu : u.ctx i = m.ctx i) (hv : u.vcp = m.vcp) (hp : u.cal.pendingReq = s.cal.pendingReq) :
      (u.answerPending .failed).ctx i = { s.ctx i with state := .active } ∧ (u.answerPending .failed).vcp.call = some ((s.ctx i).sub, i) ∧
      (u.answerPending .failed).vcp.playout = .filling ∧ ∀ q, s.cal.pendingReq = some q → q.ctx = i →
        (u.answerPending .failed).cal.pendingReq = none ∧ ⟨q.tag, q.sub, q.kind.code, .failed, []⟩ ∈ (u.answerPending .failed).hlc.results := by
    obtain ⟨contexts, -, gone, result⟩ := u.answerPending_calls .failed
    obtain ⟨h1, h2, h3⟩ := kept (u.answerPending .failed) ⟨(State.ctx_congr contexts i).trans hu, by rw [← hv]; simp⟩
    exact ⟨h1, h2, h3, fun q hq _ => ⟨gone, result q (hp.trans hq)⟩⟩
  rw [e]
  split
  · next h =>
    obtain ⟨h1, h2, h3⟩ := kept m ⟨rfl, rfl⟩
    exact ⟨h1, h2, h3, fun q hq => by rw [h] at hq; cases hq⟩
  · next p h =>
    split
    · next hp =>
      obtain ⟨h1, h2, h3⟩ := kept m ⟨rfl, rfl⟩
      refine ⟨h1, h2, h3, fun q hq hc => ?_⟩
      rw [h] at hq; cases hq
      simp [hc] at hp
    · split
      · exact answered m rfl rfl mpending
      · exact answered m rfl rfl mpending
      · next j _ => exact answered (m.unanswer j) (unanswered j).1 (by simp) ((unanswered j).2.trans mpending)

/-- A RESUME fails: the context is HELD again, on the top of the stack. -/
theorem State.resumeEnded_fails (hi : i < s.cal.contexts.length) (hs : (s.ctx i).state = .resuming) :
    (s.resumeEnded i false).ctx i = { s.ctx i with state := .held } ∧ (s.resumeEnded i false).cal.holdStack = s.cal.holdStack ++ [i] ∧
      ∀ q, s.cal.pendingReq = some q → (s.resumeEnded i false).cal.pendingReq = none ∧
        ⟨q.tag, q.sub, q.kind.code, .failed, []⟩ ∈ (s.resumeEnded i false).hlc.results := by
  have e : s.resumeEnded i false = (s.moveCtx i .held).answerPending .failed := rfl
  obtain ⟨contexts, stack, gone, result⟩ := (s.moveCtx i .held).answerPending_calls .failed
  have held : (s.moveCtx i .held).cal.holdStack = s.cal.holdStack ++ [i] := by
    unfold State.moveCtx
    simp [hs, State.onCtx]
  rw [e]
  exact ⟨by rw [State.ctx_congr contexts, State.moveCtx_ctx hi, if_pos rfl], stack.trans held,
    fun q hq => ⟨gone, result q ((s.moveCtx_calls i .held).2.1.trans hq)⟩⟩

end Settling

/-! ### Release (R119, R132) -/

section Release
variable {s : State} {i : Nat}

theorem State.dropTraffic_contexts (s : State) (x : Sub) : (s.dropTraffic x).cal.contexts = s.cal.contexts := by
  unfold State.dropTraffic
  split
  · rfl
  · simp

/-- A released context goes IDLE, all its fields at their reset values, and CALL_ENDED says why. -/
theorem State.endCtx_ends (hi : i < s.cal.contexts.length) : (s.endCtx i none).ctx i = Reset.context ∧
    ((s.ctx i).screenedOut = false → s.hlc.queue.length < 32 →
      ⟨.report (.callEnded (s.ctx i).sub i (s.ctx i).callRef (s.ctx i).direction ((s.ctx i).endCause.getD .rejected) none), false, false⟩ ∈
        (s.endCtx i none).hlc.queue) := by
  have reported : (s.reportEnded i none).cal = s.cal := by simp
  have len : i < ((s.reportEnded i none).moveCtx i .idle).cal.contexts.length := by rw [(State.moveCtx_calls ..).2.2, reported]; exact hi
  constructor
  · show ((((s.reportEnded i none).moveCtx i .idle).onCtx i fun _ => Reset.context).dropTraffic (s.ctx i).sub).ctx i = _
    rw [State.ctx_congr (State.dropTraffic_contexts ..), State.onCtx_ctx len, if_pos rfl]
  · intro hs room
    have e : s.reportEnded i none = s.report (.callEnded (s.ctx i).sub i (s.ctx i).callRef (s.ctx i).direction
        ((s.ctx i).endCause.getD .rejected) none) := by simp [State.reportEnded, hs]
    have queue : (s.endCtx i none).hlc.queue = (s.reportEnded i none).hlc.queue := by
      show ((((s.reportEnded i none).moveCtx i .idle).onCtx i fun _ => Reset.context).dropTraffic (s.ctx i).sub).hlc.queue = _
      rw [(State.dropTraffic_keeps ..).2.2.2.2.2.2.2.2.2.2.2]
      exact (State.moveCtx_link ..).2
    rw [queue, e]
    exact State.report_mem room _

/-- A context in the middle of being set up is released: RELEASING with the cause, its RELEASE offered, if that has a place. -/
theorem State.releaseCtx_offers {cause : Cause} (hi : i < s.cal.contexts.length)
    (hs : (s.ctx i).state = .originating ∨ (s.ctx i).state = .connecting)
    (ht : ∀ body, s.takesOffer (s.ctx i).sub ⟨some (.ctx i), some .release, 0, none, body⟩ = true) :
    (s.releaseCtx i cause).hasTxn (s.ctx i).sub .release = true ∧ (s.releaseCtx i cause).ctx i =
      { s.ctx i with state := .releasing, endCause := some cause, ring := none, answerPending := false, connectWaiting := false } := by
  let c := (s.recordCause i cause).onCtx i fun c => { c with ring := none, answerPending := false, connectWaiting := false }
  let m := c.moveCtx i .releasing
  have clen : i < c.cal.contexts.length := by rw [State.onCtx_length, State.recordCause, State.onCtx_length]; exact hi
  have cctx : c.ctx i = { s.ctx i with endCause := some cause, ring := none, answerPending := false, connectWaiting := false } := by
    have new : (s.ctx i).causeAfter cause = cause := by
      unfold CallContext.causeAfter
      rcases hs with h | h <;> rw [h]
    rw [State.onCtx_ctx (by rw [State.recordCause, State.onCtx_length]; exact hi), if_pos rfl, State.recordCause, State.onCtx_ctx hi, if_pos rfl, new]
  have mctx : m.ctx i = { s.ctx i with
      state := .releasing, endCause := some cause, ring := none, answerPending := false, connectWaiting := false } := by
    rw [State.moveCtx_ctx clen, if_pos rfl, cctx]
  let o : Offer := ⟨some (.ctx i), some .release, 0, none, .release (s.ctx i).callRef (.cause cause)⟩
  have sge : m.sge = s.sge := by simp [m, c]
  have takes : m.takesOffer (s.ctx i).sub o = true := by
    rw [← ht (.release (s.ctx i).callRef (.cause cause))]
    simp only [State.takesOffer, State.hasPlace, State.queueFull, State.holdTaken, State.tableFull, sge, o]
  obtain ⟨offered, opened⟩ := State.offer_hasTxn takes (k := .release) rfl
  obtain ⟨ident, hid⟩ := Option.isSome_iff_exists.1 offered
  have pair : m.ctxOffer i .release (.release (s.ctx i).callRef (.cause cause)) = (some ident, (m.offer (s.ctx i).sub o).2) := by
    unfold State.ctxOffer
    rw [mctx]
    exact Prod.ext hid rfl
  have still : ((s.ctx i).state == .holding || (s.ctx i).state == .resuming) = false := by rcases hs with h | h <;> rw [h] <;> rfl
  have e : s.releaseCtx i cause = (m.offer (s.ctx i).sub o).2 := by
    unfold State.releaseCtx
    dsimp only
    rw [show State.moveCtx i .releasing _ = m from rfl, pair]
    dsimp only
    rw [if_neg (by rw [still]; exact Bool.false_ne_true)]
  rw [e]
  exact ⟨opened, (State.ctx_congr (by simp) i).trans mctx⟩

end Release

/-! ### Texts and areas (R28, R159) -/

theorem State.failText_fails {s : State} {x : Sub} {o : Outgoing} (h : s.outgoingOf x = some o) (cause : TextFailCause) :
    (s.failText x cause).outgoingOf x = none ∧ (s.failText x cause).txt.free = s.txt.free + o.segments.length ∧
      (s.hlc.queue.length < 32 → ⟨.report (.textFailed x o.reference o.nextSeq cause), false, false⟩ ∈ (s.failText x cause).hlc.queue) := by
  have drop : s.dropOutgoing x = (((s.onTxt fun t => { t with free := t.free + o.segments.length }).setOutgoing x none).endWait .segment x) := by
    simp [State.dropOutgoing, h]
  have e : s.failText x cause = (s.dropOutgoing x).report (.textFailed x o.reference o.nextSeq cause) := by simp [State.failText, h]
  have txt : (s.failText x cause).txt = (s.dropOutgoing x).txt := by rw [e]; simp
  refine ⟨?_, ?_, fun room => ?_⟩
  · unfold State.outgoingOf
    rw [txt, drop]
    exact PerSub.get_set_same ..
  · rw [txt, drop]; rfl
  · rw [e]
    refine State.report_mem ?_ _
    rw [drop]; exact room

/-- What is told SBS of an AREA_UPDATE that has timed out: the area is rejected, and no further update is due in it. -/
theorem State.areaEnded_timeout {s : State} {x : Sub} {v : Serving} (hv : s.serving x = some v) :
    (((s.areaEnded x .timeout none).record x).registration = .rejected ∧ ((s.areaEnded x .timeout none).record x).rejectedArea = some v.area ∧
      ((s.areaEnded x .timeout none).record x).lastArea = none ∧ ((s.areaEnded x .timeout none).record x).rejectItem = some .timeout) ∧
    (s.areaEnded x .timeout none).sge = s.sge := by
  let u := (s.reject x .timeout).updateStanding x
  have rejected : (s.reject x .timeout).record x =
      { s.record x with registration := .rejected, rejectedArea := some v.area, lastArea := none, rejectItem := some .timeout } := by
    have sbs : (s.reject x .timeout).sbs = (s.onRecord x fun r => { r with
        registration := .rejected, rejectedArea := (s.serving x).map (·.area), lastArea := none, rejectItem := some .timeout }).sbs := by
      unfold State.reject; exact (State.withdrawPaging_keeps ..).2.2.2.2.2.2.2.1
    have e := State.onRecord_record_same x (fun r : SubRecord => { r with
      registration := .rejected, rejectedArea := (s.serving x).map (·.area), lastArea := none, rejectItem := some .timeout }) s
    unfold State.record at e ⊢
    rw [sbs, e, hv]; rfl
  have facts := (State.updateStanding_rests x (s.reject x .timeout)).record x
  unfold SubRecord.sameFacts at facts
  rw [rejected] at facts
  have serving : u.serving x = some v := by
    have mob : u.mob = s.mob := by
      show ((s.reject x .timeout).updateStanding x).mob = s.mob
      rw [(State.updateStanding_keeps ..).2.2.2.2.2.2.2.2.2.1]
      exact State.withdraw_mob (s.onRecord x _) x (by decide)
    unfold State.serving State.mobOf; rw [mob]; exact hv
  have done : s.areaEnded x .timeout none = u := by
    show u.areaPassed x = u
    have settled : (u.record x).dueFor v.area = false := by
      show (((s.reject x .timeout).updateStanding x).record x).dueFor v.area = false
      rw [facts]; simp [SubRecord.dueFor]
    simp [State.areaPassed, serving, settled]
  rw [done]
  refine ⟨?_, by simp [u]⟩
  show (((s.reject x .timeout).updateStanding x).record x).registration = _ ∧ _
  rw [facts]
  exact ⟨rfl, rfl, rfl, rfl⟩

theorem State.areaEnded_timeout_sge (s : State) (x : Sub) : (s.areaEnded x .timeout none).sge = s.sge := by
  cases hv : s.serving x with
  | some v => exact (State.areaEnded_timeout hv).2
  | none =>
    let u := (s.reject x .timeout).updateStanding x
    have serving : u.serving x = none := by
      have mob : u.mob = s.mob := by
        show ((s.reject x .timeout).updateStanding x).mob = s.mob
        rw [(State.updateStanding_keeps ..).2.2.2.2.2.2.2.2.2.1]
        exact State.withdraw_mob (s.onRecord x _) x (by decide)
      unfold State.serving State.mobOf; rw [mob]; exact hv
    have done : s.areaEnded x .timeout none = u := by
      show u.areaPassed x = u
      simp [State.areaPassed, serving]
    rw [done]
    simp [u]

/-! ### Nothing is offered -/

theorem State.holdEnded_fails_sge (s : State) (i : Nat) : (s.holdEnded i false).sge = s.sge := by
  unfold State.holdEnded State.moveActive
  simp only [Bool.false_eq_true, if_false]
  (repeat' split) <;> simp

theorem State.ctxOutcome_timeout_sge (s : State) (i : Nat) {k : TxnKind} (hs : k ≠ .setup) (hc : k ≠ .connect) :
    (s.ctxOutcome i k .timeout).sge = s.sge := by
  unfold State.ctxOutcome
  split
  · exact absurd rfl hs
  · exact absurd rfl hc
  · exact s.holdEnded_fails_sge i
  · exact (s.resumeEnded_keeps i false).2.2.2.2.2.2.1
  · exact (s.endCtx_keeps i none).2.2.2.2.2.2.1
  · rfl

theorem State.failText_sge (s : State) (x : Sub) (cause : TextFailCause) : (s.failText x cause).sge.txns = s.sge.txns ∧
    (s.sge.waiters = [] → (s.failText x cause).sge.waiters = []) := by
  have ended (u : State) : (u.endWait .segment x).sge.txns = u.sge.txns ∧ (u.sge.waiters = [] → (u.endWait .segment x).sge.waiters = []) :=
    ⟨rfl, fun h => by simp [State.endWait, h]⟩
  unfold State.failText
  split
  · exact ⟨rfl, id⟩
  · next o h =>
    have reported (u : State) (r : Report) : (u.report r).sge = u.sge := by simp
    rw [reported, State.dropOutgoing, h]
    exact ended _

/-- Told of a TIMEOUT, an owner offers nothing, but for the RELEASE of a call that was being set up. -/
theorem State.tellOwner_timeout {p : Txn} (hs : p.kind ≠ .setup) (hc : p.kind ≠ .connect) (s : State) :
    (s.tellOwner p .timeout none).sge.txns = s.sge.txns ∧ (s.sge.waiters = [] → (s.tellOwner p .timeout none).sge.waiters = []) := by
  have same {t : State} (h : t.sge = s.sge) : t.sge.txns = s.sge.txns ∧ (s.sge.waiters = [] → t.sge.waiters = []) := by
    rw [h]; exact ⟨rfl, id⟩
  have ctx : ∀ i, (s.ctxOutcome i p.kind .timeout).sge = s.sge := fun i => s.ctxOutcome_timeout_sge i hs hc
  have owner : (match p.owner.ctx? with | some i => s.ctxOutcome i p.kind .timeout | none => s).sge = s.sge := by
    split
    · exact ctx _
    · rfl
  unfold State.tellOwner
  split
  · next h => exact same (State.tellOwner_sge (p := p) (.inl h) .timeout s ▸ by simp [State.tellOwner, h])
  · next h => exact absurd h hs
  · next h => exact absurd h hc
  · exact same owner
  · exact same owner
  · exact same owner
  · exact s.failText_sge ..
  · exact same rfl
  · exact same (s.areaEnded_timeout_sge p.sub)
  · exact same (by simp)

end Sys2Proof.Machine
end

section
/-! Sitting 1: the transactions whose timer has run out (O15). -/

namespace Sys2Proof.Machine

/-! ### What follows the owner's action keeps what it has made -/

/-- What the rest of the step keeps of the state `told`, in which the owner has acted. -/
structure State.EndsIn (told t : State) : Prop where
  queue : ∀ e ∈ told.hlc.queue, e ∈ t.hlc.queue
  results : ∀ r ∈ told.hlc.results, r ∈ t.hlc.results
  calls : told.sameCalls t
  vcp : t.vcp = told.vcp
  cells : told.keepsCells t
  txns : ∀ j q, entryAt told.sge.txns j = some q → entryAt t.sge.txns j = some q
  outgoing : ∀ y, told.outgoingOf y = none → t.outgoingOf y = none
  rests : told.sge.waiters = [] → t.sge.txns = told.sge.txns ∧ t.txt = told.txt ∧ ∀ y, (told.record y).sameFacts (t.record y)

/-- A row in rank order that ends a transaction. -/
theorem endsIn_row {act : State → State} {s : State} {i : Nat} {p : Txn} {o : TxnOutcome} (h : entryAt s.sge.txns i = some p)
    (ha : act (s.setAsked (some [])) = (s.setAsked (some [])).endTxn i o) :
    ((((s.setAsked (some [])).freeTxn i).tellOwner p o none)).EndsIn (s.finish (s.inRankOrder act)) := by
  let r := s.setAsked (some [])
  let told := (r.freeTxn i).tellOwner p o none
  have entry : entryAt r.sge.txns i = some p := h
  have settles : told.Settles (act r) := by rw [ha]; exact State.endTxn_settles entry o
  have rests (hw : told.sge.waiters = []) : told.Rests (act r) := by rw [ha]; exact State.endTxn_rests entry o hw
  obtain ⟨-, -, -, -, -, -, isge, isbs, ivcp, itxt, -⟩ := State.inRankOrder_keeps act s
  obtain ⟨icalls, icells⟩ := State.inRankOrder_keepsOwners act s
  obtain ⟨iqueue, iresults⟩ := State.inRankOrder_link act s
  obtain ⟨-, -, -, -, -, -, tsge, tsbs, -, -, tmob, tcal, tvcp, ttxt, -, -, -, -, tresults, -, tqueue, -⟩ :=
    State.finish_agreesButSleep s (s.inRankOrder act)
  obtain ⟨-, -, results, queue, -⟩ := settles.evolves.hlc
  exact {
    queue := fun e he => by rw [tqueue]; exact iqueue e (queue.subset he)
    results := fun e he => by rw [tresults]; exact iresults e (results.subset he)
    calls := ((State.sameCalls_of_cal settles.cal).trans icalls).trans (State.sameCalls_of_cal tcal)
    vcp := tvcp.trans (ivcp.trans settles.vcp)
    cells := (settles.cells.trans icells).trans (State.keepsCells_of_mob tmob)
    txns := fun j q hq => by rw [tsge, isge]; exact settles.txns j q hq
    outgoing := fun y hy => by unfold State.outgoingOf; rw [ttxt, itxt]; exact settles.outgoing y hy
    rests := fun hw => by
      refine ⟨by rw [tsge, isge]; exact (rests hw).txns, by rw [ttxt, itxt]; exact (rests hw).txt, fun y => ?_⟩
      have record : (s.finish (s.inRankOrder act)).record y = (act r).record y := by unfold State.record; rw [tsbs, isbs]
      rw [record]
      exact (rests hw).record y }

theorem State.EndsIn.hasTxn {told t : State} (h : told.EndsIn t) {x : Sub} {k : TxnKind} (ht : told.hasTxn x k = true) : t.hasTxn x k = true := by
  unfold State.hasTxn at ht
  rw [List.any_eq_true] at ht
  obtain ⟨⟨j, q⟩, hq, hk⟩ := ht
  simp only [State.txnsOf, State.openTxns, List.mem_filter, mem_taken, beq_iff_eq] at hq hk
  rw [← hk]
  exact State.hasTxn_of_entry (h.txns j q hq.1) hq.2

/-- The two rows that end a transaction with TIMEOUT. -/
theorem expiry_row {s : State} {x : Sub} {ident : Ident} {i : Nat} {p : Txn} {c : Instr} (hp : s.txnBy x ident = some (i, p))
    (hc : (c = .answerTimerExpiry x ident ∧ p.state = .sent ∧ p.answer = some 0) ∨
      ∃ n m, c = .waitTimerExpiry x n ∧ (s.sge.queues.get x)[n]? = some m ∧ m.opens = true ∧ m.ident = ident ∧ 1024 ≤ m.wait) :
    ∃ act : State → State, exec c s = .next (s.finish (s.inRankOrder act)) ∧
      act (s.setAsked (some [])) = (s.setAsked (some [])).endTxn i .timeout := by
  have found : (s.setAsked (some [])).txnBy x ident = some (i, p) := hp
  rcases hc with ⟨rfl, hs, ha⟩ | ⟨n, m, rfl, hm, ho, rfl, hw⟩
  · refine ⟨State.answerExpiry x ident, rfl, ?_⟩
    simp [State.answerExpiry, found, hs, ha]
  · refine ⟨State.waitExpiry x n, rfl, ?_⟩
    have late : ¬ m.wait < Config.waitLimit := Nat.not_lt.2 hw
    have here : ((s.setAsked (some [])).sge.queues.get x)[n]? = some m := hm
    unfold State.waitExpiry
    rw [here]
    simp [late, ho, found]

/-! ### What the owner of each kind does -/

/-- The owning context acts, for a kind of the calls. -/
theorem tellOwner_ctx {p : Txn} {k : Nat} (hk : p.owner = .ctx k)
    (h : p.kind = .setup ∨ p.kind = .connect ∨ p.kind = .hold ∨ p.kind = .resume ∨ p.kind = .release) (o : TxnOutcome) (f : State) :
    f.tellOwner p o none = f.ctxOutcome k p.kind o := by
  have owner : p.owner.ctx? = some k := by rw [hk]; rfl
  rcases h with h | h | h | h | h <;> simp [State.tellOwner, h, owner]

section Told
variable {s f t : State} {x : Sub} {i k : Nat} {p : Txn}

/-- The calls' part of O15. -/
theorem ctxTimeout (hf : s.Freed i f) (ht : (f.tellOwner p .timeout none).EndsIn t) (hl : s.cal.contexts.length = 3) (ho : p.owner = .ctx k)
    (hk : k < 3) (hx : (s.ctx k).sub = x) :
    (∀ cause, ((p.kind = .setup ∧ (s.ctx k).state = .originating ∧ cause = .noAnswer) ∨
        (p.kind = .connect ∧ (s.ctx k).state = .connecting ∧ cause = .rejected)) → s.hasPlace x (some (.ctx k)) = true →
      t.hasTxn x .release = true ∧
      t.ctx k = { s.ctx k with state := .releasing, endCause := some cause, ring := none, answerPending := false, connectWaiting := false }) ∧
    (p.kind = .hold → (s.ctx k).state = .holding → t.ctx k = { s.ctx k with state := .active } ∧ t.vcp.call = some (x, k) ∧
      t.vcp.playout = .filling ∧ ∀ q, s.cal.pendingReq = some q → q.ctx = k →
        t.cal.pendingReq = none ∧ ⟨q.tag, q.sub, q.kind.code, .failed, []⟩ ∈ t.hlc.results) ∧
    (p.kind = .resume → (s.ctx k).state = .resuming → t.ctx k = { s.ctx k with state := .held } ∧
      t.cal.holdStack = s.cal.holdStack ++ [k] ∧ ∀ q, s.cal.pendingReq = some q → q.ctx = k →
        t.cal.pendingReq = none ∧ ⟨q.tag, q.sub, q.kind.code, .failed, []⟩ ∈ t.hlc.results) ∧
    (∀ cause, p.kind = .release → (s.ctx k).state = .releasing → (s.ctx k).endCause = some cause → t.ctx k = Reset.context ∧
      ((s.ctx k).screenedOut = false → s.hlc.queue.length < 32 →
        ⟨.report (.callEnded x k (s.ctx k).callRef (s.ctx k).direction cause none), false, false⟩ ∈ t.hlc.queue)) := by
  have ctx : f.ctx k = s.ctx k := State.ctx_congr (by rw [hf.cal]) k
  have len : k < f.cal.contexts.length := by rw [hf.cal, hl]; exact hk
  have same := congrFun ht.calls.ctx k
  refine ⟨fun cause hc hq => ?_, fun hh hs => ?_, fun hr hs => ?_, fun cause hr hs he => ?_⟩
  · have state : (f.ctx k).state = .originating ∨ (f.ctx k).state = .connecting := by
      rw [ctx]; rcases hc with ⟨-, h, -⟩ | ⟨-, h, -⟩
      · exact .inl h
      · exact .inr h
    have told : f.tellOwner p .timeout none = f.releaseCtx k cause := by
      rw [tellOwner_ctx ho (by rcases hc with ⟨h, -⟩ | ⟨h, -⟩ <;> simp [h])]
      rcases hc with ⟨h, hs, rfl⟩ | ⟨h, hs, rfl⟩ <;> simp [State.ctxOutcome, h, ctx, hs]
    rw [told] at ht same
    obtain ⟨offered, released⟩ := State.releaseCtx_offers (s := f) (cause := cause) len state
      (fun body => hf.takes _ _ (by rw [ctx, hx]; exact hq))
    rw [ctx, hx] at offered
    rw [ctx] at released
    exact ⟨ht.hasTxn offered, same.trans released⟩
  · have told : f.tellOwner p .timeout none = f.holdEnded k false := by
      rw [tellOwner_ctx ho (by simp [hh])]
      simp [State.ctxOutcome, hh, ctx, hs, TxnOutcome.ok]
    rw [told] at ht same
    obtain ⟨active, call, playout, pending⟩ := State.holdEnded_fails (s := f) len (by rw [ctx]; exact hs)
    rw [ctx] at active call
    refine ⟨same.trans active, by rw [ht.vcp, call, hx], by rw [ht.vcp, playout], fun q hq hc => ?_⟩
    obtain ⟨gone, result⟩ := pending q (by rw [hf.cal]; exact hq) hc
    exact ⟨ht.calls.2.2.trans gone, ht.results _ result⟩
  · have told : f.tellOwner p .timeout none = f.resumeEnded k false := by
      rw [tellOwner_ctx ho (by simp [hr])]
      simp [State.ctxOutcome, hr, ctx, hs, TxnOutcome.ok]
    rw [told] at ht same
    obtain ⟨held, stack, pending⟩ := State.resumeEnded_fails (s := f) len (by rw [ctx]; exact hs)
    rw [ctx] at held
    refine ⟨same.trans held, ht.calls.2.1.trans (by rw [stack, hf.cal]), fun q hq _ => ?_⟩
    obtain ⟨gone, result⟩ := pending q (by rw [hf.cal]; exact hq)
    exact ⟨ht.calls.2.2.trans gone, ht.results _ result⟩
  · have told : f.tellOwner p .timeout none = f.endCtx k none := by
      rw [tellOwner_ctx ho (by simp [hr])]
      simp [State.ctxOutcome, hr, ctx, hs, TxnOutcome.item?]
    rw [told] at ht same
    obtain ⟨idle, report⟩ := State.endCtx_ends (s := f) len
    refine ⟨same.trans idle, fun hn room => ht.queue _ ?_⟩
    have ended := report (by rw [ctx]; exact hn) (by rw [hf.hlc]; exact room)
    rw [ctx, hx, he] at ended
    exact ended

end Told

/-- Settles O15: the row by `expiry_row`, the owners by what each does at a TIMEOUT, the rest of the step by `endsIn_row`. -/
theorem expiredTransactionsEnd : Obligations.ExpiredTransactionsEnd := by
  intro s x ident i p c ok hp hc
  obtain ⟨-, -, ⟨contexts, -⟩, -⟩ := ok
  obtain ⟨entry, psub, pident⟩ := State.txnBy_some hp
  obtain ⟨act, row, ended⟩ := expiry_row hp hc
  have ends := endsIn_row entry ended
  have freed := State.freeTxn_freed entry
  let f := (s.setAsked (some [])).freeTxn i
  have room (h : s.hlc.queue.length < 32) : f.hlc.queue.length < 32 := by rw [freed.hlc]; exact h
  refine ⟨_, row, fun hs hc hw => ?_, fun hk hq => ends.queue _ ?_, fun hk hq => ends.queue _ ?_, fun o hk ho => ?_, fun hk hu => ?_,
    fun v hk hv hw => ?_, fun k ho hk hx => ctxTimeout freed ends contexts ho hk hx⟩
  · obtain ⟨txns, waiters⟩ := State.tellOwner_timeout hs hc f
    rw [(ends.rests (waiters (freed.nobody hw))).1, txns, freed.txns]
    exact entryAt_set_none ..
  · have told : f.tellOwner p .timeout none = f.report (.missedPage x (p.reason.getD .call) .noLink none none) := by
      simp [State.tellOwner, hk, State.linkEnded, psub]
    rw [told]; exact State.report_mem (room hq) _
  · have told : f.tellOwner p .timeout none = f.report (.passOutcome x ident .timeout) := by
      simp [State.tellOwner, hk, State.passOutcome, TxnOutcome.ok, psub, pident]
    rw [told]; exact State.report_mem (room hq) _
  · have told : f.tellOwner p .timeout none = f.failText x .timeout := by simp [State.tellOwner, hk, State.textOutEnded, psub]
    rw [told] at ends
    obtain ⟨gone, free, report⟩ := State.failText_fails (s := f) (o := o) (by unfold State.outgoingOf; rw [freed.txt]; exact ho) .timeout
    refine ⟨ends.outgoing x gone, fun hw => ?_, fun hq => ends.queue _ (report (room hq))⟩
    rw [(ends.rests ((State.failText_sge f x .timeout).2 (freed.nobody hw))).2.1, free, freed.txt]
  · have told : f.tellOwner p .timeout none = f.onMobOf x fun m => { m with guard := m.params.ttt } := by
      simp [State.tellOwner, hk, State.reportEndedTxn, psub]
    rw [told] at ends
    have mob : (f.onMobOf x fun m => { m with guard := m.params.ttt }).mobOf x = { s.mobOf x with guard := (s.mobOf x).params.ttt } := by
      rw [State.onMobOf_mobOf, if_pos rfl]
      unfold State.mobOf; rw [freed.mob]
    have guard := (ends.cells x (by unfold State.serving; rw [mob]; exact hu)).2
    rw [guard, mob]
  · have told : f.tellOwner p .timeout none = f.areaEnded x .timeout none := by simp [State.tellOwner, hk, psub]
    rw [told] at ends
    obtain ⟨⟨h1, h2, h3, h4⟩, sge⟩ := State.areaEnded_timeout (s := f) (x := x) (v := v) (by unfold State.serving State.mobOf; rw [freed.mob]; exact hv)
    have facts := (ends.rests (by rw [sge]; exact freed.nobody hw)).2.2 x
    unfold SubRecord.sameFacts at facts
    rw [facts]
    exact ⟨h1, h2, h3, h4⟩

end Sys2Proof.Machine
end

section
/-! Sitting 2: the normalised form of a received number and the winning entry of a lookup (chapter 2, R32 and R33). -/

namespace Sys2Proof.Machine
open Sys2Proof

/-! ### The prefixes of a number (R32) -/

theorem beginsWith_append {start rest : Digits} (h : rest ≠ []) : beginsWith (start ++ rest) start = true := by
  have := List.length_pos_iff.2 h
  simp only [beginsWith, Bool.and_eq_true, List.isPrefixOf_iff_prefix, decide_eq_true_eq, List.length_append]
  exact ⟨List.prefix_append .., by omega⟩

theorem beginsWith_eq_false {number start : Digits} (h : ∀ q, number ≠ start ++ q) : beginsWith number start = false := by
  rw [Bool.eq_false_iff]
  intro hb
  simp only [beginsWith, Bool.and_eq_true, List.isPrefixOf_iff_prefix] at hb
  obtain ⟨⟨q, hq⟩, -⟩ := hb
  exact h q hq.symm

/-- The trunk digit goes where a digit follows it (R32). -/
theorem withoutTrunk_of_trunk {r : SubRecord} {t : Nat} {h rest : Digits} (ht : r.trunk = some t) (hh : r.homeCode = some h)
    (hr : rest ≠ []) : withoutTrunk r (t :: rest) = some (h ++ rest) := by
  have hb : beginsWith (t :: rest) [t] = true := beginsWith_append (start := [t]) hr
  simp [withoutTrunk, ht, hh, hb]

/-- The trunk digit does not go where there is none, where the number begins otherwise, or where no digit follows it (R32). -/
theorem withoutTrunk_eq_none {r : SubRecord} {d : Digits} (h : r.trunk = none ∨ r.trunk ≠ d.head? ∨ d.length = 1) :
    withoutTrunk r d = none := by
  cases ht : r.trunk with
  | none => simp [withoutTrunk, ht]
  | some t =>
    have hb : beginsWith d [t] = false := by
      rw [Bool.eq_false_iff]
      intro hb
      simp only [beginsWith, Bool.and_eq_true, List.isPrefixOf_iff_prefix, decide_eq_true_eq] at hb
      obtain ⟨⟨q, rfl⟩, hlen⟩ := hb
      rcases h with h | h | h
      · exact absurd (ht.symm.trans h) (by simp)
      · exact h (by simp [ht])
      · simp only [List.length_singleton] at hlen; omega
    simp [withoutTrunk, ht, hb]

/-! ### The normalised form (R32, R33) -/

theorem lastTwenty_length (d : Digits) : (lastTwenty d).length ≤ 20 := by
  rw [lastTwenty, List.length_drop]; omega

theorem normalise_nil (r : SubRecord) (ty : NumberType) : normalise r ty [] = [] := rfl

theorem normalise_length (r : SubRecord) (ty : NumberType) (d : Digits) : (normalise r ty d).length ≤ 20 := by
  unfold normalise
  split
  · simp
  · exact lastTwenty_length _

theorem normalise_international (r : SubRecord) {d : Digits} (hd : d ≠ []) : normalise r .international d = lastTwenty d := by
  simp [normalise, hd]

theorem normalise_national (r : SubRecord) {d : Digits} (hd : d ≠ []) :
    normalise r .national d = lastTwenty ((withoutTrunk r d).getD (r.homeCode.getD [] ++ d)) := by
  simp [normalise, hd]

/-- An UNKNOWN number that does not begin with the international digits, and is not those digits, goes by the trunk digit (R32). -/
theorem normalise_unknown {r : SubRecord} {d : Digits} (hd : d ≠ []) (hp : ∀ p q, r.intlPre = some p → d ≠ p ++ q) :
    normalise r .unknown d = lastTwenty ((withoutTrunk r d).getD d) := by
  cases hi : r.intlPre with
  | none => simp [normalise, hd, hi]
  | some p =>
    have hne : d ≠ p := fun e => hp p [] hi (by simpa using e)
    simp [normalise, hd, hi, hne, beginsWith_eq_false fun q => hp p q hi]

/-- An UNKNOWN number loses the international digits where a digit follows it (R32). -/
theorem normalise_unknown_prefix {r : SubRecord} {p rest : Digits} (hi : r.intlPre = some p) (hr : rest ≠ []) :
    normalise r .unknown (p ++ rest) = lastTwenty rest := by
  simp [normalise, hi, hr, beginsWith_append hr]

/-- The international digits alone stay (R32). -/
theorem normalise_unknown_self {r : SubRecord} {d : Digits} (hd : d ≠ []) (hi : r.intlPre = some d) :
    normalise r .unknown d = lastTwenty d := by
  simp [normalise, hd, hi]

/-! ### The winning entry (R33) -/

/-- An EXACT entry qualifies for its own digits, above every SUFFIX entry. -/
theorem qualifies_exact {e : NumberEntry} (he : e.mode = .exact) (number : Digits) :
    e.qualifies number = some 21 ↔ e.digits = number := by
  simp [NumberEntry.qualifies, he]

/-- A SUFFIX entry of `k` digits qualifies where its last `k` digits are the number's. -/
theorem qualifies_suffix {e : NumberEntry} {k : Nat} (he : e.mode = .suffix k) (number : Digits) :
    e.qualifies number = some k ↔
      k ≤ number.length ∧ e.digits.drop (e.digits.length - k) = number.drop (number.length - k) := by
  rw [NumberEntry.qualifies, he]
  simp only [lastDigits, Bool.and_eq_true, Option.ite_none_right_eq_some, and_true]
  exact and_congr decide_eq_true_iff decide_eq_true_iff

theorem bestEntry_eq_none {number : Digits} {l : List (Nat × NumberEntry)} (h : ∀ e ∈ l, e.2.qualifies number = none) :
    bestEntry number l = none := by
  induction l with
  | nil => rfl
  | cons e l ih =>
    simp only [List.forall_mem_cons] at h
    simp [bestEntry, h.1, ih h.2]

theorem mem_of_bestEntry {number : Digits} {l : List (Nat × NumberEntry)} {b : Nat × Nat × NumberEntry} (h : bestEntry number l = some b) :
    b.2 ∈ l ∧ b.2.2.qualifies number = some b.1 := by
  induction l with
  | nil => simp [bestEntry] at h
  | cons e l ih =>
    rw [bestEntry] at h
    split at h
    · exact ⟨List.mem_cons_of_mem _ (ih h).1, (ih h).2⟩
    next n hn _ =>
      obtain rfl := Option.some.inj h
      exact ⟨List.mem_cons_self .., hn⟩
    next n c hn hc =>
      split at h
      · obtain rfl := Option.some.inj h
        exact ⟨List.mem_cons_self .., hn⟩
      · obtain rfl := Option.some.inj h
        exact ⟨List.mem_cons_of_mem _ (ih hc).1, (ih hc).2⟩

/-- An entry wins where it qualifies, none ranks above it, and it is the first of those that rank the same. -/
theorem bestEntry_of_best {number : Digits} {l : List (Nat × NumberEntry)} (hs : l.Pairwise fun e f => e.1 < f.1) {e : Nat × NumberEntry}
    (he : e ∈ l) {n : Nat} (hn : e.2.qualifies number = some n) (hmax : ∀ g ∈ l, ∀ m, g.2.qualifies number = some m → m ≤ n)
    (hmin : ∀ g ∈ l, g.2.qualifies number = some n → e.1 ≤ g.1) : bestEntry number l = some (n, e.1, e.2) := by
  induction l with
  | nil => simp at he
  | cons f l ih =>
    obtain ⟨hf, hs⟩ := List.pairwise_cons.1 hs
    rw [List.forall_mem_cons] at hmax hmin
    rw [bestEntry]
    rcases List.mem_cons.1 he with rfl | he
    · rw [hn]
      cases hb : bestEntry number l with
      | none => rfl
      | some b =>
        obtain ⟨hm, hq⟩ := mem_of_bestEntry hb
        exact if_pos (hmax.2 _ hm _ hq)
    · rw [ih hs he hmax.2 hmin.2]
      cases hq : f.2.qualifies number with
      | none => rfl
      | some m =>
        have hle := hmax.1 m hq
        have hlt : m ≠ n := fun hmn => absurd (hmin.1 (hmn ▸ hq)) (Nat.not_le.2 (hf e he))
        exact if_neg (by show ¬ n ≤ m; omega)

theorem lookup_of_bestEntry {s : State} {number : Digits} (h : number ≠ []) {n i : Nat} {e : NumberEntry}
    (hb : bestEntry number (taken s.sbs.numbers) = some (n, i, e)) : s.lookup number = (some i, e.callAction, e.textAction) := by
  simp [State.lookup, h, hb]

theorem lookup_of_none {s : State} {number : Digits} (hb : bestEntry number (taken s.sbs.numbers) = none) :
    s.lookup number = (none, .wake, .quiet) := by
  simp [State.lookup, hb]

/-- Settles O20: each number type by what the prefixes leave, and the lookup by the entry that no other beats. -/
theorem numbersAreNormalisedAndLookedUp : Obligations.NumbersAreNormalisedAndLookedUp := by
  unfold Obligations.NumbersAreNormalisedAndLookedUp
  refine ⟨fun r d hd => ⟨fun ty => ⟨normalise_nil r ty, normalise_length r ty d⟩, normalise_international r hd, ?national, ?homeCode,
      ?prefixed, ?trunk, normalise_unknown_self hd, ?plain⟩,
    fun s number => ⟨fun hn => by simp [hn, State.lookup], fun _ h => lookup_of_none (bestEntry_eq_none h), ?best,
      fun e => ⟨fun he => qualifies_exact he number, fun k he => qualifies_suffix he number⟩⟩⟩
  case national =>
    rintro t h rest ht hh rfl hr
    rw [normalise_national r hd, withoutTrunk_of_trunk ht hh hr]; rfl
  case homeCode =>
    intro h hh ht
    rw [normalise_national r hd, withoutTrunk_eq_none ht, hh]; rfl
  case prefixed =>
    rintro p rest hp rfl hr
    exact normalise_unknown_prefix hp hr
  case trunk =>
    rintro t h rest ht hh rfl hr hp
    rw [normalise_unknown hd hp, withoutTrunk_of_trunk ht hh hr]; rfl
  case plain =>
    intro ht hp
    rw [normalise_unknown hd hp, withoutTrunk_eq_none ht]; rfl
  case best =>
    intro hn e he n hq hmax hmin
    exact lookup_of_bestEntry hn (bestEntry_of_best (taken_sorted _) he hq hmax hmin)

end Sys2Proof.Machine
end

section
/-! Sitting 2: the requests of one subscription, answered in the step that takes them, and CONFIGURE_SUBSCRIPTION (O19). -/

namespace Sys2Proof.Machine

/-! ### Requests of one subscription -/

section Served
variable {s : State} {f : HostFrame} {rest : List HostFrame} {code : Nat} {body : List Byte} {c : Instr}
variable {act : HostFrame → List Byte → State → Answer}

/-- What the row of a served request leaves: what its action left and the RESULT, but for what the end of the step does (R163). -/
theorem served_row (h : s.asks f rest (BitVec.ofNat 8 code) body) (row : exec c s = s.answer (s.serve code act)) {r : ResultCode}
    {data : List Byte} {v : State} (done : act f body (s.heard rest) = (r, data, v)) :
    ∃ t, exec c s = .next t ∧ (v.reply f (BitVec.ofNat 8 code) r data).agreesButSleep t := by
  refine ⟨_, row, ?_⟩
  have e : s.serve code act = (v.reply f (BitVec.ofNat 8 code) r data).evaluate := by
    rw [State.serve_asked _ h, State.heard_eq h.1, done]
  rw [e]
  exact State.agreesButSleep_trans (State.evaluate_agrees _) (State.finish_agreesButSleep ..)

/-- A served request that its action refuses changes nothing else. -/
theorem served_refuses (h : s.asks f rest (BitVec.ofNat 8 code) body) (row : exec c s = s.answer (s.serve code act)) {r : ResultCode}
    (done : act f body (s.heard rest) = refuse r (s.heard rest)) : Refuses c (BitVec.ofNat 8 code) r s f rest := by
  obtain ⟨t, e, agrees⟩ := served_row h row done
  refine ⟨t, e, ?_⟩
  rw [← State.acted_eq h.1, State.heard_eq h.1]
  exact agrees

end Served

section WithSub
variable {α : Type} {r : Reader α} {act : Sub → α → State → Answer} {f : HostFrame} {body : List Byte}

theorem withSub_read {x : Sub} {v : α} (hx : headerSub f.sub = some (some x)) (hv : readAll r body = some v) (s : State) :
    withSub r act f body s = act x v s := by
  simp only [withSub, hx, hv]

/-- A request that names no subscription, or whose values do not read, is a BAD_PARAM (R162, R163). -/
theorem withSub_malformed (h : headerSub f.sub = some none ∨ headerSub f.sub = none ∨ readAll r body = none) (s : State) :
    withSub r act f body s = refuse .badParam s := by
  unfold withSub
  split
  next hx hv => simp [hx, hv] at h
  next => rfl

end WithSub

/-- Taking a frame from the hold leaves the records alone. -/
theorem State.heard_record (s : State) (rest : List HostFrame) (x : Sub) : (s.heard rest).record x = s.record x := by
  simp only [State.record, (s.heard_keeps rest).2.2.1]

theorem State.heard_activity (s : State) (rest : List HostFrame) (x : Sub) : (s.heard rest).activity x = s.activity x := by
  simp only [State.activity, State.heard_record]

/-! ### CONFIGURE_SUBSCRIPTION (R19) -/

theorem State.onRecord_record_other (x : Sub) (g : SubRecord → SubRecord) (s : State) :
    (s.onRecord x g).record x.other = s.record x.other := PerSub.get_upd_other ..

section Configure
variable {s : State} {x : Sub} {v : ConfigValues}

theorem doConfigure_badParam (hv : v.ok = false) : s.doConfigure x v = refuse .badParam s := by
  simp [State.doConfigure, hv]

theorem doConfigure_attached (hv : v.ok = true) (ha : s.activity x ≠ .detached) : s.doConfigure x v = refuse .state s := by
  simp [State.doConfigure, hv, ha]

theorem doConfigure_detached (hv : v.ok = true) (ha : s.activity x = .detached) :
    s.doConfigure x v = (.ok, [], (s.onRecord x (·.configure v)).endWait .update x) := by
  simp [State.doConfigure, hv, ha, accept]

end Configure

/-- Settles O19: the record is what `SubRecord.configure` makes of the old one, and `endWait` leaves the queues. -/
theorem configureReplacesRecord : Obligations.ConfigureReplacesRecord := by
  unfold Obligations.ConfigureReplacesRecord
  intro s f rest body asked
  have row : exec .configureSubscription s = s.answer (s.serve 1 (withSub readConfig State.doConfigure)) := rfl
  refine ⟨fun x v hx hv => ⟨fun ok detached => ?accepted, fun ok attached => ?attached, fun bad => ?bad⟩, fun malformed => ?malformed⟩
  case attached =>
    refine served_refuses asked row ?_
    rw [withSub_read hx hv, doConfigure_attached ok (by rwa [State.heard_activity])]
  case bad =>
    refine served_refuses asked row ?_
    rw [withSub_read hx hv, doConfigure_badParam bad]
  case malformed => exact served_refuses asked row (withSub_malformed malformed _)
  case accepted =>
    obtain ⟨-, sge, sbs, -, -, -, results, -⟩ := s.heard_keeps rest
    have done := (withSub_read (act := State.doConfigure) hx hv (s.heard rest)).trans
      (doConfigure_detached ok (by rwa [State.heard_activity]))
    obtain ⟨t, e, -, -, -, -, -, -, tsge, tsbs, -, -, -, -, -, -, -, -, -, -, tresults, -, tqueue, -⟩ := served_row asked row done
    have record (y : Sub) : t.record y = ((s.heard rest).onRecord x (·.configure v)).record y := by
      simp only [State.record, tsbs]; simp
    have own : t.record x = (s.record x).configure v := by
      rw [record, State.onRecord_record_same, State.heard_record]
    have other : t.record x.other = s.record x.other := by
      rw [record, State.onRecord_record_other, State.heard_record]
    refine ⟨t, e, ?_, other, ?_, ?_, ?_, ?_⟩
    · rw [tresults]; simp [results]
    · rw [tsbs]; simp [State.onRecord, sbs]
    · rw [tsge]; simp [State.endWait, sge]
    · rw [tqueue]; simp
    · simp only [State.activity, own, SubRecord.configure, true_and]
      exact detached

end Sys2Proof.Machine
end

section
/-! Sitting 2: the SEARCH claim as MOB places it, and ATTACH (O21). -/

namespace Sys2Proof.Machine

/-! ### What an owner finds of its claims, whatever the table holds -/

section Claims
variable {s t : State} {x y : Sub} {k l : ClaimKind}

/-- Two tables that hold the same claims of a kind and subscription, at the same places, give the same first one. -/
theorem State.sameClaims.claimOf (h : s.sameClaims x k t) : t.claimOf x k = s.claimOf x k := by
  have found (u : State) : u.claimOf x k = ((taken u.rta.claims).filter fun e => e.2.isFor x k).head? := (List.head?_filter ..).symm
  have irrefl : Std.Irrefl fun e f : Nat × Claim => e.1 < f.1 := ⟨fun e => Nat.lt_irrefl e.1⟩
  have antisymm : Std.Antisymm fun e f : Nat × Claim => e.1 < f.1 := ⟨fun e f h k => absurd h (Nat.lt_asymm k)⟩
  have sorted (u : State) := (taken_sorted u.rta.claims).filter fun e => e.2.isFor x k
  rw [found, found, (sorted t).eq_of_mem_iff (sorted s) fun e => ?_]
  obtain ⟨i, c⟩ := e
  simp only [List.mem_filter, mem_taken, Claim.isFor, Bool.and_eq_true, beq_iff_eq]
  exact and_congr_left fun ⟨hx, hk⟩ => h i c hx hk

theorem State.hasClaim_of_entry {i : Nat} {c : Claim} (h : entryAt s.rta.claims i = some c) (hx : c.sub = x) (hk : c.kind = k) :
    s.hasClaim x k = true := by
  unfold State.hasClaim
  cases hc : s.claimOf x k with
  | none => exact absurd ⟨hx, hk⟩ (State.claimOf_none hc i c h)
  | some e => rfl

/-- The windows that begin at the next boundary are not those of a later frame of the same number (log 34). -/
theorem Window.placedAt_next (now : Frame) (slack length period : Nat) :
    (⟨now + 1, slack, length, period, false⟩ : Window).placedAt now = ⟨now + 1, slack, length, period, false⟩ := by
  simp [Window.placedAt]

/-- A placement of a claim that is not in the table takes the first free entry (R36). -/
theorem State.claimOf_place_new (hn : s.claimOf x k = none) {i : Nat} (hi : lowestFree s.rta.claims = some i) (w : Window) :
    (s.place x k w).2.claimOf x k = some (i, newClaim x k (w.placedAt s.clock.now)) := by
  have entry (j : Nat) := s.place_entry x k w j
  simp only [hn, hi] at entry
  have there : (s.place x k w).2.hasClaim x k = true :=
    State.hasClaim_of_entry ((entry i).trans (if_pos rfl)) rfl rfl
  obtain ⟨⟨j, c⟩, he⟩ := Option.isSome_iff_exists.1 there
  obtain ⟨hc, hx, hk⟩ := State.claimOf_some he
  rw [entry] at hc
  split at hc
  next hij =>
    obtain rfl := hij
    rw [he, Option.some.inj hc]
  next => exact absurd ⟨hx, hk⟩ (State.claimOf_none hn j c hc)

theorem Claim.placeAgain_isFor (w : Window) (c : Claim) : (c.placeAgain w).sub = c.sub ∧ (c.placeAgain w).kind = c.kind := by
  unfold Claim.placeAgain
  split <;> exact ⟨rfl, rfl⟩

/-- A placement that RTA takes leaves the claim in the table (R36). -/
theorem State.hasClaim_place {w : Window} (h : (s.place x k w).1 = true) : (s.place x k w).2.hasClaim x k = true := by
  cases hc : s.claimOf x k with
  | none =>
    cases hi : lowestFree s.rta.claims with
    | none => rw [(State.place_refused ..).2 ⟨hc, hi⟩] at h; cases h
    | some i => rw [State.hasClaim, State.claimOf_place_new hc hi]; rfl
  | some e =>
    obtain ⟨-, hx, hk⟩ := State.claimOf_some hc
    have entry := s.place_entry x k w e.1
    simp only [hc, if_true] at entry
    obtain ⟨sub, kind⟩ := Claim.placeAgain_isFor (w.placedAt s.clock.now) e.2
    exact State.hasClaim_of_entry entry (sub.trans hx) (kind.trans hk)

/-- A placement of a claim that is RUNNING is kept as pending (R36). -/
theorem State.place_running {i : Nat} {c : Claim} (h : s.claimOf x k = some (i, c)) (hr : c.state = .running) (w : Window) :
    entryAt (s.place x k w).2.rta.claims i = some { c with placement := some (w.placedAt s.clock.now), withdrawing := false } := by
  have entry := s.place_entry x k w i
  simp only [h, if_true] at entry
  rw [entry, Claim.placeAgain, hr]

/-! ### The placement of SEARCH (R101) -/

/-- The window of a SEARCH claim that MOB places (R101). -/
def State.searchWindow (s : State) (x : Sub) : Window := ⟨s.clock.now + 1, 15, 4, (s.mobOf x).params.searchInterval, false⟩

theorem State.searchWindow_placedAt (s : State) (x : Sub) : (s.searchWindow x).placedAt s.clock.now = s.searchWindow x :=
  Window.placedAt_next ..

theorem State.trySearch_taken (h : (s.place x .search (s.searchWindow x)).1 = true) :
    (s.trySearch x).hasClaim x .search = true ∧ ((s.trySearch x).mobOf x).searchRetry = none := by
  refine ⟨?_, ?_⟩
  · unfold State.hasClaim State.claimOf
    rw [State.trySearch_rta]
    exact State.hasClaim_place h
  · unfold State.trySearch
    dsimp only
    split
    next => simp [State.mobOf, State.onMobOf]
    next e => rw [State.searchWindow, e] at h; cases h

theorem State.trySearch_refused (h : (s.place x .search (s.searchWindow x)).1 = false) :
    ((s.trySearch x).mobOf x).searchRetry = some (s.mobOf x).params.searchInterval := by
  unfold State.trySearch
  dsimp only
  split
  next e => rw [State.searchWindow, e] at h; cases h
  next => simp [State.mobOf, State.onMobOf]

/-- What placing SEARCH at once comes to: taken wherever the table has room, and tried again one interval later otherwise (R36, R101). -/
theorem State.trySearch_claims (s : State) (x : Sub) :
    (lowestFree s.rta.claims ≠ none → (s.trySearch x).hasClaim x .search = true ∧ ((s.trySearch x).mobOf x).searchRetry = none) ∧
    ((s.trySearch x).hasClaim x .search = true ∨ ((s.trySearch x).mobOf x).searchRetry = some (s.mobOf x).params.searchInterval) ∧
    (s.claimOf x .search = none → lowestFree s.rta.claims ≠ none →
      ∃ i, (s.trySearch x).claimOf x .search = some (i, newClaim x .search (s.searchWindow x))) ∧
    ∀ i c, s.claimOf x .search = some (i, c) → c.state = .running →
      entryAt (s.trySearch x).rta.claims i = some { c with placement := some (s.searchWindow x), withdrawing := false } := by
  have rta : (s.trySearch x).rta = (s.place x .search (s.searchWindow x)).2.rta := s.trySearch_rta x
  refine ⟨fun room => State.trySearch_taken ?_, ?_, fun hn room => ?_, fun i c hc hr => ?_⟩
  · rw [← Bool.not_eq_false, State.place_refused]
    exact fun h => room h.2
  · cases h : (s.place x .search (s.searchWindow x)).1 with
    | true => exact .inl (State.trySearch_taken h).1
    | false => exact .inr (State.trySearch_refused h)
  · obtain ⟨i, hi⟩ := Option.ne_none_iff_exists'.1 room
    refine ⟨i, ?_⟩
    have placed := State.claimOf_place_new hn hi (s.searchWindow x)
    rwa [State.searchWindow_placedAt, State.claimOf, ← rta] at placed
  · have placed := State.place_running hc hr (s.searchWindow x)
    rwa [State.searchWindow_placedAt, ← rta] at placed

end Claims

/-! ### ATTACH (R22) -/

section Attach
variable {s : State} {x : Sub}

/-- What ATTACH leaves before MOB places SEARCH. -/
def State.attached (s : State) (x : Sub) : State :=
  (((s.emptyUplink x).withdraw x .signalling).writeActivity x .noService).onMobOf x fun m => { m with searchPos := 0, bandScan := 0 }

theorem doAttach_refused (h : s.activity x ≠ .detached ∨ (s.record x).configured = false) : s.doAttach x = refuse .state s := by
  unfold State.doAttach
  rw [if_pos]
  simpa using h

theorem doAttach_accepted (ha : s.activity x = .detached) (hc : (s.record x).configured = true) :
    s.doAttach x = (.ok, [], (s.attached x).placeSearch x) := by
  simp [State.doAttach, ha, hc, accept, State.attached]

/-- A change of the activity state leaves the uplink queues and the transactions. -/
theorem State.writeActivity_tables (s : State) (x : Sub) (a : Activity) :
    (s.writeActivity x a).sge.queues = s.sge.queues ∧ (s.writeActivity x a).sge.txns = s.sge.txns := by
  unfold State.writeActivity
  dsimp only
  split <;> simp [State.markWaiters]

/-- What ATTACH changes before MOB places SEARCH: the activity state, the uplink queue, the SIGNALLING claim and the search's place (R22). -/
theorem State.attached_keeps (s : State) (x : Sub) :
    (s.attached x).record x = { s.record x with activity := .noService } ∧ (s.attached x).record x.other = s.record x.other ∧
    (s.attached x).sge.queues = s.sge.queues.set x [] ∧ (s.attached x).sge.txns = s.sge.txns ∧ (s.attached x).cal = s.cal ∧
    (s.attached x).vcp = s.vcp ∧ (s.attached x).dlc = s.dlc ∧ (s.attached x).hlc = s.hlc ∧ (s.attached x).clock = s.clock ∧
    (s.attached x).rta = ((s.emptyUplink x).withdraw x .signalling).rta ∧
    ((s.attached x).mobOf x).params = (s.mobOf x).params := by
  have record (y : Sub) : (s.attached x).record y =
      if y = x then { s.record y with activity := .noService } else s.record y :=
    (State.writeActivity_record ..).trans (by simp [State.record])
  obtain ⟨queues, txns⟩ := ((s.emptyUplink x).withdraw x .signalling).writeActivity_tables x .noService
  refine ⟨(record x).trans (if_pos rfl), (record x.other).trans (if_neg (other_ne x)), queues.trans (by simp [State.emptyUplink]),
    txns.trans (by simp [State.emptyUplink]), by simp [State.attached], by simp [State.attached], by simp [State.attached],
    by simp [State.attached], by simp [State.attached], by simp [State.attached], ?_⟩
  have mob : (((s.emptyUplink x).withdraw x .signalling).writeActivity x .noService).mob = s.mob := by
    simp [State.withdraw_mob _ x (k := .signalling) (by decide)]
  simp only [State.attached, State.mobOf, State.onMobOf, PerSub.get_upd_same, State.onMob, mob]

/-- ATTACH leaves the SEARCH claims as they are until MOB places one. -/
theorem State.attached_search (s : State) (x : Sub) : (s.attached x).claimOf x .search = s.claimOf x .search := by
  have same := (s.emptyUplink x).withdraw_sameClaims (x := x) (y := x) (k := .signalling) (l := .search) (.inr (by decide))
  obtain ⟨-, -, -, -, -, -, -, -, -, rta, -⟩ := s.attached_keeps x
  have e := same.claimOf
  rw [State.claimOf, ← rta] at e
  exact e.trans (by simp [State.claimOf])

theorem State.attached_room {s : State} {x : Sub} (h : lowestFree s.rta.claims ≠ none) : lowestFree (s.attached x).rta.claims ≠ none := by
  obtain ⟨-, -, -, -, -, -, -, -, -, rta, -⟩ := s.attached_keeps x
  rw [rta]
  exact State.withdraw_room _ x .signalling (by simpa using h)

end Attach

/-- What taking a frame from the hold leaves alone besides. -/
theorem State.heard_rest (s : State) (rest : List HostFrame) : (s.heard rest).clock = s.clock ∧ (s.heard rest).dlc = s.dlc ∧
    (s.heard rest).psc = s.psc ∧ (s.heard rest).vcp = s.vcp := by
  unfold State.heard
  dsimp only
  split <;> simp

/-- A request without values reads where nothing follows its code (R162). -/
theorem readAll_pure {α : Type} (v : α) (body : List Byte) : readAll (readPure v) body = if body = [] then some v else none := by
  cases body <;> rfl

/-- Settles O21: what ATTACH changes by `attached_keeps`, and the SEARCH claim by `trySearch_claims`. -/
theorem attachBeginsSearch : Obligations.AttachBeginsSearch := by
  unfold Obligations.AttachBeginsSearch
  intro s f rest body asked
  have row : exec .attach s = s.answer (s.serve 8 (withSub (readPure ()) fun x _ => State.doAttach x)) := rfl
  refine ⟨fun x hx hbody detached configured => ?accepted, fun x hx hbody no => ?refused, fun malformed => ?malformed⟩
  case refused =>
    refine served_refuses asked row ?_
    rw [withSub_read hx ((readAll_pure ..).trans (if_pos hbody)), doAttach_refused]
    rwa [State.heard_activity, State.heard_record]
  case malformed =>
    refine served_refuses asked row (withSub_malformed ?_ _)
    rw [readAll_pure]
    simpa using malformed
  case accepted =>
    obtain ⟨rta, sge, -, mob, cal, -, results, -⟩ := s.heard_keeps rest
    obtain ⟨clock, dlc, -, vcp⟩ := s.heard_rest rest
    have done := (withSub_read (act := fun x (_ : Unit) => State.doAttach x) hx ((readAll_pure () body).trans (if_pos hbody))
      (s.heard rest)).trans (doAttach_accepted ((s.heard_activity rest x).trans detached)
        ((congrArg SubRecord.configured (s.heard_record rest x)).trans configured))
    obtain ⟨t, e, -, -, -, -, trta, tdlc, tsge, tsbs, -, -, tmob, tcal, tvcp, -, -, -, -, -, tresults, -, tqueue, -⟩ :=
      served_row asked row done
    obtain ⟨own, other, queues, txns, acal, avcp, adlc, ahlc, aclock, arta, aparams⟩ := (s.heard rest).attached_keeps x
    have record (y : Sub) : t.record y = ((s.heard rest).attached x).record y := by
      simp only [State.record, tsbs]; simp
    have attached : t.record x = { s.record x with activity := .noService } := by rw [record, own, State.heard_record]
    have tq : t.sge.queues = s.sge.queues.set x [] := by rw [tsge]; simp [queues, sge]
    refine ⟨t, e, ?_, ?_, ?_, fun none => ?claims, attached, ?_, ?_, ?_, ?_, ?_, ?_, ?_⟩
    case claims =>
      have now : ((s.heard rest).attached x).placeSearch x = ((s.heard rest).attached x).trySearch x :=
        State.ask_now (by rw [arta, State.withdraw_asked]; simp [rta, show s.rta.asked = .none from none]) ..
      rw [now] at trta tmob
      have search : ((s.heard rest).attached x).claimOf x .search = s.claimOf x .search := by
        rw [State.attached_search, State.claimOf, rta]; rfl
      have room (h : lowestFree s.rta.claims ≠ .none) : lowestFree ((s.heard rest).attached x).rta.claims ≠ .none :=
        State.attached_room (by rwa [rta])
      have window : ((s.heard rest).attached x).searchWindow x = s.searchWindow x := by
        simp only [State.searchWindow, aclock, clock, aparams]; simp only [State.mobOf, mob]
      have interval : (((s.heard rest).attached x).mobOf x).params.searchInterval = (s.mobOf x).params.searchInterval := by
        rw [aparams]; simp only [State.mobOf, mob]
      have has : t.hasClaim x .search = (((s.heard rest).attached x).trySearch x).hasClaim x .search := by
        simp only [State.hasClaim, State.claimOf, trta]; rfl
      have of : t.claimOf x .search = (((s.heard rest).attached x).trySearch x).claimOf x .search := by
        simp only [State.claimOf, trta]; rfl
      have retry : t.mobOf x = (((s.heard rest).attached x).trySearch x).mobOf x := by simp only [State.mobOf, tmob]; rfl
      obtain ⟨taken, either, fresh, running⟩ := ((s.heard rest).attached x).trySearch_claims x
      rw [search, window] at fresh
      rw [search, window] at running
      rw [interval] at either
      rw [has, of, retry, trta]
      refine ⟨fun h => taken (room h), either, fun hn h => ?_, running⟩
      obtain ⟨i, hi⟩ := fresh (by simpa [State.hasClaim] using hn) (room h)
      exact ⟨i, _, hi, rfl, rfl, rfl, rfl, rfl, rfl⟩
    · rw [State.activity, attached]
    · rw [tresults]; simp [ahlc, results]
    · rw [tq]; simp
    · rw [record, other, State.heard_record]
    · rw [tqueue]; simp [ahlc]
    · rw [tcal]; simp [acal, cal]
    · rw [tvcp]; simp [avcp, vcp]
    · rw [tdlc]; simp [adlc, dlc]
    · rw [tsge]; simp [txns, sge]
    · rw [tq]; simp

end Sys2Proof.Machine
end

section
/-! Sitting 2: the work for one subscription leaves what the part holds for the other (O22). -/

namespace Sys2Proof.Machine

/-- What the part holds for `x` is left alone, but for its contexts, its reassembly entries and its SIGNALLING claim, and with it the count
of stray blocks and the arbiter's copies. -/
structure State.Spares (x : Sub) (s t : State) : Prop where
  record : t.record x = s.record x
  mob : t.mobOf x = s.mobOf x
  psc : t.pscOf x = s.pscOf x
  txns : t.txnsOf x = s.txnsOf x
  outgoing : t.outgoingOf x = s.outgoingOf x
  listens : t.dlc.filters.get x = s.dlc.filters.get x
  queue : t.sge.queues.get x = s.sge.queues.get x
  hold : t.sge.holds.get x = s.sge.holds.get x
  nextIdent : t.sge.nextIdent.get x = s.sge.nextIdent.get x
  stray : t.sge.stray = s.sge.stray
  copies : t.rta.copies = s.rta.copies
  claims : ∀ k, k ≠ .signalling → s.sameClaims x k t

section Blocks
variable {s t u : State} {x : Sub}

@[simp] theorem State.Spares.refl (s : State) : s.Spares x s :=
  ⟨rfl, rfl, rfl, rfl, rfl, rfl, rfl, rfl, rfl, rfl, rfl, fun _ _ _ _ _ _ => .rfl⟩

theorem State.Spares.trans (h : s.Spares x t) (k : t.Spares x u) : s.Spares x u where
  record := k.record.trans h.record
  mob := k.mob.trans h.mob
  psc := k.psc.trans h.psc
  txns := k.txns.trans h.txns
  outgoing := k.outgoing.trans h.outgoing
  listens := k.listens.trans h.listens
  queue := k.queue.trans h.queue
  hold := k.hold.trans h.hold
  nextIdent := k.nextIdent.trans h.nextIdent
  stray := k.stray.trans h.stray
  copies := k.copies.trans h.copies
  claims := fun l hl => (h.claims l hl).trans (k.claims l hl)

theorem State.Spares.foldl {α : Type} {f : State → α → State} {l : List α} (hf : ∀ (t : State) (a : α), a ∈ l → t.Spares x (f t a))
    (h : s.Spares x t) : s.Spares x (l.foldl f t) := by
  induction l generalizing t with
  | nil => exact h
  | cons a l ih =>
    exact ih (fun t b hb => hf t b (List.mem_cons_of_mem _ hb)) (h.trans (hf t a List.mem_cons_self))

/-- An operation that leaves these blocks alone. -/
theorem State.Spares.keep (h : s.Spares x t) (rta : u.rta = t.rta := by simp) (dlc : u.dlc = t.dlc := by simp) (sge : u.sge = t.sge := by simp)
    (sbs : u.sbs = t.sbs := by simp) (per : u.psc.per = t.psc.per := by simp) (mob : u.mob = t.mob := by simp)
    (outgoing : u.txt.outgoing = t.txt.outgoing := by simp) : s.Spares x u :=
  h.trans {
    record := by unfold State.record; rw [sbs]
    mob := by unfold State.mobOf; rw [mob]
    psc := by unfold State.pscOf; rw [per]
    txns := by unfold State.txnsOf State.openTxns; rw [sge]
    outgoing := by unfold State.outgoingOf; rw [outgoing]
    listens := by rw [dlc]
    queue := by rw [sge]
    hold := by rw [sge]
    nextIdent := by rw [sge]
    stray := by rw [sge]
    copies := by rw [rta]
    claims := fun _ _ => State.sameClaims_of_claims (by rw [rta]) }

@[simp] theorem State.onRecord_spares (f : SubRecord → SubRecord) (h : s.Spares x.other t) : s.Spares x.other (t.onRecord x f) :=
  h.trans { State.Spares.refl t with record := PerSub.get_upd_other .. }

@[simp] theorem State.onMobOf_spares (f : MobSub → MobSub) (h : s.Spares x.other t) : s.Spares x.other (t.onMobOf x f) :=
  h.trans { State.Spares.refl t with mob := PerSub.get_upd_other .. }

@[simp] theorem State.onPscOf_spares (f : PscSub → PscSub) (h : s.Spares x.other t) : s.Spares x.other (t.onPscOf x f) :=
  h.trans { State.Spares.refl t with psc := PerSub.get_upd_other .. }

@[simp] theorem State.onCal_spares (f : Cal → Cal) {y : Sub} (h : s.Spares y t) : s.Spares y (t.onCal f) := h.keep
@[simp] theorem State.onVcp_spares (f : Vcp → Vcp) {y : Sub} (h : s.Spares y t) : s.Spares y (t.onVcp f) := h.keep
@[simp] theorem State.onHlc_spares (f : Hlc → Hlc) {y : Sub} (h : s.Spares y t) : s.Spares y (t.onHlc f) := h.keep
@[simp] theorem State.onRpt_spares (f : Rpt → Rpt) {y : Sub} (h : s.Spares y t) : s.Spares y (t.onRpt f) := h.keep

@[simp] theorem State.onTxt_spares {f : Txt → Txt} {y : Sub} (h : s.Spares y t) (hf : ∀ u, (f u).outgoing = u.outgoing) :
    s.Spares y (t.onTxt f) := h.keep (outgoing := hf _)

@[simp] theorem State.onRta_spares {f : Rta → Rta} {y : Sub} (h : s.Spares y t) (hf : ∀ r, (f r).copies = r.copies ∧ (f r).claims = r.claims) :
    s.Spares y (t.onRta f) :=
  h.trans { State.Spares.refl t with
    copies := (hf _).1
    claims := fun _ _ => State.sameClaims_of_claims (hf _).2 }

@[simp] theorem State.setFilter_spares (isOpen : Bool) (h : s.Spares x.other t) : s.Spares x.other (t.setFilter x isOpen) :=
  h.trans { State.Spares.refl t with listens := PerSub.get_set_other .. }

@[simp] theorem State.setOutgoing_spares (o : Option Outgoing) (h : s.Spares x.other t) : s.Spares x.other (t.setOutgoing x o) :=
  h.trans { State.Spares.refl t with outgoing := PerSub.get_set_other .. }

/-- A change of SGE that is none of `y`'s. -/
@[simp] theorem State.onSge_spares {f : Sge → Sge} {y : Sub} (h : s.Spares y t) (hf : ∀ g, (f g).txns = g.txns ∧
    (f g).queues.get y = g.queues.get y ∧ (f g).holds.get y = g.holds.get y ∧ (f g).nextIdent.get y = g.nextIdent.get y ∧
    (f g).stray = g.stray) : s.Spares y (t.onSge f) := by
  obtain ⟨txns, queue, hold, next, stray⟩ := hf t.sge
  exact h.trans { State.Spares.refl t with
    txns := by unfold State.txnsOf State.openTxns; exact congrArg _ (congrArg _ txns)
    queue := queue
    hold := hold
    nextIdent := next
    stray := stray }

/-- The transactions of a subscription are the entries of the table that are its own. -/
theorem State.txnsOf_of_entries {y : Sub} (h : ∀ i p, p.sub = y → (entryAt t.sge.txns i = some p ↔ entryAt s.sge.txns i = some p)) :
    t.txnsOf y = s.txnsOf y := by
  have irrefl : Std.Irrefl fun e f : Nat × Txn => e.1 < f.1 := ⟨fun e => Nat.lt_irrefl e.1⟩
  have antisymm : Std.Antisymm fun e f : Nat × Txn => e.1 < f.1 := ⟨fun e f h k => absurd h (Nat.lt_asymm k)⟩
  have sorted (u : State) := (taken_sorted u.sge.txns).filter fun e => e.2.sub == y
  refine (sorted t).eq_of_mem_iff (sorted s) fun e => ?_
  obtain ⟨i, p⟩ := e
  simp only [State.txnsOf, State.openTxns, List.mem_filter, mem_taken, beq_iff_eq]
  exact and_congr_left fun hp => h i p hp

end Blocks

section Operations
variable {s t : State} {x : Sub}

/-! ### Claims -/

@[simp] theorem State.recomputeWake_spares {y : Sub} (h : s.Spares y t) : s.Spares y t.recomputeWake := h.keep

theorem State.place_copies (x : Sub) (k : ClaimKind) (w : Window) (s : State) : (s.place x k w).2.rta.copies = s.rta.copies := by
  unfold State.place
  dsimp only
  (repeat' split) <;> simp [State.onClaim]

theorem State.withdraw_copies (x : Sub) (k : ClaimKind) (s : State) : (s.withdraw x k).rta.copies = s.rta.copies := by
  have marked (u : State) : u.markUnitWithdrawn.rta.copies = u.rta.copies := by unfold State.markUnitWithdrawn; split <;> rfl
  have purpose (u : State) : (u.dropPurpose x k).rta = u.rta := by unfold State.dropPurpose; split <;> rfl
  unfold State.withdraw
  dsimp only
  (repeat' split)
  · rfl
  · rw [marked]; rfl
  · rw [purpose]; rfl
  · rw [purpose]; rfl

/-- A placement or a withdrawal of SIGNALLING spares even its own subscription. -/
@[simp] theorem State.placeSignalling_spares {y : Sub} (h : s.Spares y t) : s.Spares y (t.placeSignalling x) :=
  h.trans { (State.Spares.refl t : t.Spares y t) with
    record := by simp [State.record, State.placeSignalling]
    mob := by simp [State.mobOf, State.placeSignalling]
    psc := by simp [State.pscOf, State.placeSignalling]
    txns := by simp [State.txnsOf, State.openTxns, State.placeSignalling]
    outgoing := by simp [State.outgoingOf, State.placeSignalling]
    listens := by simp [State.placeSignalling]
    queue := by simp [State.placeSignalling]
    hold := by simp [State.placeSignalling]
    nextIdent := by simp [State.placeSignalling]
    stray := by simp [State.placeSignalling]
    copies := State.place_copies ..
    claims := fun k hk => State.place_sameClaims _ _ (.inr hk) }

@[simp] theorem State.place_spares (k : ClaimKind) (w : Window) (h : s.Spares x.other t) : s.Spares x.other (t.place x k w).2 :=
  h.trans { (State.Spares.refl t : t.Spares x.other t) with
    record := by simp [State.record]
    mob := by simp [State.mobOf]
    psc := by simp [State.pscOf]
    txns := by simp [State.txnsOf, State.openTxns]
    outgoing := by simp [State.outgoingOf]
    listens := by simp
    queue := by simp
    hold := by simp
    nextIdent := by simp
    stray := by simp
    copies := State.place_copies ..
    claims := fun _ _ => State.place_sameClaims _ _ (.inl (other_ne x)) }

@[simp] theorem State.withdraw_spares (k : ClaimKind) (h : s.Spares x.other t) : s.Spares x.other (t.withdraw x k) :=
  h.trans { (State.Spares.refl t : t.Spares x.other t) with
    record := by simp [State.record]
    mob := State.withdraw_other ..
    psc := by simp [State.pscOf]
    txns := by simp [State.txnsOf, State.openTxns]
    outgoing := by simp [State.outgoingOf]
    listens := by simp
    queue := by simp
    hold := by simp
    nextIdent := by simp
    stray := by simp
    copies := State.withdraw_copies ..
    claims := fun _ _ => State.withdraw_sameClaims _ (.inl (other_ne x)) }

theorem State.withdraw_signalling_spares {y : Sub} (h : s.Spares y t) : s.Spares y (t.withdraw x .signalling) :=
  h.trans { (State.Spares.refl t : t.Spares y t) with
    record := by simp [State.record]
    mob := by unfold State.mobOf; rw [State.withdraw_mob _ _ (by decide)]
    psc := by simp [State.pscOf]
    txns := by simp [State.txnsOf, State.openTxns]
    outgoing := by simp [State.outgoingOf]
    listens := by simp
    queue := by simp
    hold := by simp
    nextIdent := by simp
    stray := by simp
    copies := State.withdraw_copies ..
    claims := fun _ hk => State.withdraw_sameClaims _ (.inr hk) }

@[simp] theorem State.ask_spares {y : Sub} (k : ClaimKind) {now : State → State} (h : s.Spares y t) (hn : s.Spares y (now t)) :
    s.Spares y (t.ask x k now) := by
  unfold State.ask
  (repeat' split) <;> simp (maxDischargeDepth := 20) [h, hn]

@[simp] theorem State.reexamine_spares {y : Sub} (h : s.Spares y t) : s.Spares y (t.reexamine x) := by
  unfold State.reexamine
  (repeat' split) <;> simp (maxDischargeDepth := 20) [h, State.withdraw_signalling_spares]

@[simp] theorem State.withdrawAll_spares (h : s.Spares x.other t) : s.Spares x.other (t.withdrawAll x) := by
  simp (maxDischargeDepth := 20) [State.withdrawAll, h]

@[simp] theorem State.withdrawPaging_spares (h : s.Spares x.other t) : s.Spares x.other (t.withdrawPaging x) := by
  simp (maxDischargeDepth := 20) [State.withdrawPaging, h]

@[simp] theorem State.replaceMeasure_spares (h : s.Spares x.other t) : s.Spares x.other (t.replaceMeasure x) := by
  unfold State.replaceMeasure
  (repeat' split) <;> simp (maxDischargeDepth := 20) [h]

@[simp] theorem State.withRelax_spares (f : PscSub → PscSub) (h : s.Spares x.other t) : s.Spares x.other (t.withRelax x f) := by
  unfold State.withRelax
  dsimp only
  split <;> simp (maxDischargeDepth := 20) [h]

@[simp] theorem State.report_spares (r : Report) {y : Sub} (h : s.Spares y t) : s.Spares y (t.report r) := h.keep
@[simp] theorem State.reportWake_spares (r : Report) {y : Sub} (h : s.Spares y t) : s.Spares y (t.reportWake r) := h.keep

@[simp] theorem State.lostOccasion_spares (b : Bool) (h : s.Spares x.other t) : s.Spares x.other (t.lostOccasion x b) := by
  unfold State.lostOccasion
  dsimp only
  (repeat' split) <;> simp (maxDischargeDepth := 20) [h, State.clearRun]

@[simp] theorem State.tryPaging_spares (h : s.Spares x.other t) : s.Spares x.other (t.tryPaging x) := by
  unfold State.tryPaging
  split
  · exact h
  · split <;> (have e := congrArg Prod.snd ‹_ = (_, _)›; dsimp only at e; subst e) <;> simp (maxDischargeDepth := 20) [h]

@[simp] theorem State.readRefused_spares (h : s.Spares x.other t) : s.Spares x.other (t.readRefused x) := by
  unfold State.readRefused State.readFailed
  dsimp only
  (repeat' split) <;> simp (maxDischargeDepth := 20) [h]

@[simp] theorem State.tryRead_spares (h : s.Spares x.other t) : s.Spares x.other (t.tryRead x) := by
  unfold State.tryRead
  split <;> (have e := congrArg Prod.snd ‹_ = (_, _)›; dsimp only at e; subst e) <;> simp (maxDischargeDepth := 20) [h]

@[simp] theorem State.trySearch_spares (h : s.Spares x.other t) : s.Spares x.other (t.trySearch x) := by
  unfold State.trySearch
  dsimp only
  split <;> (have e := congrArg Prod.snd ‹_ = (_, _)›; dsimp only at e; subst e) <;> simp (maxDischargeDepth := 20) [h]

@[simp] theorem State.placePaging_spares (h : s.Spares x.other t) : s.Spares x.other (t.placePaging x) := by
  unfold State.placePaging
  split <;> simp (maxDischargeDepth := 20) [h]

@[simp] theorem State.refreshRead_spares (h : s.Spares x.other t) : s.Spares x.other (t.refreshRead x) := by
  unfold State.refreshRead State.placeRead
  (repeat' split) <;> simp (maxDischargeDepth := 20) [h]

@[simp] theorem State.placeSearch_spares (h : s.Spares x.other t) : s.Spares x.other (t.placeSearch x) := by
  simp (maxDischargeDepth := 20) [State.placeSearch, h]

/-! ### The uplink queue and the transactions -/

@[simp] theorem State.markWaiters_spares (p : Waiter → Bool) {y : Sub} (h : s.Spares y t) : s.Spares y (t.markWaiters p) := by
  simp (maxDischargeDepth := 20) [State.markWaiters, h]

@[simp] theorem State.endWait_spares (w : WaitKind) {y : Sub} (h : s.Spares y t) : s.Spares y (t.endWait w x) := by
  simp (maxDischargeDepth := 20) [State.endWait, h]

@[simp] theorem State.clearDue_spares (w : WaitKind) {y : Sub} (h : s.Spares y t) : s.Spares y (t.clearDue w x) := by
  simp (maxDischargeDepth := 20) [State.clearDue, h]

@[simp] theorem State.beginWait_spares (w : WaitKind) {y : Sub} (h : s.Spares y t) : s.Spares y (t.beginWait w x) := by
  unfold State.beginWait
  split <;> simp (maxDischargeDepth := 20) [h]

@[simp] theorem State.forgetHead_spares {y : Sub} (h : s.Spares y t) : s.Spares y (t.forgetHead x) := by
  simp (maxDischargeDepth := 20) [State.forgetHead, h]

@[simp] theorem State.emptyUplink_spares (h : s.Spares x.other t) : s.Spares x.other (t.emptyUplink x) := by
  simp (maxDischargeDepth := 20) [State.emptyUplink, h]

@[simp] theorem State.enqueue_spares (m : Msg) (h : s.Spares x.other t) : s.Spares x.other (t.enqueue x m) := by
  unfold State.enqueue
  split <;> simp (maxDischargeDepth := 20) [h]

@[simp] theorem State.dropQueued_spares (pos : Nat) (h : s.Spares x.other t) : s.Spares x.other (t.dropQueued x pos) := by
  unfold State.dropQueued
  dsimp only
  (repeat' split) <;> simp (maxDischargeDepth := 20) [h]

@[simp] theorem State.removeMessage_spares (ident : Ident) (h : s.Spares x.other t) : s.Spares x.other (t.removeMessage x ident) := by
  unfold State.removeMessage
  dsimp only
  split <;> simp (maxDischargeDepth := 20) [h]

/-- An entry of the transaction table that is none of `y`'s is set to one that is none of `y`'s. -/
theorem State.setTxn_spares {y : Sub} {i : Nat} {q : Option Txn} {f : Sge → Sge} (h : s.Spares y t)
    (old : ∀ p, entryAt t.sge.txns i = some p → p.sub ≠ y) (new : ∀ p, q = some p → p.sub ≠ y) (txns : (f t.sge).txns = t.sge.txns.set i q)
    (queues : (f t.sge).queues = t.sge.queues) (holds : (f t.sge).holds = t.sge.holds)
    (next : (f t.sge).nextIdent.get y = t.sge.nextIdent.get y) (stray : (f t.sge).stray = t.sge.stray) : s.Spares y (t.onSge f) :=
  h.trans { State.Spares.refl t with
    txns := State.txnsOf_of_entries fun j p hp => by
      rw [State.onSge_sge, txns, entryAt_set]
      split
      next hj =>
        obtain ⟨rfl, -⟩ := hj
        exact iff_of_false (fun hq => new p hq hp) (fun he => old p he hp)
      next => rfl
    queue := congrArg (·.get y) queues
    hold := congrArg (·.get y) holds
    nextIdent := next
    stray := stray }

@[simp] theorem State.offer_spares (o : Offer) (h : s.Spares x.other t) : s.Spares x.other (t.offer x o).2 := by
  unfold State.offer
  (repeat' split)
  · exact h
  next k i _ hi =>
    refine State.enqueue_spares _ (State.setTxn_spares h (fun p hp => ?_) (fun p hp => ?_) rfl rfl rfl (PerSub.get_set_other ..) rfl)
    · rw [(lowestFree_some hi).2] at hp; cases hp
    · obtain rfl := Option.some.inj hp
      exact (other_ne x).symm
  · exact State.enqueue_spares _ h

@[simp] theorem State.offerPlain_spares (owner : Option Owner) (echo : Ident) (body : UpBody) (h : s.Spares x.other t) :
    s.Spares x.other (t.offerPlain x owner echo body) := by
  simp (maxDischargeDepth := 20) [State.offerPlain, h]

theorem State.freeTxn_spares {i : Nat} (h : s.Spares x.other t) (hi : ∀ p, entryAt t.sge.txns i = some p → p.sub = x) :
    s.Spares x.other (t.freeTxn i) := by
  unfold State.freeTxn
  split
  · exact h
  next p hp =>
    rw [hi p hp]
    refine State.markWaiters_spares _ (State.removeMessage_spares _ (State.setTxn_spares h (fun q hq => ?_) (fun q hq => by cases hq)
      rfl rfl rfl rfl rfl))
    rw [hi q hq]
    exact (other_ne x).symm

/-! ### Updates, texts and calls -/

@[simp] theorem State.writeActivity_spares (a : Activity) (h : s.Spares x.other t) : s.Spares x.other (t.writeActivity x a) := by
  unfold State.writeActivity
  dsimp only
  split <;> simp (maxDischargeDepth := 20) [h]

@[simp] theorem State.updateStanding_spares (h : s.Spares x.other t) : s.Spares x.other (t.updateStanding x) := by
  unfold State.updateStanding
  dsimp only
  split <;> simp (maxDischargeDepth := 20) [h]

@[simp] theorem State.dropUpdate_spares (h : s.Spares x.other t) : s.Spares x.other (t.dropUpdate x) := by
  simp (maxDischargeDepth := 20) [State.dropUpdate, h]

@[simp] theorem State.pendUpdate_spares (b : Bool) (h : s.Spares x.other t) : s.Spares x.other (t.pendUpdate x b) := by
  simp (maxDischargeDepth := 20) [State.pendUpdate, h]

@[simp] theorem State.openUpdate_spares (b : Bool) (h : s.Spares x.other t) : s.Spares x.other (t.openUpdate x b) := by
  unfold State.openUpdate
  split
  · exact h
  · split
    · simp (maxDischargeDepth := 20) [h]
    · split <;> (have e := congrArg Prod.snd ‹_ = (_, _)›; dsimp only at e; subst e) <;> simp (maxDischargeDepth := 20) [h]

@[simp] theorem State.retryUpdate_spares (h : s.Spares x.other t) : s.Spares x.other (t.retryUpdate x) := by
  unfold State.retryUpdate
  (repeat' split) <;> simp (maxDischargeDepth := 20) [h]

@[simp] theorem State.offerSegment_spares (h : s.Spares x.other t) : s.Spares x.other (t.offerSegment x).2 := by
  unfold State.offerSegment
  split
  · exact h
  · dsimp only
    split <;> (have e := congrArg Prod.snd ‹_ = (_, _)›; dsimp only at e; subst e) <;> simp (maxDischargeDepth := 20) [h]

@[simp] theorem State.sendSegment_spares (h : s.Spares x.other t) : s.Spares x.other (t.sendSegment x) := by
  unfold State.sendSegment
  split <;> (have e := congrArg Prod.snd ‹_ = (_, _)›; dsimp only at e; subst e)
  · simp (maxDischargeDepth := 20) [h]
  · split <;> simp (maxDischargeDepth := 20) [h]

@[simp] theorem State.failText_spares (cause : TextFailCause) (h : s.Spares x.other t) : s.Spares x.other (t.failText x cause) := by
  unfold State.failText State.dropOutgoing
  (repeat' split) <;> simp (maxDischargeDepth := 20) [h]

@[simp] theorem State.onCtx_spares (i : Nat) (f : CallContext → CallContext) {y : Sub} (h : s.Spares y t) : s.Spares y (t.onCtx i f) := h.keep
@[simp] theorem State.moveCtx_spares (i : Nat) (st : CallState) {y : Sub} (h : s.Spares y t) : s.Spares y (t.moveCtx i st) := h.keep
@[simp] theorem State.recordCause_spares (i : Nat) (c : Cause) {y : Sub} (h : s.Spares y t) : s.Spares y (t.recordCause i c) := h.keep
@[simp] theorem State.reportEnded_spares (i : Nat) (c : Option ErrorItem) {y : Sub} (h : s.Spares y t) : s.Spares y (t.reportEnded i c) := h.keep
@[simp] theorem State.failPending_spares {y : Sub} (h : s.Spares y t) : s.Spares y (t.failPending x) := h.keep

@[simp] theorem State.dropTraffic_spares (h : s.Spares x.other t) : s.Spares x.other (t.dropTraffic x) := by
  unfold State.dropTraffic
  dsimp only
  split <;> simp (maxDischargeDepth := 20) [h]

theorem State.endCtx_spares {i : Nat} (item : Option ErrorItem) (h : s.Spares x.other t) (hi : (t.ctx i).sub = x) :
    s.Spares x.other (t.endCtx i item) := by
  simp (maxDischargeDepth := 20) [State.endCtx, h, hi]

end Operations

end Sys2Proof.Machine
end

section
/-! Sitting 2: DETACH (O22). -/

namespace Sys2Proof.Machine

/-! ### The reassembly entries (R153, R156) -/

section Texts
variable {s t : State}

/-- What offering held texts may do to the entries: one not yet QUEUED may become so. -/
def State.Delivers (s t : State) : Prop :=
  ∀ i, (entryAt s.txt.entries i = none → entryAt t.txt.entries i = none) ∧
    ∀ e, entryAt s.txt.entries i = some e →
      ∃ d, entryAt t.txt.entries i = some d ∧ d.sub = e.sub ∧ (e.state = .queued → d = e)

theorem State.Delivers.refl (s : State) : s.Delivers s := fun _ => ⟨id, fun e he => ⟨e, he, rfl, fun _ => rfl⟩⟩

theorem State.Delivers.trans {u : State} (h : s.Delivers t) (k : t.Delivers u) : s.Delivers u := by
  refine fun i => ⟨(k i).1 ∘ (h i).1, fun e he => ?_⟩
  obtain ⟨d, hd, sub, same⟩ := (h i).2 e he
  obtain ⟨c, hc, sub', same'⟩ := (k i).2 d hd
  refine ⟨c, hc, sub'.trans sub, fun hq => ?_⟩
  obtain rfl := same hq
  exact same' hq

theorem State.offerText_delivers (i : Nat) (s : State) : s.Delivers (s.offerText i) := by
  cases he : entryAt s.txt.entries i with
  | none =>
    have e : s.offerText i = s := by simp only [State.offerText, he]
    rw [e]; exact .refl s
  | some e =>
    by_cases hm : s.mayDeliver e = true
    · have complete : e.state = .complete := by simp [State.mayDeliver] at hm; exact hm.1.1
      have entry (j : Nat) : entryAt (s.offerText i).txt.entries j =
          if i = j then (entryAt s.txt.entries j).map fun e => { e with state := .queued } else entryAt s.txt.entries j := by
        simp only [State.offerText, he, hm, if_true]
        exact entryAt_modify_map ..
      intro j
      rw [entry]
      by_cases hij : i = j
      · subst hij
        rw [if_pos rfl, he]
        refine ⟨fun h => (Option.some_ne_none _ h).elim, fun c hc => ⟨_, rfl, by rw [← Option.some.inj hc], fun hq => ?_⟩⟩
        rw [← Option.some.inj hc, complete] at hq
        cases hq
      · rw [if_neg hij]; exact State.Delivers.refl s j
    · have e : s.offerText i = s := by simp [State.offerText, he, hm]
      rw [e]; exact .refl s

theorem State.offerTexts_delivers (s : State) : s.Delivers s.offerTexts := by
  have key (l : List Nat) : ∀ t : State, s.Delivers t → s.Delivers (l.foldl (fun s i => s.offerText i) t) := by
    induction l with
    | nil => exact fun _ h => h
    | cons i l ih => exact fun t h => ih _ (h.trans (State.offerText_delivers i t))
  exact key _ s (.refl s)

theorem State.freeText_entry (i j : Nat) (s : State) :
    entryAt (s.freeText i).txt.entries j = if i = j then none else entryAt s.txt.entries j := by
  unfold State.freeText
  split
  next h =>
    split
    next hij => rw [← hij, h]
    next => rfl
  next e he =>
    simp only [State.onTxt]
    rw [entryAt_set]
    exact if_congr ⟨And.left, fun h => ⟨h, lt_of_entryAt he⟩⟩ rfl rfl

theorem State.freeTexts_entry (l : List Nat) (j : Nat) (s : State) :
    entryAt (l.foldl (fun s i => s.freeText i) s).txt.entries j = if j ∈ l then none else entryAt s.txt.entries j := by
  induction l generalizing s with
  | nil => simp
  | cons i l ih =>
    rw [List.foldl_cons, ih, State.freeText_entry]
    by_cases hl : j ∈ l
    · simp [hl]
    · simp only [hl, if_false, List.mem_cons, or_false]
      exact if_congr ⟨Eq.symm, Eq.symm⟩ rfl rfl

/-- DETACH frees the entries of `x`, but for one whose frame has begun (R156). -/
theorem State.detachTexts_entry {x : Sub} {i : Nat} {e : TextEntry} (he : entryAt s.txt.entries i = some e) (hx : e.sub = x) :
    (s.textBegun i = false → entryAt (s.detachTexts x).txt.entries i = none) ∧
    (s.textBegun i = true → e.state = .queued → entryAt (s.detachTexts x).txt.entries i = some e) := by
  let gone := ((taken s.txt.entries).filter fun e => e.2.sub == x && !s.textBegun e.1).map (·.1)
  have mem : i ∈ gone ↔ s.textBegun i = false := by
    simp only [gone, List.mem_map, List.mem_filter, Prod.exists, mem_taken, Bool.and_eq_true, beq_iff_eq, Bool.not_eq_true']
    constructor
    · rintro ⟨j, d, ⟨-, -, hb⟩, rfl⟩; exact hb
    · exact fun hb => ⟨i, e, ⟨he, hx, hb⟩, rfl⟩
  have freed := s.freeTexts_entry gone i
  constructor
  · intro hb
    rw [if_pos (mem.2 hb)] at freed
    exact (State.offerTexts_delivers _ i).1 freed
  · intro hb hq
    rw [if_neg (by rw [mem, hb]; decide), he] at freed
    obtain ⟨d, hd, -, same⟩ : ∃ d, entryAt (s.detachTexts x).txt.entries i = some d ∧ d.sub = e.sub ∧ (e.state = .queued → d = e) :=
      (State.offerTexts_delivers _ i).2 e freed
    obtain rfl := same hq
    exact hd

end Texts

/-! ### What each part of DETACH leaves alone (R25) -/

/-- What the parts of DETACH leave alone but for its texts: the other subscription, the reassembly entries and the frame begun, and the
owners' absence from the list of those that wait. -/
structure State.Tears (x : Sub) (s t : State) : Prop where
  spares : s.Spares x.other t
  evolves : s.Evolves t
  entries : t.txt.entries = s.txt.entries
  sending : t.hlc.sending = s.hlc.sending
  nextIdent : t.sge.nextIdent = s.sge.nextIdent
  waiters : s.sge.waiters = [] → t.sge.waiters = []

section Tears
variable {s t : State} {x : Sub}

theorem State.Tears.refl (s : State) : s.Tears x s := ⟨.refl s, .refl s, rfl, rfl, rfl, id⟩

theorem State.Tears.trans {u : State} (h : s.Tears x t) (k : t.Tears x u) : s.Tears x u where
  spares := h.spares.trans k.spares
  evolves := h.evolves.trans k.evolves
  entries := k.entries.trans h.entries
  sending := k.sending.trans h.sending
  nextIdent := k.nextIdent.trans h.nextIdent
  waiters := k.waiters ∘ h.waiters

theorem State.report_sending (r : Report) (s : State) : (s.report r).hlc.sending = s.hlc.sending := by
  simp only [State.report, State.offerEntry, State.onHlc]
  split <;> rfl

theorem State.report_tears (r : Report) (s : State) : s.Tears x (s.report r) where
  spares := by simp
  evolves := by simp
  entries := by simp
  sending := State.report_sending ..
  nextIdent := by simp
  waiters := by simp

theorem State.failText_tears (x : Sub) (cause : TextFailCause) (s : State) : s.Tears x (s.failText x cause) where
  spares := by simp
  evolves := by simp
  entries := by unfold State.failText State.dropOutgoing; split <;> simp [State.setOutgoing]
  sending := by unfold State.failText State.dropOutgoing; split <;> simp [State.setOutgoing, State.report_sending]
  nextIdent := by unfold State.failText State.dropOutgoing; split <;> simp [State.setOutgoing, State.endWait]
  waiters := fun h => by unfold State.failText State.dropOutgoing; split <;> simp [State.setOutgoing, State.endWait, h]

/-- A failed text is gone, and the transactions stay. -/
theorem State.failText_gone (x : Sub) (cause : TextFailCause) (s : State) :
    (s.failText x cause).outgoingOf x = none ∧ (s.failText x cause).sge.txns = s.sge.txns ∧
      (s.failText x cause).sge.queues = s.sge.queues ∧ (s.failText x cause).sge.holds = s.sge.holds := by
  unfold State.failText State.dropOutgoing
  split
  next h => exact ⟨h, rfl, rfl, rfl⟩
  next => simp [State.outgoingOf, State.setOutgoing, State.endWait]

/-! The calls (R134). -/

/-- A context that ends is as after a reset, and the others stay. -/
theorem State.endCtx_ctx (s : State) (i : Nat) (item : Option ErrorItem) (j : Nat) :
    (s.endCtx i item).ctx j = if i = j then Reset.context else s.ctx j := by
  have reported : (s.reportEnded i item).cal = s.cal := by simp
  have same (k : Nat) : (s.reportEnded i item).ctx k = s.ctx k := State.ctx_congr (by rw [reported]) k
  let u := (s.reportEnded i item).moveCtx i .idle
  have len : u.cal.contexts.length = s.cal.contexts.length := by rw [(State.moveCtx_calls ..).2.2, reported]
  show ((u.onCtx i fun _ => Reset.context).dropTraffic (s.ctx i).sub).ctx j = _
  rw [State.ctx_congr (State.dropTraffic_contexts ..)]
  by_cases hi : i < s.cal.contexts.length
  · rw [State.onCtx_ctx (by rw [len]; exact hi), State.moveCtx_ctx (by rw [reported]; exact hi), same]
    split <;> rfl
  · have still : (u.onCtx i fun _ => Reset.context).cal.contexts = s.cal.contexts := by
      rw [show (u.onCtx i fun _ => Reset.context).cal.contexts = u.cal.contexts from List.modify_eq_self (by omega),
        (State.moveCtx_calls ..).1, reported.symm]
      exact List.modify_eq_self (by rw [reported]; omega)
    rw [State.ctx_congr still]
    split
    next hij =>
      subst hij
      unfold State.ctx
      rw [List.getElem?_eq_none (by omega)]
      rfl
    next => rfl

theorem State.recordCause_ctx (s : State) (i : Nat) (cause : Cause) (j : Nat) :
    ((s.recordCause i cause).ctx j).sub = (s.ctx j).sub ∧ (i ≠ j → (s.recordCause i cause).ctx j = s.ctx j) := by
  unfold State.recordCause
  by_cases hi : i < s.cal.contexts.length
  · rw [State.onCtx_ctx hi]
    split
    next hij => exact ⟨rfl, fun h => absurd hij h⟩
    next => exact ⟨rfl, fun _ => rfl⟩
  · have still : (s.onCtx i fun c => { c with endCause := some (c.causeAfter cause) }).cal.contexts = s.cal.contexts :=
      List.modify_eq_self (by omega)
    rw [State.ctx_congr still]
    exact ⟨rfl, fun _ => rfl⟩

theorem State.endCtx_tears {i : Nat} (item : Option ErrorItem) (hx : (s.ctx i).sub = x) : s.Tears x (s.endCtx i item) where
  spares := State.endCtx_spares item (.refl s) hx
  evolves := by simp
  entries := by simp
  sending := by
    have moved (t : State) : (t.moveCtx i .idle).hlc.sending = t.hlc.sending := by
      unfold State.moveCtx; dsimp only; (repeat' split) <;> rfl
    have dropped (t : State) : (t.dropTraffic x).hlc = t.hlc := by simp
    simp only [State.endCtx, hx, dropped]
    show ((s.reportEnded i item).moveCtx i .idle).hlc.sending = _
    rw [moved]
    unfold State.reportEnded
    dsimp only
    split
    · rfl
    · exact State.report_sending ..
  nextIdent := by simp
  waiters := by simp

/-- The contexts of a list, all of `x`, ended one after the other. -/
theorem State.endCtxs_tears (cause : Cause) {l : List Nat} (nodup : l.Nodup) (s : State) (hx : ∀ i ∈ l, (s.ctx i).sub = x) :
    s.Tears x (l.foldl (fun s i => (s.recordCause i cause).endCtx i none) s) ∧
    ∀ j, (l.foldl (fun s i => (s.recordCause i cause).endCtx i none) s).ctx j = if j ∈ l then Reset.context else s.ctx j := by
  induction l generalizing s with
  | nil => exact ⟨.refl s, fun j => by simp⟩
  | cons i l ih =>
    obtain ⟨fresh, nodup⟩ := List.nodup_cons.1 nodup
    let t := (s.recordCause i cause).endCtx i none
    have others (j : Nat) (hj : i ≠ j) : t.ctx j = s.ctx j := by
      rw [State.endCtx_ctx, if_neg hj, (s.recordCause_ctx i cause j).2 hj]
    have recorded : s.Tears x (s.recordCause i cause) := ⟨by simp, by simp, by simp, rfl, by simp, by simp⟩
    have one : s.Tears x t := recorded.trans
      (State.endCtx_tears none ((s.recordCause_ctx i cause i).1.trans (hx i List.mem_cons_self)))
    obtain ⟨tears, ctx⟩ := ih nodup t fun j hj => by
      rw [others j fun e => fresh (e ▸ hj)]; exact hx j (List.mem_cons_of_mem _ hj)
    refine ⟨one.trans tears, fun j => ?_⟩
    rw [List.foldl_cons]
    refine (ctx j).trans ?_
    by_cases hj : i = j
    · subst hj
      simp only [List.mem_cons, true_or, if_true, t, State.endCtx_ctx, ite_self]
    · rw [others j hj]
      simp [List.mem_cons, Ne.symm hj]

/-- The teardown of the calls of `x` (R134). -/
theorem State.endAllCtxs_tears (x : Sub) (cause : Cause) (s : State) :
    s.Tears x (s.endAllCtxs x cause) ∧ (s.endAllCtxs x cause).hasCtx x = false := by
  let u := if s.hasCtx x then s.failPending x else s
  have failed : s.Tears x u := by
    simp only [u]
    split
    · refine ⟨by simp, by simp, by simp, ?_, by simp, by simp⟩
      unfold State.failPending State.answerPending
      (repeat' split) <;> rfl
    · exact .refl s
  have mine (i : Nat) (hi : i ∈ u.ctxsOf x) : (u.ctx i).sub = x := by
    simp only [State.ctxsOf, List.mem_filter, State.ctxOf, Bool.and_eq_true, beq_iff_eq] at hi
    exact hi.2.2
  obtain ⟨tears, ctx⟩ := State.endCtxs_tears cause ((show ctxIndexes.Nodup by decide).filter _) u mine
  have e : s.endAllCtxs x cause = (ctxIndexes.filter (u.ctxOf x)).foldl (fun s i => (s.recordCause i cause).endCtx i none) u := rfl
  rw [e]
  refine ⟨failed.trans tears, ?_⟩
  rw [State.hasCtx, List.any_eq_false]
  intro j hj hc
  rw [State.ctxOf, ctx] at hc
  split at hc
  · simp [Reset.context] at hc
  next hn => exact hn (List.mem_filter.2 ⟨hj, hc⟩)

/-! The transactions (R17). -/

/-- Within DETACH a transaction's owner does no more than fail a text or report. -/
theorem State.teardownOutcome_tears {p : Txn} (hp : p.sub = x) (s : State) :
    s.Tears x (s.teardownOutcome p .detached) ∧ (s.teardownOutcome p .detached).sge.txns = s.sge.txns ∧
      (s.teardownOutcome p .detached).sbs = s.sbs := by
  unfold State.teardownOutcome
  rw [hp]
  split
  · exact ⟨State.failText_tears .., (State.failText_gone ..).2.1, by simp [State.textOutEnded]⟩
  · exact ⟨.refl s, rfl, rfl⟩
  · exact ⟨State.report_tears .., by simp [State.passOutcome, TxnOutcome.ok], by simp⟩
  all_goals exact ⟨.refl s, rfl, rfl⟩

theorem State.freeTxn_tears {i : Nat} {p : Txn} (hp : entryAt s.sge.txns i = some p) (hx : p.sub = x) : s.Tears x (s.freeTxn i) := by
  obtain ⟨-, next, -, waiters⟩ := State.freeTxn_table hp
  exact {
    spares := State.freeTxn_spares (.refl s) fun q hq => by rw [hp] at hq; rw [← Option.some.inj hq]; exact hx
    evolves := by simp
    entries := by simp
    sending := by simp
    nextIdent := next
    waiters := waiters }

/-- Transactions of `x` ended one after the other. -/
theorem State.endTxns_tears {l : List (Nat × Txn)} (nodup : (l.map Prod.fst).Nodup) (s : State)
    (hl : ∀ e ∈ l, entryAt s.sge.txns e.1 = some e.2 ∧ e.2.sub = x) :
    s.Tears x (l.foldl (fun s e => (s.freeTxn e.1).teardownOutcome e.2 .detached) s) ∧
    (∀ j, entryAt (l.foldl (fun s e => (s.freeTxn e.1).teardownOutcome e.2 .detached) s).sge.txns j =
      if j ∈ l.map Prod.fst then none else entryAt s.sge.txns j) ∧
    (l.foldl (fun s e => (s.freeTxn e.1).teardownOutcome e.2 .detached) s).sbs = s.sbs := by
  induction l generalizing s with
  | nil => exact ⟨.refl s, fun j => by simp, rfl⟩
  | cons e l ih =>
    rw [List.map_cons, List.nodup_cons] at nodup
    obtain ⟨fresh, nodup⟩ := nodup
    obtain ⟨he, hx⟩ := hl e List.mem_cons_self
    obtain ⟨told, txns, sbs⟩ := State.teardownOutcome_tears hx (s.freeTxn e.1)
    let t := (s.freeTxn e.1).teardownOutcome e.2 .detached
    have table (j : Nat) : entryAt t.sge.txns j = if e.1 = j then none else entryAt s.sge.txns j := by
      rw [txns, (State.freeTxn_table he).1, entryAt_set]
      exact if_congr ⟨And.left, fun h => ⟨h, lt_of_entryAt he⟩⟩ rfl rfl
    obtain ⟨tears, rest, same⟩ := ih nodup t fun f hf => by
      have apart : e.1 ≠ f.1 := fun h => fresh (List.mem_map.2 ⟨f, hf, h.symm⟩)
      rw [table, if_neg apart]; exact hl f (List.mem_cons_of_mem _ hf)
    rw [List.foldl_cons]
    refine ⟨((State.freeTxn_tears he hx).trans told).trans tears, fun j => ?_, same.trans (sbs.trans (by simp))⟩
    rw [rest, table]
    by_cases hj : j = e.1
    · simp [hj]
    · rw [if_neg (Ne.symm hj), List.map_cons]
      exact if_congr (by simp [List.mem_cons, hj]) rfl rfl

theorem State.txnsOf_nil_iff (s : State) (x : Sub) : s.txnsOf x = [] ↔ ∀ i p, entryAt s.sge.txns i = some p → p.sub ≠ x := by
  unfold State.txnsOf State.openTxns
  rw [List.filter_eq_nil_iff]
  constructor
  · intro h i p hp he
    exact h (i, p) ((mem_taken _ _ _).2 hp) (by simp [he])
  · rintro h ⟨i, p⟩ hp
    simpa using h i p ((mem_taken _ _ _).1 hp)

/-- The teardown of SGE for `x` (R17). -/
theorem State.teardownSge_tears (x : Sub) (s : State) :
    s.Tears x (s.teardownSge x .detached) ∧ (s.teardownSge x .detached).txnsOf x = [] ∧
      (s.teardownSge x .detached).sge.queues.get x = [] ∧ (s.teardownSge x .detached).sge.holds.get x = [] ∧
      (s.teardownSge x .detached).sbs = s.sbs := by
  have nodup : ((s.txnsOf x).map Prod.fst).Nodup := by
    rw [List.Nodup, List.pairwise_map]
    exact ((taken_sorted s.sge.txns).filter _).imp Nat.ne_of_lt
  have mine (e : Nat × Txn) (he : e ∈ s.txnsOf x) : entryAt s.sge.txns e.1 = some e.2 ∧ e.2.sub = x := by
    obtain ⟨i, p⟩ := e
    simpa [State.txnsOf, State.openTxns, mem_taken] using he
  obtain ⟨tears, table, sbs⟩ := State.endTxns_tears nodup s mine
  have emptied (u : State) : u.Tears x (u.emptyUplink x) := ⟨by simp, by simp, by simp, by simp, by simp [State.emptyUplink],
    by simp [State.emptyUplink]⟩
  refine ⟨tears.trans (emptied _), (State.txnsOf_nil_iff ..).2 fun i p hp hx => ?_, by simp [State.teardownSge, State.emptyUplink],
    by simp [State.teardownSge, State.emptyUplink], by simpa [State.teardownSge] using sbs⟩
  have entry := (table i).symm.trans hp
  split at entry
  · cases entry
  next free => exact free (List.mem_map.2 ⟨(i, p), by simp [State.txnsOf, State.openTxns, mem_taken, entry, hx], rfl⟩)

end Tears

end Sys2Proof.Machine
end

section
/-! Sitting 2: the owners that wait, seen from a DETACHED subscription, and DETACH as a whole (O22). -/

namespace Sys2Proof.Machine

/-! ### Owners that try again leave a DETACHED subscription alone (R5, R25) -/

section Waiters
variable {s t : State} {x : Sub}

@[simp] theorem State.cellGone_spares (h : s.Spares x.other t) : s.Spares x.other (t.cellGone x) := by
  simp (maxDischargeDepth := 20) [State.cellGone, h]

@[simp] theorem State.claimsGone_spares (h : s.Spares x.other t) : s.Spares x.other (t.claimsGone x) := by
  simp (maxDischargeDepth := 20) [State.claimsGone, h]

theorem State.enterCamped_spares (hi : t.idle x) (h : s.Spares x.other t) : s.Spares x.other (t.enterCamped x) := by
  have idle : (t.setFilter x false).idle x := (State.setFilter_rests x false t).idle hi
  unfold State.enterCamped
  dsimp only
  split
  · by_cases hc : ((t.setFilter x false).activity x).isCampedState = true
    · rw [State.loseService_idle idle hc]
      simp (maxDischargeDepth := 20) [h]
    · rw [show (t.setFilter x false).loseService x = t.setFilter x false by simp [State.loseService, hc]]
      simp [h]
  · simp (maxDischargeDepth := 20) [h]

@[simp] theorem State.enterBusy_spares (h : s.Spares x.other t) : s.Spares x.other (t.enterBusy x) := by
  simp (maxDischargeDepth := 20) [State.enterBusy, State.clearRelax, h]

/-- Deriving the activity state of a subscription spares the other. -/
@[simp] theorem State.derive_spares (h : s.Spares x.other t) : s.Spares x.other (t.derive x) := by
  have wrote := State.writeActivity_spares (t.derivedActivity x) h
  unfold State.derive
  dsimp only
  refine State.updateStanding_spares ?_
  by_cases he : t.activity x = t.derivedActivity x
  · simp only [he, if_true]; exact h
  · simp only [he, if_false]
    split
    next hd => exact State.enterCamped_spares ((State.writeActivity_rests ..).idle (State.idle_of_derived hd)) wrote
    · split
      · exact wrote
      · exact State.enterBusy_spares wrote
    · split
      · exact wrote
      · exact State.enterBusy_spares wrote
    · exact wrote
    · exact wrote

@[simp] theorem State.settleAlone_spares (h : s.Spares x.other t) : s.Spares x.other (t.settleAlone x) := by
  simp [State.settleAlone, h]

@[simp] theorem State.tryOnce_spares (w : WaitKind) (h : s.Spares x.other t) : s.Spares x.other (t.tryOnce w x) := by
  unfold State.tryOnce
  (repeat' split) <;> simp [h]

/-- `x` is DETACHED and at rest: it has no standing, and neither a pending update nor an outgoing text. -/
structure State.Apart (s : State) (x : Sub) : Prop where
  detached : (s.record x).activity = .detached
  standing : (s.record x).standing = .none
  update : (s.record x).updatePending = false
  text : s.outgoingOf x = none

theorem State.Spares.apart (h : s.Spares x t) (a : s.Apart x) : t.Apart x :=
  ⟨by rw [h.record]; exact a.detached, by rw [h.record]; exact a.standing, by rw [h.record]; exact a.update,
    by rw [h.outgoing]; exact a.text⟩

/-- Such a subscription has nothing to try, and settles as it is. -/
theorem State.Apart.tryOnce (a : s.Apart x) (w : WaitKind) : s.tryOnce w x = s := by
  unfold State.tryOnce
  cases w with
  | update => simp [a.update]
  | segment => simp [a.text]

theorem State.Apart.settleAlone_spares (a : s.Apart x) : s.Spares x (s.settleAlone x) := by
  have act : s.activity x = .detached := a.detached
  have derived : s.derivedActivity x = .detached := by simp [State.derivedActivity, act]
  have standing : (s.record x).standingNow = .none := by rw [SubRecord.standingNow, a.detached]
  have same : s.derive x = s := by
    unfold State.derive
    simp only [act, derived, if_true]
    simp [State.updateStanding, standing, a.standing]
  rw [State.settleAlone, same]
  exact State.reexamine_spares (.refl s)

theorem State.Apart.tryWaiter_spares (a : s.Apart x) (e : Waiter) : s.Spares x (State.tryWaiter none s e) := by
  unfold State.tryWaiter
  dsimp only
  rw [if_neg (by simp)]
  have cleared : s.Spares x (s.clearDue e.what e.sub) := State.clearDue_spares e.what (.refl s)
  by_cases hx : e.sub = x
  · subst hx
    have apart := cleared.apart a
    rw [apart.tryOnce]
    exact cleared.trans apart.settleAlone_spares
  · obtain rfl : x = e.sub.other := State.eq_other_of_ne (Ne.symm hx)
    exact State.settleAlone_spares (State.tryOnce_spares _ cleared)

/-- The owners that try again spare a DETACHED subscription. -/
theorem State.Apart.tryWaiters_spares (a : s.Apart x) : s.Spares x (s.tryWaiters none) := by
  have key (l : List Waiter) : ∀ t : State, s.Spares x t → s.Spares x (l.foldl (State.tryWaiter none) t) := by
    induction l with
    | nil => exact fun _ h => h
    | cons e l ih => exact fun t h => ih _ (h.trans ((h.apart a).tryWaiter_spares e))
  exact key _ s (.refl s)

theorem State.offerSegment_entries (x : Sub) (s : State) : (s.offerSegment x).2.txt.entries = s.txt.entries := by
  unfold State.offerSegment
  split
  · rfl
  · dsimp only
    split <;> (have e := congrArg Prod.snd ‹_ = (_, _)›; dsimp only at e; subst e) <;> simp [State.setOutgoing]

theorem State.sendSegment_entries (x : Sub) (s : State) : (s.sendSegment x).txt.entries = s.txt.entries := by
  unfold State.sendSegment
  split <;> (have e := congrArg Prod.snd ‹_ = (_, _)›; dsimp only at e; subst e)
  · exact State.offerSegment_entries ..
  · split <;> simp [State.setOutgoing, State.offerSegment_entries]

/-- The owners that try again leave the reassembly entries. -/
theorem State.tryWaiters_entries (hold : Option Sub) (s : State) : (s.tryWaiters hold).txt.entries = s.txt.entries := by
  have once (w : WaitKind) (y : Sub) (t : State) : (t.tryOnce w y).txt.entries = t.txt.entries := by
    unfold State.tryOnce
    (repeat' split) <;> simp [State.sendSegment_entries]
  have one (t : State) (e : Waiter) : (State.tryWaiter hold t e).txt.entries = t.txt.entries := by
    unfold State.tryWaiter
    dsimp only
    split
    · exact (once ..).trans (by simp)
    · rw [(State.settleAlone_rests ..).txt]
      exact (once ..).trans (by simp)
  have key (l : List Waiter) : ∀ t : State, (l.foldl (State.tryWaiter hold) t).txt.entries = t.txt.entries := by
    induction l with
    | nil => exact fun _ => rfl
    | cons e l ih => exact fun t => (ih _).trans (one t e)
  exact key _ s

end Waiters

/-! ### DETACH (R25) -/

section Detach
variable {s : State} {x : Sub}

theorem State.withdraw_gone (h : s.claimsOk) (k l : ClaimKind) (hl : s.claimInPlace x l = false ∨ l = k) :
    (s.withdraw x k).claimInPlace x l = false := by
  by_cases hk : l = k
  · rw [hk]; exact State.claimInPlace_withdraw h
  · unfold State.claimInPlace at hl ⊢
    rw [State.claimOf_withdraw_other h (.inr hk)]
    exact hl.resolve_right hk

/-- No claim of `x` is in place after all have been withdrawn (R37). -/
theorem State.withdrawAll_gone (h : s.claimsOk) (k : ClaimKind) : (s.withdrawAll x).claimInPlace x k = false := by
  have key (l : List ClaimKind) : ∀ t : State, t.claimsOk → (t.claimInPlace x k = false ∨ k ∈ l) →
      (l.foldl (fun s k => s.withdraw x k) t).claimInPlace x k = false := by
    induction l with
    | nil => exact fun t _ hk => hk.resolve_right List.not_mem_nil
    | cons m l ih =>
      intro t ht hk
      refine ih _ (State.withdraw_claimsOk ht) ?_
      rcases hk with hk | hk
      · exact .inl (State.withdraw_gone ht m k (.inl hk))
      · rcases List.mem_cons.1 hk with rfl | hk
        · exact .inl (State.withdraw_gone ht k k (.inr rfl))
        · exact .inr hk
  exact key _ s h (.inr (by cases k <;> decide))

/-- The state of a DETACH once the calls, the transactions and the record of `x` are gone. -/
def State.unlinked (s : State) (x : Sub) : State := ((s.detachRecord x).endAllCtxs x .detached).teardownSge x .detached

/-- The state of a DETACH once the texts are gone too, and then the claims. -/
def State.unclaimed (s : State) (x : Sub) : State := (((s.unlinked x).detachTexts x).failText x .detached).withdrawAll x

/-- The state of a DETACH before its notice. -/
def State.cleared (s : State) (x : Sub) : State :=
  ((((s.unclaimed x).onMobOf x MobSub.afterDetach).onPscOf x PscSub.tornDown).onVcp fun v =>
    { v with handover := v.handover && !((s.mobOf x).hoState == .access) }).setFilter x false

/-- The state of a DETACH before the owners that wait try again. -/
def State.parted (s : State) (x : Sub) : State := if (s.activity x).isCampedState then (s.cleared x).sendNotice x else s.cleared x

theorem doDetach_refused (h : s.activity x = .detached) : s.doDetach x = refuse .state s := by
  simp [State.doDetach, h]

theorem doDetach_accepted (h : s.activity x ≠ .detached) : s.doDetach x = (.ok, [], (s.parted x).tryWaiters none) := by
  unfold State.doDetach
  rw [if_neg (by simpa using h)]
  rfl

/-- The record a DETACH leaves (R25, R29). -/
def SubRecord.parted (r : SubRecord) : SubRecord :=
  { r with registration := .unregistered, lastArea := none, rejectedArea := none, updatePending := false,
           updateByPage := false, standing := .none, rejectItem := none, activity := .detached }

theorem State.detachRecord_record (s : State) (x : Sub) : (s.detachRecord x).record x = (s.record x).parted := by
  unfold State.detachRecord
  rw [State.onRecord_record_same]
  have dropped (t : State) : (t.dropUpdate x).record x = { t.record x with updatePending := false, updateByPage := false } := by
    show (State.endWait _ _ _).record x = _
    have sbs (u : State) : (u.endWait .update x).sbs = u.sbs := by simp
    rw [State.record, sbs]
    exact State.onRecord_record_same ..
  rw [dropped, State.writeActivity_record, if_pos rfl]
  rfl

theorem State.detachRecord_tears (s : State) (x : Sub) : s.Tears x (s.detachRecord x) where
  spares := by simp (maxDischargeDepth := 20) [State.detachRecord]
  evolves := by simp (maxDischargeDepth := 20) [State.detachRecord]
  entries := by simp
  sending := by simp
  nextIdent := by
    simp only [State.detachRecord, State.dropUpdate, State.writeActivity, State.endWait]
    split <;> simp [State.markWaiters]
  waiters := fun h => by
    simp only [State.detachRecord, State.dropUpdate, State.writeActivity, State.endWait]
    split <;> simp [State.markWaiters, h]

theorem State.unlinked_facts (s : State) (x : Sub) : s.Tears x (s.unlinked x) ∧ (s.unlinked x).record x = (s.record x).parted ∧
    (s.unlinked x).txnsOf x = [] ∧ (s.unlinked x).sge.queues.get x = [] ∧ (s.unlinked x).sge.holds.get x = [] ∧
    (s.unlinked x).hasCtx x = false := by
  obtain ⟨calls, ctx⟩ := (s.detachRecord x).endAllCtxs_tears x .detached
  obtain ⟨sge, txns, queue, hold, sbs⟩ := ((s.detachRecord x).endAllCtxs x .detached).teardownSge_tears x
  refine ⟨((s.detachRecord_tears x).trans calls).trans sge, ?_, txns, queue, hold, ?_⟩
  · rw [← State.detachRecord_record, State.unlinked, State.record, sbs]
    simp [State.record]
  · rw [(State.calls_congr (s := (s.detachRecord x).endAllCtxs x .detached) (by simp [State.unlinked]) x).1, ctx]

theorem State.detachTexts_outgoing (x : Sub) (s : State) : (s.detachTexts x).txt.outgoing = s.txt.outgoing := by
  have one (i : Nat) (t : State) : (t.freeText i).txt.outgoing = t.txt.outgoing := by
    unfold State.freeText; split <;> rfl
  have key (l : List Nat) : ∀ t : State, (l.foldl (fun s i => s.freeText i) t).txt.outgoing = t.txt.outgoing := by
    induction l with
    | nil => exact fun _ => rfl
    | cons i l ih => exact fun t => (ih _).trans (one i t)
  exact (State.offerTexts_outgoing _).trans (key _ s)

theorem State.detachTexts_spares {y : Sub} (x : Sub) (s : State) : s.Spares y (s.detachTexts x) :=
  (State.Spares.refl s).keep (outgoing := State.detachTexts_outgoing ..)

/-- What DETACH leaves of `x` (R25). -/
structure State.Parted (s t : State) (x : Sub) : Prop where
  record : t.record x = (s.record x).parted
  txns : t.txnsOf x = []
  outgoing : t.outgoingOf x = none
  ctx : t.hasCtx x = false
  mob : t.mobOf x = { Reset.mobSub with params := (s.mobOf x).params }
  psc : (t.pscOf x).schedule = none ∧ (t.pscOf x).retry = .none ∧ (t.pscOf x).missed = 0 ∧ (t.pscOf x).denied = 0 ∧ (t.pscOf x).relaxCount = 0
  listens : t.dlc.filters.get x = false
  hold : t.sge.holds.get x = []
  claims : s.claimsOk → ∀ k, k ≠ .signalling → t.claimInPlace x k = false

theorem State.Parted.apart {t : State} (h : s.Parted t x) : t.Apart x :=
  ⟨by rw [h.record]; rfl, by rw [h.record]; rfl, by rw [h.record]; rfl, h.outgoing⟩

theorem State.Spares.claimInPlace {t : State} (h : s.Spares x t) {k : ClaimKind} (hk : k ≠ .signalling) :
    t.claimInPlace x k = s.claimInPlace x k := by
  unfold State.claimInPlace
  rw [(h.claims k hk).claimOf]

theorem State.Parted.spares {t u : State} (h : s.Parted t x) (k : t.Spares x u) (cal : u.cal = t.cal) : s.Parted u x where
  record := k.record.trans h.record
  txns := k.txns.trans h.txns
  outgoing := k.outgoing.trans h.outgoing
  ctx := (State.calls_congr cal x).1.trans h.ctx
  mob := k.mob.trans h.mob
  psc := by rw [k.psc]; exact h.psc
  listens := k.listens.trans h.listens
  hold := k.hold.trans h.hold
  claims := fun hc l hl => (k.claimInPlace hl).trans (h.claims hc l hl)

/-- What the clearing of texts and claims leaves alone. -/
theorem State.unclaimed_keeps (s : State) (x : Sub) : (s.unclaimed x).sbs = (s.unlinked x).sbs ∧
    (s.unclaimed x).cal = (s.unlinked x).cal ∧ (s.unclaimed x).sge.txns = (s.unlinked x).sge.txns ∧
    (s.unclaimed x).sge.queues = (s.unlinked x).sge.queues ∧ (s.unclaimed x).sge.holds = (s.unlinked x).sge.holds := by
  obtain ⟨-, txns, queues, holds⟩ := ((s.unlinked x).detachTexts x).failText_gone x .detached
  exact ⟨by simp [State.unclaimed], by simp [State.unclaimed], by simp [State.unclaimed, txns], by simp [State.unclaimed, queues],
    by simp [State.unclaimed, holds]⟩

theorem State.unclaimed_params (s : State) (x : Sub) : ((s.unclaimed x).mobOf x).params = (s.mobOf x).params := by
  have later := (State.withdrawAll_evolves x (State.failText_evolves x .detached (.refl ((s.unlinked x).detachTexts x)))).mob x
  have between : ((s.unlinked x).detachTexts x).mobOf x = (s.unlinked x).mobOf x := by simp [State.mobOf]
  rw [State.unclaimed, later.1, between, ((s.unlinked_facts x).1.evolves.mob x).1]

theorem State.unclaimed_claims (h : s.claimsOk) (k : ClaimKind) : (s.unclaimed x).claimInPlace x k = false := by
  refine State.withdrawAll_gone ?_ k
  obtain ⟨-, -, -, -, -, apart, -⟩ := (s.unlinked_facts x).1.evolves.rta
  rw [State.claimsOk_iff] at h ⊢
  simpa using apart h

/-- The clearing of MOB, PSC and the filter (R98, R118, R66). -/
theorem State.clearing_of (u : State) (x : Sub) (f : Vcp → Vcp) :
    let t := (((u.onMobOf x MobSub.afterDetach).onPscOf x PscSub.tornDown).onVcp f).setFilter x false
    t.pscOf x = (u.pscOf x).tornDown ∧ t.mobOf x = (u.mobOf x).afterDetach ∧ t.dlc.filters.get x = false :=
  ⟨PerSub.get_upd_same .., PerSub.get_upd_same .., PerSub.get_set_same ..⟩

theorem State.cleared_clearing (s : State) (x : Sub) : (s.cleared x).pscOf x = ((s.unclaimed x).pscOf x).tornDown ∧
    (s.cleared x).mobOf x = ((s.unclaimed x).mobOf x).afterDetach ∧ (s.cleared x).dlc.filters.get x = false := by
  unfold State.cleared
  exact State.clearing_of ..

theorem State.cleared_parted (s : State) (x : Sub) : s.Parted (s.cleared x) x := by
  obtain ⟨-, record, txns, -, hold, ctx⟩ := s.unlinked_facts x
  obtain ⟨sbs, cal, ktxns, -, kholds⟩ := s.unclaimed_keeps x
  obtain ⟨psc, mob, listens⟩ := s.cleared_clearing x
  exact {
    record := by rw [← record, State.record, State.record, ← sbs]; simp [State.cleared]
    txns := by
      rw [← txns]
      unfold State.txnsOf State.openTxns
      rw [← ktxns]; simp [State.cleared]
    outgoing := by
      have gone := (((s.unlinked x).detachTexts x).failText_gone x .detached).1
      rw [← gone, State.outgoingOf, State.outgoingOf]; simp [State.cleared, State.unclaimed]
    ctx := by rw [← ctx]; exact (State.calls_congr (by rw [← cal]; simp [State.cleared]) x).1
    mob := by rw [mob, MobSub.afterDetach, State.unclaimed_params]
    psc := by rw [psc]; exact ⟨rfl, rfl, rfl, rfl, rfl⟩
    listens := listens
    hold := by rw [← hold, ← kholds]; simp [State.cleared]
    claims := fun h k _ => by
      have rta : (s.cleared x).rta = (s.unclaimed x).rta := by simp [State.cleared]
      rw [← State.unclaimed_claims (x := x) h k, State.claimInPlace, State.claimInPlace, State.claimOf, State.claimOf, rta] }

theorem State.cleared_queue (s : State) (x : Sub) : (s.cleared x).sge.queues.get x = [] := by
  obtain ⟨-, -, -, queue, -⟩ := s.unlinked_facts x
  obtain ⟨-, -, -, queues, -⟩ := s.unclaimed_keeps x
  rw [← queue, ← queues]; simp [State.cleared]

/-- What a DETACH_NOTICE comes to: it stands alone in the queue, and `x` has nothing else of it (R17, R25). -/
theorem State.sendNotice_alone {u : State} (h : s.Parted u x) (hq : u.sge.queues.get x = []) : s.Parted (u.sendNotice x) x ∧
    (u.sendNotice x).sge.queues.get x = [⟨none, 0, false, .detachNotice ((u.record x).identity.getD []), 0⟩] := by
  let m : Msg := ⟨none, 0, false, .detachNotice ((u.record x).identity.getD []), 0⟩
  have room : (u.sge.queues.get x).length < 6 := by rw [hq]; exact Nat.zero_lt_succ _
  have takes : u.takesOffer x ⟨none, none, 0, none, .detachNotice ((u.record x).identity.getD [])⟩ = true := by
    have free : u.queueFull x = false := decide_eq_false (Nat.not_le.2 room)
    simp [State.takesOffer, State.hasPlace, free]
  have e : u.sendNotice x = (u.enqueue x m).reexamine x := by
    rw [State.sendNotice, State.offerPlain, State.offer_plain takes rfl]
  have sge : (u.enqueue x m).sge = { u.sge with queues := u.sge.queues.upd x (· ++ [m]) } := State.enqueue_room room m
  have queued : s.Parted (u.enqueue x m) x := { h with
    record := by rw [← h.record, State.record, State.record]; simp
    txns := by
      rw [← h.txns]
      unfold State.txnsOf State.openTxns
      rw [sge]
    outgoing := by rw [← h.outgoing, State.outgoingOf, State.outgoingOf]; simp
    ctx := by rw [← h.ctx]; exact (State.calls_congr (by simp) x).1
    mob := by rw [← h.mob, State.mobOf, State.mobOf]; simp
    psc := by rw [State.pscOf]; simpa [State.pscOf] using h.psc
    listens := by rw [← h.listens]; simp
    hold := by rw [← h.hold, sge]
    claims := fun hc k hk => by rw [← h.claims hc k hk]; simp [State.claimInPlace, State.claimOf] }
  have queue : (u.enqueue x m).sge.queues.get x = [m] := by rw [sge]; simp [hq]
  rw [e]
  exact ⟨queued.spares (State.reexamine_spares (.refl _)) (by simp), by rw [show ((u.enqueue x m).reexamine x).sge = (u.enqueue x m).sge by simp]; exact queue⟩

theorem State.parted_parted (s : State) (x : Sub) : s.Parted (s.parted x) x ∧ (s.parted x).sge.queues.get x =
    if (s.activity x).isCampedState then [⟨none, 0, false, .detachNotice ((s.record x).identity.getD []), 0⟩] else [] := by
  have cleared := s.cleared_parted x
  unfold State.parted
  split
  · have notice := State.sendNotice_alone cleared (s.cleared_queue x)
    rw [cleared.record] at notice
    exact notice
  · exact ⟨cleared, s.cleared_queue x⟩

/-- DETACH without the owners that try again spares the other subscription. -/
theorem State.parted_spares (s : State) (x : Sub) : s.Spares x.other (s.parted x) := by
  have texts := (s.unlinked_facts x).1.spares.trans (State.detachTexts_spares x (s.unlinked x))
  have cleared : s.Spares x.other (s.cleared x) := by
    simp (maxDischargeDepth := 20) [State.cleared, State.unclaimed, texts]
  unfold State.parted
  split <;> simp (maxDischargeDepth := 20) [State.sendNotice, cleared]

theorem State.enqueue_rest (t : State) (x : Sub) (m : Msg) :
    (t.enqueue x m).sge.nextIdent = t.sge.nextIdent ∧ (t.enqueue x m).sge.waiters = t.sge.waiters := by
  unfold State.enqueue
  split <;> exact ⟨rfl, rfl⟩

/-- SGE's counters and the owners that wait, after a DETACH but for what those owners do. -/
theorem State.parted_sge (s : State) (x : Sub) : (s.parted x).sge.nextIdent = s.sge.nextIdent ∧
    (s.sge.waiters = [] → (s.parted x).sge.waiters = []) := by
  have torn := (s.unlinked_facts x).1
  have texts := ((s.unlinked x).detachTexts x).failText_tears x .detached
  have cleared : (s.cleared x).sge = (((s.unlinked x).detachTexts x).failText x .detached).sge := by
    simp [State.cleared, State.unclaimed]
  have next : (s.cleared x).sge.nextIdent = s.sge.nextIdent := by
    rw [cleared, texts.nextIdent, ← torn.nextIdent]; simp
  have waiters (h : s.sge.waiters = []) : (s.cleared x).sge.waiters = [] := by
    rw [cleared]
    exact texts.waiters (by simpa using torn.waiters h)
  unfold State.parted
  split
  · have sge (t : State) : (t.sendNotice x).sge.nextIdent = t.sge.nextIdent ∧ (t.sendNotice x).sge.waiters = t.sge.waiters := by
      simp only [State.sendNotice, State.offerPlain, State.offer]
      (repeat' split) <;> simp [State.enqueue_rest]
    exact ⟨(sge _).1.trans next, fun h => (sge _).2.trans (waiters h)⟩
  · exact ⟨next, waiters⟩

/-- The reassembly entries after a DETACH are those its texts leave. -/
theorem State.parted_entries (s : State) (x : Sub) : (s.parted x).txt.entries = ((s.unlinked x).detachTexts x).txt.entries := by
  have cleared : (s.cleared x).txt.entries = ((s.unlinked x).detachTexts x).txt.entries := by
    rw [← (((s.unlinked x).detachTexts x).failText_tears x .detached).entries]; simp [State.cleared, State.unclaimed]
  unfold State.parted
  split
  · simpa using cleared
  · exact cleared

end Detach

/-! ### The step -/

/-- Taking a frame from the hold leaves the frame begun, and adds to the host-bound queue at its end. -/
theorem State.heard_link (s : State) (rest : List HostFrame) : (s.heard rest).hlc.sending = s.hlc.sending ∧
    s.hlc.queue <+: (s.heard rest).hlc.queue ∧ s.Delivers (s.heard rest) := by
  have one (i : Nat) (t : State) : (t.offerText i).hlc.sending = t.hlc.sending := by
    unfold State.offerText
    (repeat' split) <;> rfl
  have key (l : List Nat) : ∀ t : State, (l.foldl (fun s i => s.offerText i) t).hlc.sending = t.hlc.sending := by
    induction l with
    | nil => exact fun _ => rfl
    | cons i l ih => exact fun t => (ih _).trans (one i t)
  unfold State.heard
  dsimp only
  split
  · exact ⟨rfl, List.prefix_rfl, .refl s⟩
  · let u : State := { s with hlc := { s.hlc with inbound := rest, host := .awake, lostWake := false } }
    obtain ⟨-, -, -, queue, -⟩ := (State.offerTexts_evolves (.refl u)).hlc
    exact ⟨key _ u, queue, u.offerTexts_delivers⟩

/-- The head of a queue that is added to at its end. -/
theorem State.textBegun_of {s t : State} (sending : t.hlc.sending = s.hlc.sending) (queue : s.hlc.queue <+: t.hlc.queue) (i : Nat) :
    (s.hlc.sending ≠ some .entry ∨ (∃ g more, s.hlc.queue = g :: more ∧ g.body ≠ .text i) → t.textBegun i = false) ∧
    (s.hlc.sending = some .entry → (∃ g more, s.hlc.queue = g :: more ∧ g.body = .text i) → t.textBegun i = true) := by
  have head {g : HostEntry} {more : List HostEntry} (h : s.hlc.queue = g :: more) : t.hlc.queue.head? = some g := by
    obtain ⟨tail, e⟩ := queue
    rw [← e, h]; rfl
  unfold State.textBegun
  rw [sending]
  constructor
  · rintro (h | ⟨g, more, h, hb⟩)
    · simp [h]
    · simp [head h, hb]
  · rintro hs ⟨g, more, h, hb⟩
    simp [hs, head h, hb]

/-- The reassembly entries of `x` that a DETACH leaves (R156). -/
theorem State.parted_texts (s : State) (rest : List HostFrame) {x : Sub} {i : Nat} {e : TextEntry} (he : entryAt s.txt.entries i = some e)
    (hx : e.sub = x) :
    (s.hlc.sending ≠ some .entry ∨ (∃ g more, s.hlc.queue = g :: more ∧ g.body ≠ .text i) →
      entryAt ((s.heard rest).parted x).txt.entries i = none) ∧
    (s.hlc.sending = some .entry → (∃ g more, s.hlc.queue = g :: more ∧ g.body = .text i) → e.state = .queued →
      entryAt ((s.heard rest).parted x).txt.entries i = some e) := by
  obtain ⟨sending, queue, delivers⟩ := s.heard_link rest
  have torn := ((s.heard rest).unlinked_facts x).1
  obtain ⟨-, -, -, longer, -⟩ := torn.evolves.hlc
  obtain ⟨other, begun⟩ := State.textBegun_of (torn.sending.trans sending) (queue.trans longer) i
  obtain ⟨d, hd, sub, same⟩ := (delivers i).2 e he
  rw [← torn.entries] at hd
  obtain ⟨gone, kept⟩ := State.detachTexts_entry hd (sub.trans hx)
  rw [State.parted_entries]
  refine ⟨fun h => gone (other h), fun hs hh hq => ?_⟩
  obtain rfl := same hq
  exact kept (begun hs hh) hq

/-- Settles O22: what DETACH leaves of its subscription by `parted_parted`, what it spares of the other by `parted_spares`; the owners that
then try again spare a DETACHED subscription by `tryWaiters_spares`. -/
theorem detachTearsDown : Obligations.DetachTearsDown := by
  unfold Obligations.DetachTearsDown
  have row (s : State) : exec .detach s = s.answer (s.serve 9 (withSub (readPure ()) fun x _ => State.doDetach x)) := rfl
  refine ⟨fun s f rest x asked hx => ⟨fun attached => ?accepted, fun detached => ?refused⟩, fun s f rest body asked malformed => ?malformed⟩
  case malformed =>
    refine served_refuses asked (row s) (withSub_malformed ?_ _)
    rw [readAll_pure]
    simpa using malformed
  case refused =>
    refine served_refuses asked (row s) ?_
    rw [withSub_read hx (readAll_pure ..), doDetach_refused ((s.heard_activity rest x).trans detached)]
  case accepted =>
    obtain ⟨rta, sge, sbs, mob, -⟩ := s.heard_keeps rest
    let u := (s.heard rest).parted x
    have done := (withSub_read (act := fun x (_ : Unit) => State.doDetach x) hx (readAll_pure () []) (s.heard rest)).trans
      (doDetach_accepted fun h => attached ((s.heard_activity rest x).symm.trans h))
    obtain ⟨t, e, -, -, -, -, trta, tdlc, tsge, tsbs, tpsc, -, tmob, tcal, -, ttxt, -, -, -, -, tresults, -⟩ := served_row asked (row s) done
    obtain ⟨parted, queue⟩ := (s.heard rest).parted_parted x
    have waited := parted.apart.tryWaiters_spares
    have after : State.Spares x u t := waited.trans ((State.Spares.refl _).keep trta tdlc tsge tsbs tpsc tmob (by rw [ttxt]; rfl))
    have torn : (s.heard rest).Parted t x := parted.spares after (tcal.trans (State.tryWaiters_settles none u).cal)
    have entries : t.txt.entries = u.txt.entries := by rw [ttxt]; exact State.tryWaiters_entries ..
    have spared := (s.heard rest).parted_spares x
    obtain ⟨next, waiters⟩ := (s.heard rest).parted_sge x
    have heardMob : (s.heard rest).mobOf x = s.mobOf x := by simp only [State.mobOf, mob]
    refine ⟨t, e, ?_, torn.txns, torn.outgoing, torn.ctx, ?_, torn.psc.1, torn.psc.2.1, torn.psc.2.2.1, torn.psc.2.2.2.1, torn.psc.2.2.2.2,
      torn.listens, ?_, torn.hold, ?_, ?_, ?_, ?_, fun hc k hk => ?_, fun i d hd hs => ?_, fun hw => ?other⟩
    · rw [torn.record, State.heard_record]; rfl
    · rw [torn.mob, heardMob]
    · rw [after.queue, queue, State.heard_activity, State.heard_record]
    · rw [tresults]; simp
    · rw [after.stray, spared.stray, sge]
    · rw [after.nextIdent, next, sge]
    · rw [after.copies, spared.copies, rta]
    · exact torn.claims (by unfold State.claimsOk; rw [rta]; exact hc) k hk
    · rw [entries]; exact s.parted_texts rest hd hs
    case other =>
      have none : u.tryWaiters .none = u := State.tryWaiters_none (waiters (by rw [sge]; exact hw)) _
      rw [show (s.heard rest).parted x = u from rfl, none] at trta tdlc tsge tsbs tpsc tmob ttxt
      have kept : (s.heard rest).Spares x.other t := spared.trans
        ((State.Spares.refl u).keep trta tdlc tsge tsbs tpsc tmob (by rw [ttxt]; rfl))
      refine ⟨?_, ?_, ?_, ?_⟩
      · rw [kept.record, State.heard_record]
      · rw [kept.mob]; simp only [State.mobOf, mob]
      · rw [kept.txns]; simp only [State.txnsOf, State.openTxns, sge]
      · rw [kept.queue, sge]

end Sys2Proof.Machine
end

section
/-! Sitting 2: settling a subscription that was busy and stays in a camped state, and the answers to an AREA_UPDATE (O45). -/

namespace Sys2Proof.Machine

/-! ### Settling after a busy state (R20, R21, R30) -/

section Calms
variable {s t : State} {x : Sub}

/-- What settling a busy subscription with service comes to: its record follows its activity state, and SGE's part and the schedule stay. -/
structure State.Calms (x : Sub) (s t : State) : Prop where
  rests : s.Rests t
  sge : t.sge = s.sge
  schedule : (t.pscOf x).schedule = (s.pscOf x).schedule
  record : t.record x = { s.record x with
    activity := s.derivedActivity x
    standing := ({ s.record x with activity := s.derivedActivity x } : SubRecord).standingNow }
  paging : (s.record x).registration = .rejected → s.sameClaims x .pagingListen t

theorem State.updateStanding_record (x : Sub) (s : State) :
    (s.updateStanding x).record x = { s.record x with standing := (s.record x).standingNow } := by
  have reported (u : State) (r : Report) : (u.reportWake r).record x = u.record x := by simp [State.record]
  unfold State.updateStanding
  dsimp only
  split
  next h => rw [h]
  next => rw [reported, State.onRecord_record_same]

theorem State.placePaging_schedule (x : Sub) (s : State) : ((s.placePaging x).pscOf x).schedule = (s.pscOf x).schedule := by
  unfold State.placePaging State.ask
  (repeat' split)
  · rfl
  · exact s.placeNow_schedule .pagingListen x x
  · rfl
  · rfl

theorem State.refreshRead_sameClaims (x : Sub) (s : State) : s.sameClaims x .pagingListen (s.refreshRead x) := by
  have tried (u : State) : u.sameClaims x .pagingListen (u.tryRead x) := fun i c hx hk => by
    rw [State.tryRead_rta]
    exact u.place_sameClaims _ (.inr (by decide)) i c hx hk
  unfold State.refreshRead State.placeRead State.ask
  (repeat' split)
  · exact State.sameClaims_of_claims rfl
  · exact State.sameClaims.trans (State.sameClaims_of_claims rfl) (tried _)
  all_goals exact State.sameClaims_of_claims rfl

/-- A record once its activity state has been derived, before its standing follows. -/
theorem State.calms_of_written {u : State} (rests : s.Rests (u.updateStanding x)) (sge : u.sge = s.sge)
    (schedule : (u.pscOf x).schedule = (s.pscOf x).schedule) (record : u.record x = { s.record x with activity := s.derivedActivity x })
    (paging : (s.record x).registration = .rejected → s.sameClaims x .pagingListen u) : s.Calms x (u.updateStanding x) where
  rests := rests
  sge := by simp [sge]
  schedule := by rw [← schedule]; simp [State.pscOf]
  record := by rw [State.updateStanding_record, record]
  paging := fun h => (paging h).trans (State.sameClaims_of_claims (by simp))

/-- Deriving the activity state of a subscription that was busy, has its service and does not leave a call. -/
theorem State.derive_calms (busy : (s.activity x).isBusy = true) (served : (s.derivedActivity x).isCampedState = true)
    (call : s.activity x = .inCall → s.derivedActivity x = .inCall) (unbarred : (s.serving x).any (·.barred) = false) :
    s.Calms x (s.derive x) := by
  have rests := State.derive_rests x s
  by_cases same : s.activity x = s.derivedActivity x
  · rw [State.derive_same same] at rests ⊢
    exact State.calms_of_written rests rfl rfl (by rw [← same]; rfl) fun _ => State.sameClaims_of_claims rfl
  · have left : s.activity x ≠ .inCall := fun h => same (h.trans (call h).symm)
    let w := s.onRecord x fun r => { r with activity := s.derivedActivity x }
    have wrote : w.record x = { s.record x with activity := s.derivedActivity x } := State.onRecord_record_same ..
    by_cases hd : s.derivedActivity x = .camped
    · rw [State.derive_leaves busy hd unbarred, State.writeActivity_plain left, ← hd] at rests ⊢
      let v := (w.setFilter x false).placePaging x
      have sbs : (v.refreshRead x).sbs = w.sbs := by simp [v]
      refine State.calms_of_written rests (by simp) ?_ ?_ fun hr => ?_
      · have per : (v.refreshRead x).psc.per = v.psc.per := by simp
        exact (congrArg (fun p : PerSub PscSub => (p.get x).schedule) per).trans (State.placePaging_schedule x (w.setFilter x false))
      · rw [← wrote]; exact congrArg (fun b : Sbs => b.recs.get x) sbs
      · have rejected : (w.setFilter x false).placePaging x = w.setFilter x false := by
          have e : ((w.setFilter x false).record x).registration = .rejected := by
            rw [show (w.setFilter x false).record x = w.record x by simp [State.record], wrote]; exact hr
          simp [State.placePaging, e]
        show s.sameClaims x .pagingListen (((w.setFilter x false).placePaging x).refreshRead x)
        rw [rejected]
        exact State.sameClaims.trans (State.sameClaims_of_claims rfl) (State.refreshRead_sameClaims x (w.setFilter x false))
    · have derivedBusy : (s.derivedActivity x).isBusy = true := by
        cases h : s.derivedActivity x <;> simp_all [Activity.isBusy, Activity.isCampedState]
      rw [State.derive_busy derivedBusy left same, if_pos busy] at rests ⊢
      exact State.calms_of_written rests rfl rfl wrote fun _ => State.sameClaims_of_claims rfl

theorem State.settle_calms (busy : (s.activity x).isBusy = true) (served : (s.derivedActivity x).isCampedState = true)
    (call : s.activity x = .inCall → s.derivedActivity x = .inCall) (unbarred : (s.serving x).any (·.barred) = false) :
    s.Calms x (s.settle x) := by
  have calm := State.derive_calms busy served call unbarred
  have record : (s.settleAlone x).record x = (s.derive x).record x := by simp [State.settleAlone, State.record]
  have e : s.settle x = (s.derive x).reexamine x := by
    have act : (s.settleAlone x).activity x = s.derivedActivity x := by rw [State.activity, record, calm.record]
    unfold State.settle
    dsimp only
    rw [act, if_neg]
    · rfl
    · simp only [Bool.and_eq_true, beq_iff_eq, bne_iff_ne, not_and, not_not]
      exact call
  rw [e]
  exact {
    rests := calm.rests.trans (State.reexamine_rests ..)
    sge := by simp [calm.sge]
    schedule := by rw [← calm.schedule]; simp [State.pscOf]
    record := by rw [← calm.record, ← record]; rfl
    paging := fun hr => (calm.paging hr).trans (State.reexamine_sameClaims _ x (by decide)) }

/-- A subscription with an open transaction settles so after whatever leaves its activity state, its cell and the calls. -/
theorem State.activityOk.calms (ha : s.activityOk) (open_ : s.txnsOf x ≠ []) (act : t.activity x = s.activity x)
    (serving : t.serving x = s.serving x) (cal : t.cal = s.cal) (unbarred : (s.serving x).any (·.barred) = false) :
    t.Calms x (t.settle x) := by
  obtain ⟨camped, busy⟩ := ha.busy open_
  obtain ⟨attached, hs⟩ := ha.served camped
  have before := State.derivedActivity_served attached hs
  have after := State.derivedActivity_served (s := t) (x := x) (by rwa [act]) (by rwa [serving])
  obtain ⟨-, call⟩ := State.calls_congr cal x
  refine State.settle_calms (by rwa [act]) ?_ (fun h => ?_) (by rwa [serving])
  · rw [after]
    (repeat' split) <;> rfl
  · rw [act, (ha x).1, before] at h
    have hc : s.hasCall x = true := by
      by_contra hn
      rw [if_neg hn] at h
      split at h <;> cases h
    rw [after, call, if_pos hc]

end Calms

/-! ### The transaction that is answered (R5, R11) -/

/-- What stands once the transaction in entry `i` has been freed by the answer it was sent for. -/
structure State.Struck (i : Nat) (s f : State) : Prop where
  sbs : f.sbs = s.sbs
  cal : f.cal = s.cal
  hlc : f.hlc = s.hlc
  per : f.psc.per = s.psc.per
  serving : ∀ y, f.serving y = s.serving y
  claims : f.rta.claims = s.rta.claims
  gone : entryAt f.sge.txns i = none
  nobody : f.sge.waiters = []
  takes : ∀ (x : Sub) (o : Offer), s.hasPlace x o.owner = true → f.takesOffer x o = true

section Struck
variable {s : State} {frame : Frame} {b : SignalBlock} {h : Holder} {i : Nat} {p : Txn}

theorem State.noticed_serving (h : Holder) (s : State) (y : Sub) : (s.noticed h).serving y = s.serving y := by
  unfold State.serving
  rw [State.noticed_mobOf]
  split <;> rfl

theorem State.heard_struck {q : Txn} (hq : entryAt ((s.noticed h).restartLinkIdle h.sub).sge.txns i = some q) (hw : s.sge.waiters = []) :
    s.Struck i (((s.noticed h).restartLinkIdle h.sub).freeTxn i) := by
  let u := (s.noticed h).restartLinkIdle h.sub
  have noticed := State.noticed_rest h s
  have unit := State.noticed_unit h s
  have sge : (s.noticed h).sge = s.sge := by rw [noticed]
  obtain ⟨-, -, -, waiters⟩ := State.freeTxn_table hq
  exact {
    sbs := by simp only [State.freeTxn_keeps]; show (s.noticed h).sbs = _; rw [noticed]
    cal := by simp only [State.freeTxn_keeps]; show (s.noticed h).cal = _; rw [noticed]
    hlc := by simp only [State.freeTxn_keeps]; show (s.noticed h).hlc = _; rw [noticed]
    per := by simp only [State.freeTxn_keeps]; show (s.noticed h).psc.per = _; rw [noticed]
    serving := fun y => by
      have mob : (u.freeTxn i).mob = (s.noticed h).mob := by simp only [State.freeTxn_keeps]; rfl
      rw [← State.noticed_serving h s y, State.serving, State.mobOf, mob]; rfl
    claims := by
      have rta : (u.freeTxn i).rta = (s.noticed h).rta := by simp only [State.freeTxn_keeps]; rfl
      rw [rta, unit]
    gone := State.freeTxn_gone hq
    nobody := waiters (by show (s.noticed h).sge.waiters = []; rw [sge]; exact hw)
    takes := fun x o hp => State.freeTxn_takes hq (State.hasPlace_of_sublist (s := s)
      (by show ((s.noticed h).sge.queues.get x).Sublist _; rw [sge]) (by show ((s.noticed h).sge.holds.get x).Sublist _; rw [sge]) hp) }

/-- A block that answers a SENT AREA transaction: it is freed, SBS is told, and its subscription settles. -/
theorem signalBlock_area (hh : s.hears frame h b) (hp : s.txnBy h.sub (BitVec.ofNat 4 b.ident) = some (i, p)) (hs : p.state = .sent)
    (hk : p.kind = .area) (hw : s.sge.waiters = []) (hb : b.code = 13 ∨ b.code = 14 ∨ b.code = 15) :
    ∃ f, s.Struck i f ∧ exec (.signalBlock frame true b) s = .next (s.finish
      (((f.areaEnded h.sub (if b.code = 13 then .answered else .refused (firstItem b.errors))
        (if b.code = 13 then acceptFields b.body else none)).tryWaiters (some h.sub)).settle h.sub)) := by
  let u := (s.noticed h).restartLinkIdle h.sub
  let q := p.linkHeard h.sub
  have found : u.txnBy h.sub (BitVec.ofNat 4 b.ident) = some (i, q) := by
    rw [State.txnBy_restartLinkIdle, State.txnBy_congr (s := s) (by rw [State.noticed_rest]), hp]; rfl
  obtain ⟨hq, qsub, -⟩ := State.txnBy_some found
  have qeq : q = { p with idle := q.idle } := Txn.linkHeard_eq ..
  have matched : q.matchedBy b.code = true := by
    rw [show q.matchedBy b.code = p.matchedBy b.code from Txn.linkHeard_matchedBy ..]
    unfold Txn.matchedBy
    rcases hb with e | e | e <;> simp [hs, e, hk, answersKind]
  have code : b.code ∈ [0, 2, 3, 4, 5, 6, 7, 11, 13, 14, 15] := by rcases hb with e | e | e <;> simp [e]
  have takes : (s.noticed h).sgeTakes h.sub b = u.endTxnWith i (if b.code = 13 then .answered else .refused (firstItem b.errors))
      (if b.code = 13 then acceptFields b.body else none) := by
    rw [State.sgeTakes_answer _ _ _ code, State.answerCode_matched found matched]
    unfold State.answered
    rcases hb with e | e | e <;> simp [e, State.endTxn]
  refine ⟨u.freeTxn i, State.heard_struck hq hw, ?_⟩
  have told (o : TxnOutcome) (a : Option (Nat × Option AliasValue)) (t : State) : t.tellOwner q o a = t.areaEnded h.sub o a := by
    have kind : q.kind = .area := by rw [qeq]; exact hk
    rw [State.tellOwner, kind, qsub]
  rw [signalBlock_own hh (by rcases hb with e | e | e <;> omega), takes, State.endTxnWith_eq hq, told, qsub]
  rfl

end Struck

end Sys2Proof.Machine
end

section
/-! Sitting 2: what AREA_ACCEPT, AREA_REJECT and REFUSAL do to the registration (O45). -/

namespace Sys2Proof.Machine

/-! ### What SBS is told (R28 to R30) -/

section Told
variable {s : State} {x : Sub}

theorem State.reportWake_mem {s : State} (h : s.hlc.queue.length < 32) (r : Report) :
    ⟨.report r, true, false⟩ ∈ (s.reportWake r).hlc.queue := by
  cases s.offerEntry_spec ⟨.report r, true, false⟩ with
  | inl e => rw [show (s.reportWake r).hlc = _ from e.2]; simp
  | inr e => omega

/-- A standing that changes is reported, where there is a place (R30). -/
theorem State.updateStanding_reports (h : (s.record x).standing ≠ (s.record x).standingNow) (room : s.hlc.queue.length < 32) :
    ⟨.report (.serviceState x (s.record x).standingNow (s.record x).registration (s.record x).activity
      (if (s.record x).standingNow = .limited then (s.record x).rejectItem else none)), true, false⟩ ∈ (s.updateStanding x).hlc.queue := by
  unfold State.updateStanding
  dsimp only
  rw [if_neg (Ne.symm h)]
  exact State.reportWake_mem room _

/-- The record AREA_ACCEPT leaves, its standing apart (R28, R29). -/
def SubRecord.accepted (r : SubRecord) (area : Nat) (newAlias : Option AliasValue) : SubRecord :=
  { r with registration := .registered, lastArea := some area, rejectedArea := none, rejectItem := none,
           aliasVal := newAlias.orElse fun _ => r.aliasVal }

theorem State.recomputeSchedule_sbs (x : Sub) (s : State) : (s.recomputeSchedule x).sbs = s.sbs := by simp

theorem State.areaAccepted_sbs (x : Sub) (area : Nat) (newAlias : Option AliasValue) (s : State) :
    (s.areaAccepted x area newAlias).sbs = (s.onRecord x (·.accepted area newAlias)).sbs := by
  unfold State.areaAccepted
  dsimp only
  split
  · rw [State.recomputeSchedule_sbs]; rfl
  · rfl

theorem State.areaAccepted_record (x : Sub) (area : Nat) (newAlias : Option AliasValue) (s : State) :
    (s.areaAccepted x area newAlias).record x = (s.record x).accepted area newAlias := by
  rw [State.record, State.areaAccepted_sbs]
  exact State.onRecord_record_same ..

/-- A new `AliasValue` makes the schedule follow it (R66). -/
theorem State.areaAccepted_schedule {v : Serving} {d : Digits} {n : AliasValue} (hv : s.serving x = some v)
    (hd : (s.record x).identity = some d) (area : Nat) :
    ((s.areaAccepted x area (some n)).pscOf x).schedule = some (scheduleOf v (some n) d) := by
  let t := s.onRecord x (·.accepted area (some n))
  have record : t.record x = (s.record x).accepted area (some n) := State.onRecord_record_same ..
  have fresh : t.freshSchedule x = some (scheduleOf v (some n) d) := by
    have serving : t.serving x = some v := hv
    have identity : (t.record x).identity = some d := by rw [record]; exact hd
    simp only [State.freshSchedule, serving, identity]
    rw [record]; rfl
  show ((t.recomputeSchedule x).pscOf x).schedule = _
  have set (g : PscSub → PscSub) : (t.onPscOf x g).pscOf x = g (t.pscOf x) := PerSub.get_upd_same ..
  have replaced (u : State) : (u.replacePaging x).pscOf x = u.pscOf x := by
    unfold State.replacePaging
    (repeat' split) <;> simp [State.pscOf]
  unfold State.recomputeSchedule
  dsimp only
  split
  · rw [set, fresh]
  · rw [replaced, set, fresh]

/-- What SBS does with an area code passed to it changes no more of the record than the update that is due (R26, R27). -/
structure State.Passes (x : Sub) (s t : State) : Prop where
  record : ∃ g pending byPage, (g = (s.record x).registration ∨ g = .updating) ∧
    t.record x = { s.record x with registration := g, updatePending := pending, updateByPage := byPage }
  evolves : s.Evolves t
  per : t.psc.per = s.psc.per
  cal : t.cal = s.cal
  mob : t.mob = s.mob
  undue : s.sge.waiters = [] → t.dueWaiters = []

theorem State.Passes.refl (s : State) : s.Passes x s :=
  ⟨⟨_, _, _, .inl rfl, rfl⟩, .refl s, rfl, rfl, rfl, fun h => by simp [State.dueWaiters, h]⟩

theorem State.pendUpdate_passes (byPage : Bool) (s : State) : s.Passes x (s.pendUpdate x byPage) where
  record := by
    refine ⟨_, true, (s.record x).updateByPage || byPage, .inl rfl, ?_⟩
    have sbs (u : State) : (u.beginWait .update x).sbs = u.sbs := by simp
    rw [State.pendUpdate, State.record, sbs]
    exact State.onRecord_record_same ..
  evolves := by simp
  per := by simp
  cal := by simp
  mob := by simp
  undue := fun h => by
    unfold State.pendUpdate State.beginWait State.dueWaiters
    split <;> simp_all

theorem State.updateOpened_passes (o : Offer) (s : State) :
    s.Passes x ((((s.offer x o).2).dropUpdate x).onRecord x fun r => { r with registration := .updating }) where
  record := by
    refine ⟨.updating, false, false, .inr rfl, ?_⟩
    have sbs (u : State) : (u.endWait .update x).sbs = u.sbs := by simp
    have offered : (s.offer x o).2.record x = s.record x := by simp [State.record]
    rw [State.onRecord_record_same, State.dropUpdate, State.record, sbs]
    exact congrArg (fun r : SubRecord => { r with registration := .updating })
      ((State.onRecord_record_same ..).trans (congrArg (fun r : SubRecord => { r with updatePending := false, updateByPage := false }) offered))
  evolves := by simp (maxDischargeDepth := 20)
  per := by simp
  cal := by simp
  mob := by simp
  undue := fun h => by
    simp [State.dueWaiters, State.dropUpdate, State.endWait, State.offer_waiters, h]

theorem State.openUpdate_passes (x : Sub) (byPage : Bool) (s : State) : s.Passes x (s.openUpdate x byPage) := by
  unfold State.openUpdate
  split
  · exact .refl s
  next v _ =>
    split
    · exact State.pendUpdate_passes ..
    · split
      next t e =>
        have refused : t = s := by
          unfold State.offer at e
          (repeat' split at e) <;> simp_all
        rw [refused]
        exact State.pendUpdate_passes ..
      next t e =>
        obtain rfl := (congrArg Prod.snd e : (s.offer x (s.areaOffer x v.area)).2 = t)
        exact State.updateOpened_passes ..

theorem State.areaPassed_passes (x : Sub) (s : State) : s.Passes x (s.areaPassed x) := by
  unfold State.areaPassed
  split
  · exact .refl s
  · split
    · exact State.openUpdate_passes ..
    · exact .refl s

end Told

/-! ### The answers (R11, R28) -/

section Answers
variable {s f : State} {x : Sub} {i : Nat} {v : Serving}

/-- SBS once an AREA_ACCEPT has been taken, before MOB's area code is passed to it. -/
def State.accepted (f : State) (x : Sub) (area : Nat) (newAlias : Option AliasValue) : State :=
  (f.areaAccepted x area newAlias).updateStanding x

/-- The record then: the standing is FULL in a camped state (R30). -/
theorem State.accepted_record (camped : (f.activity x).isCampedState = true) (area : Nat) (newAlias : Option AliasValue) :
    (f.accepted x area newAlias).record x = { (f.record x).accepted area newAlias with standing := .full } := by
  have now : ((f.record x).accepted area newAlias).standingNow = .full := by
    have act : ((f.record x).accepted area newAlias).activity = f.activity x := rfl
    rw [SubRecord.standingNow, act]
    revert camped
    cases f.activity x <;> simp [Activity.isCampedState, SubRecord.accepted]
  rw [State.accepted, State.updateStanding_record, State.areaAccepted_record, now]

theorem State.accepted_keeps (f : State) (x : Sub) (area : Nat) (newAlias : Option AliasValue) :
    (f.accepted x area newAlias).cal = f.cal ∧ (f.accepted x area newAlias).mob = f.mob ∧ (f.accepted x area newAlias).sge = f.sge ∧
    (f.accepted x area newAlias).psc.per = (f.areaAccepted x area newAlias).psc.per ∧
    (∀ y, (f.accepted x area newAlias).activity y = f.activity y) := by
  refine ⟨by simp [State.accepted], by simp [State.accepted], by simp [State.accepted], by simp [State.accepted], fun y => ?_⟩
  have wrote : (f.onRecord x (·.accepted area newAlias)).record y = if y = x then (f.record y).accepted area newAlias else f.record y :=
    PerSub.get_upd ..
  rw [State.accepted, State.updateStanding_activity, State.activity, State.record, State.areaAccepted_sbs]
  refine (congrArg SubRecord.activity wrote).trans ?_
  split <;> rfl

/-- A standing computed in a camped state stays, whatever camped state is derived (R30). -/
theorem SubRecord.standingNow_of {r : SubRecord} {a : Activity} (camped : a.isCampedState = true) :
    ({ r with activity := a } : SubRecord).standingNow =
      match r.registration with
      | .rejected => .limited
      | .registered => .full
      | .unregistered | .updating => r.standing := by
  cases a with
  | detached => cases camped
  | noService => cases camped
  | camped => rfl
  | attended => rfl
  | inCall => rfl

theorem State.takesOffer_congr {s t : State} (h : t.sge = s.sge) (x : Sub) (o : Offer) : t.takesOffer x o = s.takesOffer x o := by
  simp only [State.takesOffer, State.hasPlace, State.queueFull, State.holdTaken, State.tableFull, h]

/-- With service and an open transaction a subscription is IN_CALL or ATTENDED (R20). -/
theorem State.derivedActivity_open {t : State} (attached : t.activity x ≠ .detached) (served : (t.serving x).isSome = true)
    (open_ : t.txnsOf x ≠ []) : t.derivedActivity x = if t.hasCall x then .inCall else .attended := by
  have nonempty : (t.txnsOf x).isEmpty = false := by simpa [List.isEmpty_iff] using open_
  rw [State.derivedActivity_served attached served, nonempty]
  rfl

theorem State.tryWaiters_undue {t : State} (h : t.dueWaiters = []) (hold : Option Sub) : t.tryWaiters hold = t := by
  simp [State.tryWaiters, h]

/-- The end of an answered AREA transaction once SBS has been told, `t` being the state then: its subscription settles, and the step ends. -/
theorem State.area_settles {t : State} (ha : s.activityOk) (open_ : s.txnsOf x ≠ []) (hv : s.serving x = some v) (hb : v.barred = false)
    (act : t.activity x = s.activity x) (serving : t.serving x = s.serving x) (cal : t.cal = s.cal) (undue : t.dueWaiters = []) :
    let u := s.finish ((t.tryWaiters (some x)).settle x)
    u.record x = { t.record x with
      activity := t.derivedActivity x
      standing := match (t.record x).registration with
        | .rejected => .limited
        | .registered => .full
        | .unregistered | .updating => (t.record x).standing } ∧
    u.sge = t.sge ∧ (u.pscOf x).schedule = (t.pscOf x).schedule ∧ t.Evolves u ∧
    ((t.record x).registration = .rejected → t.sameClaims x .pagingListen u) := by
  obtain ⟨attached, hs⟩ := ha.served (ha.busy open_).1
  have calm : t.Calms x (t.settle x) := ha.calms open_ act serving cal (by rw [hv]; exact hb)
  have served : (t.derivedActivity x).isCampedState = true := by
    rw [State.derivedActivity_served (by rwa [act]) (by rwa [serving])]
    (repeat' split) <;> rfl
  rw [State.tryWaiters_undue undue]
  obtain ⟨-, -, -, -, frta, -, fsge, fsbs, fper, -⟩ := State.finish_agreesButSleep s (t.settle x)
  refine ⟨?_, fsge.trans calm.sge, ?_, State.finish_evolves _ calm.rests.evolves, fun hr => ?_⟩
  · rw [State.record, fsbs]
    refine calm.record.trans ?_
    rw [SubRecord.standingNow_of served] <;> rfl
  · rw [← calm.schedule, State.pscOf, fper]; rfl
  · exact (calm.paging hr).trans (State.sameClaims_of_claims (congrArg Rta.claims frta))

/-- What an AREA_ACCEPT comes to; `f` is the state with its transaction freed (R28 to R30). -/
theorem areaAccept_registers (struck : s.Struck i f) (ha : s.activityOk) (open_ : s.txnsOf x ≠ []) (hv : s.serving x = some v)
    (hb : v.barred = false) (area : Nat) (newAlias : Option AliasValue) :
    let t := s.finish (((f.areaEnded x .answered (some (area, newAlias))).tryWaiters (some x)).settle x)
    ((t.record x).lastArea = some area ∧ (t.record x).rejectedArea = none ∧ (t.record x).rejectItem = none ∧
      (t.record x).aliasVal = (if newAlias = none then (s.record x).aliasVal else newAlias) ∧ (t.record x).standing = .full) ∧
    (∀ d, newAlias ≠ none → (s.record x).identity = some d → (t.pscOf x).schedule = some (scheduleOf v newAlias d)) ∧
    ((s.record x).standing ≠ .full → s.hlc.queue.length < 32 →
      ⟨.report (.serviceState x .full .registered (s.activity x) none), true, false⟩ ∈ t.hlc.queue) ∧
    (v.area = area → (t.record x).registration = .registered ∧ entryAt t.sge.txns i = none) ∧
    (v.area ≠ area → s.activity x.other ≠ .inCall → s.hasPlace x (some .psc) = true →
      (t.record x).registration = .updating ∧ t.hasTxn x .area = true ∧ t.activity x = s.activity x) := by
  have frecord : f.record x = s.record x := by simp only [State.record, struck.sbs]
  have factivity (y : Sub) : f.activity y = s.activity y := by simp only [State.activity, State.record, struck.sbs]
  have camped : (f.activity x).isCampedState = true := by rw [factivity]; exact (ha.busy open_).1
  obtain ⟨cal, mob, sge, per, activity⟩ := f.accepted_keeps x area newAlias
  have record := State.accepted_record camped area newAlias
  rw [frecord] at record
  have serving : (f.accepted x area newAlias).serving x = some v := by
    rw [State.serving, State.mobOf, mob]; exact (struck.serving x).trans hv
  have passes := (f.accepted x area newAlias).areaPassed_passes x
  obtain ⟨g, pending, byPage, hg, told⟩ := passes.record
  rw [record] at hg told
  have tact : ((f.accepted x area newAlias).areaPassed x).activity x = s.activity x := by rw [State.activity, told]; rfl
  have tserving : ((f.accepted x area newAlias).areaPassed x).serving x = s.serving x := by
    rw [State.serving, State.mobOf, passes.mob, hv]; exact serving
  have tcal : ((f.accepted x area newAlias).areaPassed x).cal = s.cal := by rw [passes.cal, cal, struck.cal]
  obtain ⟨settled, tsge, schedule, evolves, -⟩ := State.area_settles (t := (f.accepted x area newAlias).areaPassed x) ha open_ hv hb tact
    tserving tcal
    (passes.undue (by rw [sge]; exact struck.nobody))
  have e : f.areaEnded x .answered (some (area, newAlias)) = (f.accepted x area newAlias).areaPassed x := rfl
  rw [e]
  refine ⟨?_, fun d hn hd => ?_, fun hstanding room => ?_, fun harea => ?_, fun harea other place => ?_⟩
  · rw [settled, told]
    refine ⟨rfl, rfl, rfl, ?_, ?_⟩
    · cases newAlias <;> rfl
    · rcases hg with rfl | rfl <;> rfl
  · obtain ⟨n, rfl⟩ := Option.ne_none_iff_exists'.1 hn
    rw [schedule, State.pscOf, passes.per, per]
    exact State.areaAccepted_schedule ((struck.serving x).trans hv) (by rw [frecord]; exact hd) area
  · have written := f.areaAccepted_record x area newAlias
    have hlc : (f.areaAccepted x area newAlias).hlc = s.hlc := by rw [← struck.hlc]; simp
    have now : ((f.record x).accepted area newAlias).standingNow = .full := by
      have := record
      rw [State.accepted, State.updateStanding_record, written] at this
      exact congrArg SubRecord.standing this
    have report := State.updateStanding_reports (s := f.areaAccepted x area newAlias) (x := x)
      (by rw [written, now, frecord]; exact hstanding) (by rw [hlc]; exact room)
    rw [written, now, frecord] at report
    exact (passes.evolves.trans evolves).mem_queue report
  · have same : (f.accepted x area newAlias).areaPassed x = f.accepted x area newAlias := by
      unfold State.areaPassed
      rw [serving]
      dsimp only
      rw [if_neg]
      rw [record]
      simp [SubRecord.dueFor, SubRecord.accepted, harea]
    rw [settled, tsge, same, sge, record]
    exact ⟨rfl, struck.gone⟩
  · have due : ((f.accepted x area newAlias).record x).dueFor v.area = true := by
      rw [record]; simpa [SubRecord.dueFor, SubRecord.accepted] using Ne.symm harea
    have opens : (f.accepted x area newAlias).areaPassed x = (f.accepted x area newAlias).openUpdate x false := by
      unfold State.areaPassed
      rw [serving]
      exact if_pos due
    have call : (f.accepted x area newAlias).hasCall x.other = false := by
      rw [(State.calls_congr (cal.trans struck.cal) x.other).2]; exact ha.noCall other
    have takes : (f.accepted x area newAlias).takesOffer x ((f.accepted x area newAlias).areaOffer x v.area) = true := by
      have free := struck.takes x ((f.accepted x area newAlias).areaOffer x v.area) place
      rwa [State.takesOffer_congr (sge : _ = f.sge)]
    have opened := State.openUpdate_opens serving (by rw [activity, factivity]; exact other) call takes false
    rw [← opens] at opened
    refine ⟨by rw [settled]; exact opened.registration, (State.hasTxn_congr (by rw [tsge]) x .area).trans opened.txn, ?_⟩
    obtain ⟨attached, hs⟩ := ha.served (ha.busy open_).1
    rw [State.activity, settled]
    show ((f.accepted x area newAlias).areaPassed x).derivedActivity x = s.activity x
    rw [(ha x).1, State.derivedActivity_open attached hs open_, State.derivedActivity_open (by rwa [tact]) (by rwa [tserving])
      (State.txnsOf_of_hasTxn opened.txn), (State.calls_congr tcal x).2]

/-- The record AREA_REJECT and REFUSAL leave, its standing apart (R28). -/
def SubRecord.refused (r : SubRecord) (area : Nat) (item : RejectItem) : SubRecord :=
  { r with registration := .rejected, rejectedArea := some area, lastArea := none, rejectItem := some item }

theorem State.reject_record (hv : f.serving x = some v) (item : RejectItem) : (f.reject x item).record x = (f.record x).refused v.area item := by
  have sbs (u : State) : (u.withdrawPaging x).sbs = u.sbs := by simp
  rw [State.reject, State.record, sbs, hv]
  exact State.onRecord_record_same ..

theorem State.reject_paging (hc : f.claimsOk) (item : RejectItem) : (f.reject x item).claimInPlace x .pagingListen = false :=
  State.claimInPlace_withdraw (s := f.onRecord x _) hc

/-- What an AREA_REJECT or a REFUSAL comes to; `f` is the state with its transaction freed (R28, R30, R70). -/
theorem areaRefused_rejects (struck : s.Struck i f) (ha : s.activityOk) (open_ : s.txnsOf x ≠ []) (hv : s.serving x = some v)
    (hb : v.barred = false) (item : ErrorItem) :
    let t := s.finish (((f.areaEnded x (.refused item) none).tryWaiters (some x)).settle x)
    (t.record x).registration = .rejected ∧ (t.record x).rejectedArea = some v.area ∧ (t.record x).lastArea = none ∧
      (t.record x).rejectItem = some (.item item) ∧ (t.record x).standing = .limited ∧ entryAt t.sge.txns i = none ∧
      (s.claimsOk → t.claimInPlace x .pagingListen = false) ∧
      ((s.record x).standing ≠ .limited → s.hlc.queue.length < 32 →
        ⟨.report (.serviceState x .limited .rejected (s.activity x) (some (.item item))), true, false⟩ ∈ t.hlc.queue) := by
  let r := f.reject x (.item item)
  let u := r.updateStanding x
  have frecord : f.record x = s.record x := by simp only [State.record, struck.sbs]
  have fserving : f.serving x = some v := (struck.serving x).trans hv
  have rrecord : r.record x = (s.record x).refused v.area (.item item) := by rw [State.reject_record fserving, frecord]
  have camped : (s.activity x).isCampedState = true := (ha.busy open_).1
  have now : ((s.record x).refused v.area (.item item)).standingNow = .limited :=
    SubRecord.standingNow_of (r := (s.record x).refused v.area (.item item)) camped
  have record : u.record x = { (s.record x).refused v.area (.item item) with standing := .limited } := by
    rw [State.updateStanding_record, rrecord, now]
  have serving : u.serving x = some v := by
    have mob : u.mob = f.mob := (by simp [u] : u.mob = r.mob).trans (State.withdraw_mob (f.onRecord x _) x (by decide))
    rw [← fserving, State.serving, State.mobOf, mob]; rfl
  have same : f.areaEnded x (.refused item) none = u := by
    show u.areaPassed x = u
    unfold State.areaPassed
    rw [serving]
    dsimp only
    rw [if_neg]
    rw [record]
    simp [SubRecord.dueFor, SubRecord.refused]
  have sge : u.sge = f.sge := by simp [u, r, State.reject]
  obtain ⟨settled, tsge, -, evolves, paging⟩ := State.area_settles (t := u) ha open_ hv hb (by rw [State.activity, record]; rfl)
    (by rw [serving, hv]) (by rw [← struck.cal]; simp [u, r, State.reject]) (by simp [State.dueWaiters, sge, struck.nobody])
  rw [same]
  rw [record] at settled paging
  refine ⟨by rw [settled]; rfl, by rw [settled]; rfl, by rw [settled]; rfl, by rw [settled]; rfl, by rw [settled]; rfl,
    by rw [tsge, sge]; exact struck.gone, fun hc => ?_, fun hstanding room => ?_⟩
  · have withdrawn : u.claimInPlace x .pagingListen = false := by
      have rta : u.rta = r.rta := by simp [u]
      rw [← State.reject_paging (x := x) (f := f) (by unfold State.claimsOk; rw [struck.claims]; exact hc) (.item item)]
      simp only [State.claimInPlace, State.claimOf, rta]; rfl
    rw [← withdrawn]
    unfold State.claimInPlace
    rw [(paging rfl).claimOf]
  · have hlc : r.hlc = s.hlc := by rw [← struck.hlc]; simp [r, State.reject]
    have report := State.updateStanding_reports (s := r) (x := x) (by rw [rrecord, now]; exact hstanding) (by rw [hlc]; exact room)
    rw [rrecord, now] at report
    exact evolves.mem_queue report

end Answers

/-- Settles O45: AREA_ACCEPT by `areaAccept_registers`, AREA_REJECT and REFUSAL by `areaRefused_rejects`. -/
theorem areaAnswersRegister : Obligations.AreaAnswersRegister := by
  unfold Obligations.AreaAnswersRegister
  intro s frame b h i p v hears found sent kind served unbarred ha nobody
  obtain ⟨entry, psub, -⟩ := State.txnBy_some found
  have open_ : s.txnsOf h.sub ≠ [] := State.txnsOf_ne_nil entry psub
  refine ⟨fun area newAlias code body => ?_, fun code => ?_⟩
  · obtain ⟨f, struck, row⟩ := signalBlock_area hears found sent kind nobody (.inl code)
    rw [if_pos code, if_pos code, body] at row
    obtain ⟨⟨h1, h2, h3, h4, h5⟩, schedule, report, same, further⟩ := areaAccept_registers struck ha open_ served unbarred area newAlias
    exact ⟨_, row, h1, h2, h3, h4, h5, schedule, report, same, further⟩
  · obtain ⟨f, struck, row⟩ := signalBlock_area hears found sent kind nobody (.inr code)
    have other : b.code ≠ 13 := by omega
    rw [if_neg other, if_neg other] at row
    exact ⟨_, row, areaRefused_rejects struck ha open_ served unbarred (firstItem b.errors)⟩

end Sys2Proof.Machine
end

section
/-! Sitting 2: what the rules of the calls and of the activity states see of a state (O59), and that it stays where no fact changes. -/

namespace Sys2Proof.Machine

/-! ### The rules, the activity states apart -/

/-- The calls are in order: the contexts by their rules, the host kept awake, the Voice Path at the ACTIVE context, and nothing of the other
subscription under way while a call is established (R119, R127, R130, R136, R138). -/
structure State.Ordered (s : State) : Prop where
  contexts : s.contextsOk
  doze : s.dozeOk
  voice : s.voiceServed
  apart : ∀ x, s.hasCall x = true → s.idle x.other

/-- The rules that hold throughout a step, whatever activity states are still to be derived (R17, R24, R25, R112). -/
structure State.Sound (s : State) : Prop extends s.Ordered where
  returns : s.returnsOk
  served : ∀ x, s.serving x = none → s.idle x
  attached : ∀ x, s.activity x = .detached → s.serving x = none

/-- The recorded activity state of `x` is the one its facts give (R20). -/
def State.settled (s : State) (x : Sub) : Prop := s.activity x = s.derivedActivity x

theorem State.hasCall_hasCtx {s : State} {x : Sub} (h : s.hasCall x = true) : s.hasCtx x = true := by
  obtain ⟨i, hi, hc⟩ := List.any_eq_true.1 h
  exact List.any_eq_true.2 ⟨i, hi, (Bool.and_eq_true_iff.1 hc).1⟩

theorem State.hasCall_idle {s : State} {x : Sub} (h : s.idle x) : s.hasCall x = false := by
  by_contra hc
  have := State.hasCall_hasCtx (Bool.of_not_eq_false hc)
  rw [h.1] at this
  cases this

/-- The activity state the facts give, one case of R20 after the other. -/
theorem State.derived_cases (s : State) (x : Sub) :
    (s.activity x = .detached ∧ s.derivedActivity x = .detached) ∨
    (s.activity x ≠ .detached ∧ s.serving x = none ∧ s.derivedActivity x = .noService) ∨
    (s.activity x ≠ .detached ∧ s.serving x ≠ none ∧ s.hasCall x = true ∧ s.derivedActivity x = .inCall) ∨
    (s.activity x ≠ .detached ∧ s.serving x ≠ none ∧ s.hasCall x = false ∧ ¬ s.idle x ∧ s.derivedActivity x = .attended) ∨
    (s.activity x ≠ .detached ∧ s.serving x ≠ none ∧ s.idle x ∧ s.derivedActivity x = .camped) := by
  by_cases ha : s.activity x = .detached
  · exact .inl ⟨ha, by simp [State.derivedActivity, ha]⟩
  by_cases hv : s.serving x = none
  · exact .inr (.inl ⟨ha, hv, by simp [State.derivedActivity, ha, hv]⟩)
  have some : (s.serving x).isNone = false := by
    cases h : s.serving x with
    | none => exact absurd h hv
    | some v => rfl
  cases hc : s.hasCall x
  · by_cases hi : s.idle x
    · obtain ⟨h1, h2, h3⟩ := hi
      exact .inr (.inr (.inr (.inr ⟨ha, hv, ⟨h1, h2, h3⟩, by simp [State.derivedActivity, ha, some, hc, h1, h2, h3]⟩)))
    · refine .inr (.inr (.inr (.inl ⟨ha, hv, rfl, hi, ?_⟩)))
      unfold State.derivedActivity
      rw [if_neg (by simpa using ha), if_neg (by simp [some]), if_neg (by simp [hc]), if_pos]
      by_contra hn
      simp only [Bool.or_eq_true, Bool.not_eq_true', List.isEmpty_eq_false_iff, not_or, Bool.not_eq_true, Option.isSome_eq_false_iff,
        Option.isNone_iff_eq_none, not_not] at hn
      exact hi ⟨hn.1.2, hn.1.1, hn.2⟩
  · exact .inr (.inr (.inl ⟨ha, hv, rfl, by simp [State.derivedActivity, ha, some, hc]⟩))

/-- What O59 speaks of: the rules, with every recorded activity state the one the facts give. -/
theorem State.callsOk_iff (s : State) : s.callsOk ↔ s.Sound ∧ ∀ x, s.settled x := by
  constructor
  · rintro ⟨activity, pair, contexts, doze, voice, returns⟩
    have bare : ∀ x, (s.activity x).isCampedState = false → s.serving x = none ∧ s.idle x := fun x h =>
      have ⟨h1, h2, h3, h4⟩ := (activity x).2 h
      ⟨h1, h2, h3, h4⟩
    refine ⟨{ contexts, doze, voice, returns, apart := fun x hc => ?_, served := fun x hv => ?_, attached := fun x ha => ?_ }, fun x => (activity x).1⟩
    · have inCall : s.activity x = .inCall := by
        have settled := (activity x).1
        rcases s.derived_cases x with ⟨ha, -⟩ | ⟨-, -, hd⟩ | ⟨-, -, -, hd⟩ | ⟨-, -, hn, -⟩ | ⟨-, -, hi, -⟩
        · have := (bare x (by rw [ha]; rfl)).2
          rw [State.hasCall_idle this] at hc; cases hc
        · have := (bare x (by rw [settled, hd]; rfl)).2
          rw [State.hasCall_idle this] at hc; cases hc
        · exact settled.trans hd
        · rw [hn] at hc; cases hc
        · rw [State.hasCall_idle hi] at hc; cases hc
      have quiet := pair x inCall
      have settled := (activity x.other).1
      rcases s.derived_cases x.other with ⟨ha, -⟩ | ⟨-, -, hd⟩ | ⟨-, -, -, hd⟩ | ⟨-, -, -, -, hd⟩ | ⟨-, -, hi, -⟩
      · exact (bare _ (by rw [ha]; rfl)).2
      · exact (bare _ (by rw [settled, hd]; rfl)).2
      · rw [settled, hd] at quiet; cases quiet
      · rw [settled, hd] at quiet; cases quiet
      · exact hi
    · have settled := (activity x).1
      rcases s.derived_cases x with ⟨ha, -⟩ | ⟨-, -, hd⟩ | ⟨-, hs, -⟩ | ⟨-, hs, -⟩ | ⟨-, hs, -⟩
      · exact (bare x (by rw [ha]; rfl)).2
      · exact (bare x (by rw [settled, hd]; rfl)).2
      all_goals exact absurd hv hs
    · exact (bare x (by rw [ha]; rfl)).1
  · rintro ⟨sound, settled⟩
    refine ⟨fun x => ⟨settled x, fun hn => ?_⟩, fun x hx => ?_, sound.contexts, sound.doze, sound.voice, sound.returns⟩
    · have bare : s.serving x = none := by
        have hd := settled x
        unfold State.settled at hd
        rcases s.derived_cases x with ⟨ha, -⟩ | ⟨-, hs, -⟩ | ⟨-, -, -, h⟩ | ⟨-, -, -, -, h⟩ | ⟨-, -, -, h⟩
        · exact sound.attached x ha
        · exact hs
        all_goals rw [hd, h] at hn; cases hn
      obtain ⟨h1, h2, h3⟩ := sound.served x bare
      exact ⟨bare, h1, h2, h3⟩
    · have call : s.hasCall x = true := by
        have hd := settled x
        unfold State.settled at hd
        rcases s.derived_cases x with ⟨-, h⟩ | ⟨-, -, h⟩ | ⟨-, -, h, -⟩ | ⟨-, -, -, -, h⟩ | ⟨-, -, -, h⟩
        on_goal 3 => exact h
        all_goals rw [← hd, hx] at h; cases h
      have idle := sound.apart x call
      have hd := settled x.other
      unfold State.settled at hd
      rcases s.derived_cases x.other with ⟨-, h⟩ | ⟨-, -, h⟩ | ⟨-, -, h, -⟩ | ⟨-, -, -, h, -⟩ | ⟨-, -, -, h⟩
      · rw [hd, h]; rfl
      · rw [hd, h]; rfl
      · rw [State.hasCall_idle idle] at h; cases h
      · exact absurd idle h
      · rw [hd, h]; rfl

/-! ### Nothing that the rules see changes -/

/-- MOB's facts of a subscription: it is served as before, and a return record is still held in ACCESS alone (R112). -/
def MobSub.Like (m n : MobSub) : Prop :=
  n.serving.isSome = m.serving.isSome ∧
    ((∀ r, m.returnRec = some r → m.hoState = .access ∧ m.serving.isSome = true) →
      ∀ r, n.returnRec = some r → n.hoState = .access ∧ n.serving.isSome = true)

/-- A transaction as the rules see it: its subscription and its owner. -/
def Txn.holder (t : Txn) : Sub × Owner := (t.sub, t.owner)

/-- A context as the rules see it; connect waiting may be given up. -/
def CallContext.Like (c d : CallContext) : Prop :=
  d.state = c.state ∧ d.sub = c.sub ∧ (d.connectWaiting = true → c.connectWaiting = true)

/-- `t` is as `s` for all that the rules of the calls see. -/
structure State.Like (s t : State) : Prop where
  ctx : ∀ i, (s.ctx i).Like (t.ctx i)
  length : t.cal.contexts.length = s.cal.contexts.length
  stack : t.cal.holdStack = s.cal.holdStack
  txns : ∀ i, (entryAt t.sge.txns i).map Txn.holder = (entryAt s.sge.txns i).map Txn.holder
  outgoing : ∀ x, (t.outgoingOf x).isSome = (s.outgoingOf x).isSome
  voice : t.vcp.call = s.vcp.call ∧ (t.vcp.playout = .stopped ↔ s.vcp.playout = .stopped)
  host : t.hlc.host = .dozing → s.hlc.host = .dozing
  cells : ∀ x, (s.mobOf x).Like (t.mobOf x)
  activity : ∀ x, t.activity x = s.activity x

theorem MobSub.Like.refl (m : MobSub) : m.Like m := ⟨rfl, id⟩

theorem MobSub.Like.trans {a b c : MobSub} (h : a.Like b) (k : b.Like c) : a.Like c := ⟨k.1.trans h.1, k.2 ∘ h.2⟩

theorem CallContext.Like.refl (c : CallContext) : c.Like c := ⟨rfl, rfl, id⟩

theorem CallContext.Like.trans {a b c : CallContext} (h : a.Like b) (k : b.Like c) : a.Like c :=
  ⟨k.1.trans h.1, k.2.1.trans h.2.1, h.2.2 ∘ k.2.2⟩

@[simp] theorem State.Like.refl (s : State) : s.Like s :=
  ⟨fun _ => .refl _, rfl, rfl, fun _ => rfl, fun _ => rfl, ⟨rfl, .rfl⟩, id, fun _ => .refl _, fun _ => rfl⟩

theorem State.Like.trans {s t u : State} (h : s.Like t) (k : t.Like u) : s.Like u where
  ctx := fun i => (h.ctx i).trans (k.ctx i)
  length := k.length.trans h.length
  stack := k.stack.trans h.stack
  txns := fun i => (k.txns i).trans (h.txns i)
  outgoing := fun x => (k.outgoing x).trans (h.outgoing x)
  voice := ⟨k.voice.1.trans h.voice.1, k.voice.2.trans h.voice.2⟩
  host := h.host ∘ k.host
  cells := fun x => (h.cells x).trans (k.cells x)
  activity := fun x => (k.activity x).trans (h.activity x)

theorem State.Like.foldl {α : Type} {f : State → α → State} (hf : ∀ (t : State) (a : α), t.Like (f t a)) (l : List α) {s t : State}
    (h : s.Like t) : s.Like (l.foldl f t) := by
  induction l generalizing t with
  | nil => exact h
  | cons a l ih => exact ih (h.trans (hf t a))

/-! ### What follows from it -/

section Like
variable {s t : State}

theorem State.Like.ctxOf (h : s.Like t) (x : Sub) (i : Nat) : t.ctxOf x i = s.ctxOf x i := by
  unfold State.ctxOf; rw [(h.ctx i).1, (h.ctx i).2.1]

theorem State.Like.hasCtx (h : s.Like t) (x : Sub) : t.hasCtx x = s.hasCtx x := by
  unfold State.hasCtx; exact congrArg _ (funext (h.ctxOf x))

theorem State.Like.hasCall (h : s.Like t) (x : Sub) : t.hasCall x = s.hasCall x := by
  unfold State.hasCall
  refine congrArg _ (funext fun i => ?_)
  rw [h.ctxOf, (h.ctx i).1]

theorem State.Like.txn (h : s.Like t) {i : Nat} {p : Txn} (hp : entryAt t.sge.txns i = some p) :
    ∃ q, entryAt s.sge.txns i = some q ∧ q.sub = p.sub ∧ q.owner = p.owner := by
  have e := h.txns i
  rw [hp] at e
  obtain ⟨q, hq, k⟩ := Option.map_eq_some_iff.1 e.symm
  exact ⟨q, hq, congrArg Prod.fst k, congrArg Prod.snd k⟩

theorem State.Like.txn_back (h : s.Like t) {i : Nat} {p : Txn} (hp : entryAt s.sge.txns i = some p) :
    ∃ q, entryAt t.sge.txns i = some q ∧ q.sub = p.sub ∧ q.owner = p.owner := by
  have e := h.txns i
  rw [hp] at e
  obtain ⟨q, hq, k⟩ := Option.map_eq_some_iff.1 e
  exact ⟨q, hq, congrArg Prod.fst k, congrArg Prod.snd k⟩

theorem State.Like.txnsOf (h : s.Like t) (x : Sub) : t.txnsOf x = [] ↔ s.txnsOf x = [] := by
  rw [State.txnsOf_nil_iff, State.txnsOf_nil_iff]
  constructor
  · intro k i p hp
    obtain ⟨q, hq, hs, -⟩ := h.txn_back hp
    exact hs ▸ k i q hq
  · intro k i p hp
    obtain ⟨q, hq, hs, -⟩ := h.txn hp
    exact hs ▸ k i q hq

theorem State.Like.outgoing_none (h : s.Like t) (x : Sub) : t.outgoingOf x = none ↔ s.outgoingOf x = none := by
  rw [← Option.isNone_iff_eq_none, ← Option.isNone_iff_eq_none, ← Option.not_isSome, ← Option.not_isSome, h.outgoing x]

theorem State.Like.idle (h : s.Like t) (x : Sub) : t.idle x ↔ s.idle x := by
  unfold State.idle; rw [h.hasCtx, h.txnsOf, h.outgoing_none]

theorem State.Like.serving (h : s.Like t) (x : Sub) : t.serving x = none ↔ s.serving x = none := by
  rw [← Option.isNone_iff_eq_none, ← Option.isNone_iff_eq_none, ← Option.not_isSome, ← Option.not_isSome]
  have := (h.cells x).1
  unfold State.serving
  rw [this]

theorem State.Like.contextsOk (h : s.Like t) (k : s.contextsOk) : t.contextsOk := by
  obtain ⟨k1, k2, k3, k4, k5, k6, k7, k8⟩ := k
  refine ⟨h.length.trans k1, fun i j hi hj => ?_, fun i j hi hj => ?_, by rw [h.stack]; exact k4, fun i => ?_, ?_, fun i hi => ?_, fun i p c hp ho hc => ?_⟩
  · rw [(h.ctx i).1] at hi; rw [(h.ctx j).1] at hj
    rw [(h.ctx i).2.1, (h.ctx j).2.1]; exact k2 i j hi hj
  · rw [(h.ctx i).1] at hi; rw [(h.ctx j).1] at hj
    exact k3 i j hi hj
  · rw [h.stack, (h.ctx i).1]; exact k5 i
  · have e : (fun i => (t.ctx i).state.moving) = fun i => (s.ctx i).state.moving := funext fun i => by rw [(h.ctx i).1]
    rw [h.stack, e]; exact k6
  · rw [(h.ctx i).1]; exact k7 i ((h.ctx i).2.2 hi)
  · obtain ⟨q, hq, hs, hown⟩ := h.txn hp
    rw [(h.ctx c).1] at hc
    rw [(h.ctx c).2.1, ← hs]; exact k8 i q c hq (hown.trans ho) hc

theorem State.Like.ordered (h : s.Like t) (k : s.Ordered) : t.Ordered where
  contexts := h.contextsOk k.contexts
  doze := fun hd i => by rw [(h.ctx i).1]; exact k.doze (h.host hd) i
  voice := by
    refine ⟨fun i hi => ?_, h.voice.2.trans (k.voice.2.trans ?_)⟩
    · rw [(h.ctx i).1] at hi
      rw [h.voice.1, (h.ctx i).2.1]; exact k.voice.1 i hi
    · exact forall_congr' fun i => by rw [(h.ctx i).1]
  apart := fun x hx => (h.idle _).2 (k.apart x (by rw [← h.hasCall]; exact hx))

theorem State.Like.sound (h : s.Like t) (k : s.Sound) : t.Sound where
  toOrdered := h.ordered k.toOrdered
  returns := fun x => (h.cells x).2 (k.returns x)
  served := fun x hx => (h.idle x).2 (k.served x ((h.serving x).1 hx))
  attached := fun x hx => (h.serving x).2 (k.attached x (by rw [← h.activity]; exact hx))

theorem State.Like.derivedActivity (h : s.Like t) (x : Sub) : t.derivedActivity x = s.derivedActivity x := by
  unfold State.derivedActivity
  have e1 : (t.serving x).isNone = (s.serving x).isNone := by
    rw [Bool.eq_iff_iff, Option.isNone_iff_eq_none, Option.isNone_iff_eq_none]; exact h.serving x
  have e2 : (t.txnsOf x).isEmpty = (s.txnsOf x).isEmpty := by
    rw [Bool.eq_iff_iff, List.isEmpty_iff, List.isEmpty_iff]; exact h.txnsOf x
  rw [h.activity, e1, h.hasCall, e2, h.hasCtx, h.outgoing]

theorem State.Like.settled (h : s.Like t) (x : Sub) : t.settled x ↔ s.settled x := by
  unfold State.settled; rw [h.activity, h.derivedActivity]

end Like

end Sys2Proof.Machine
end

section
/-! Sitting 2: the operations that change nothing the rules of the calls see (O59). -/

namespace Sys2Proof.Machine

/-! ### One block changed -/

section Blocks
variable {s t u : State}

/-- An operation that leaves these blocks alone. -/
theorem State.Like.keep (h : s.Like t)
    (k : u.cal = t.cal ∧ u.sge = t.sge ∧ u.sbs = t.sbs ∧ u.mob = t.mob ∧ u.vcp = t.vcp ∧ u.txt = t.txt ∧ u.hlc.host = t.hlc.host) : s.Like u := by
  obtain ⟨cal, sge, sbs, mob, vcp, txt, host⟩ := k
  exact h.trans {
    ctx := fun i => by unfold State.ctx; rw [cal]; exact .refl _
    length := by rw [cal]
    stack := by rw [cal]
    txns := fun i => by rw [sge]
    outgoing := fun x => by unfold State.outgoingOf; rw [txt]
    voice := by rw [vcp]; exact ⟨rfl, .rfl⟩
    host := by rw [host]; exact id
    cells := fun x => by unfold State.mobOf; rw [mob]; exact .refl _
    activity := fun x => by unfold State.activity State.record; rw [sbs] }

@[simp] theorem State.onClock_like (f : Clock → Clock) (h : s.Like t) : s.Like (t.onClock f) := h.keep (by simp)
@[simp] theorem State.onRpt_like (f : Rpt → Rpt) (h : s.Like t) : s.Like (t.onRpt f) := h.keep (by simp)
@[simp] theorem State.onRta_like (f : Rta → Rta) (h : s.Like t) : s.Like (t.onRta f) := h.keep (by simp)
@[simp] theorem State.onDlc_like (f : Dlc → Dlc) (h : s.Like t) : s.Like (t.onDlc f) := h.keep (by simp)
@[simp] theorem State.onPsc_like (f : Psc → Psc) (h : s.Like t) : s.Like (t.onPsc f) := h.keep (by simp)
@[simp] theorem State.onPscOf_like (x : Sub) (f : PscSub → PscSub) (h : s.Like t) : s.Like (t.onPscOf x f) := h.keep (by simp)
@[simp] theorem State.drivePins_like (h : s.Like t) : s.Like t.drivePins := h.keep (by simp)

theorem State.onSge_like {f : Sge → Sge} (h : s.Like t)
    (hf : ∀ i, (entryAt (f t.sge).txns i).map Txn.holder = (entryAt t.sge.txns i).map Txn.holder) : s.Like (t.onSge f) :=
  h.trans { State.Like.refl t with txns := hf }

/-- A change of SGE's queues, holds, counts or waiters. -/
@[simp] theorem State.onSge_like_of_txns {f : Sge → Sge} (h : s.Like t) (hf : ∀ g, (f g).txns = g.txns) : s.Like (t.onSge f) :=
  State.onSge_like h fun i => by rw [hf]

@[simp] theorem State.onRecord_like {x : Sub} {f : SubRecord → SubRecord} (h : s.Like t) (hf : ∀ r, (f r).activity = r.activity) :
    s.Like (t.onRecord x f) :=
  h.trans { State.Like.refl t with
    activity := fun y => by
      have e : (t.onRecord x f).record y = if y = x then f (t.record y) else t.record y := PerSub.get_upd ..
      unfold State.activity
      rw [e]
      split
      · exact hf _
      · rfl }

theorem State.onMobOf_like {x : Sub} {f : MobSub → MobSub} (h : s.Like t) (hf : (t.mobOf x).Like (f (t.mobOf x))) : s.Like (t.onMobOf x f) :=
  h.trans { State.Like.refl t with
    cells := fun y => by
      rw [State.onMobOf_mobOf]
      split
      · next e => subst e; exact hf
      · exact .refl _ }

/-- A change of MOB's other fields. -/
@[simp] theorem State.onMobOf_like_of_fields {x : Sub} {f : MobSub → MobSub} (h : s.Like t)
    (hf : ∀ m, (f m).serving = m.serving ∧ (f m).returnRec = m.returnRec ∧ (f m).hoState = m.hoState) : s.Like (t.onMobOf x f) := by
  obtain ⟨hs, hr, ha⟩ := hf (t.mobOf x)
  exact State.onMobOf_like h ⟨by rw [hs], by rw [hs, hr, ha]; exact id⟩

@[simp] theorem State.onCal_like {f : Cal → Cal} (h : s.Like t) (hf : ∀ c, (f c).contexts = c.contexts ∧ (f c).holdStack = c.holdStack) :
    s.Like (t.onCal f) :=
  h.trans { State.Like.refl t with
    ctx := fun i => by rw [State.ctx_congr (s := t) (t := t.onCal f) (hf t.cal).1]; exact .refl _
    length := congrArg _ (hf _).1
    stack := (hf _).2 }

/-- A context changed in what the rules do not see. -/
@[simp] theorem State.onCtx_like {i : Nat} {f : CallContext → CallContext} (h : s.Like t) (hf : ∀ c : CallContext, (f c).state = c.state ∧ (f c).sub = c.sub ∧ ((f c).connectWaiting = true → c.connectWaiting = true)) :
    s.Like (t.onCtx i f) :=
  h.trans { State.Like.refl t with
    ctx := fun j => by
      by_cases hi : i < t.cal.contexts.length
      · rw [State.onCtx_ctx hi]
        split
        · exact hf _
        · exact .refl _
      · have e : (t.onCtx i f).cal.contexts = t.cal.contexts := List.modify_eq_self (Nat.le_of_not_lt hi)
        rw [State.ctx_congr e]; exact .refl _
    length := State.onCtx_length f
    stack := rfl }

theorem State.onVcp_like {f : Vcp → Vcp} (h : s.Like t)
    (hf : (f t.vcp).call = t.vcp.call ∧ ((f t.vcp).playout = .stopped ↔ t.vcp.playout = .stopped)) : s.Like (t.onVcp f) :=
  h.trans { State.Like.refl t with voice := hf }

@[simp] theorem State.onTxt_like {f : Txt → Txt} (h : s.Like t) (hf : ∀ u, (f u).outgoing = u.outgoing) : s.Like (t.onTxt f) :=
  h.trans { State.Like.refl t with outgoing := fun x => by unfold State.outgoingOf; exact congrArg (fun p => (PerSub.get p x).isSome) (hf _) }

@[simp] theorem State.onHlc_like {f : Hlc → Hlc} (h : s.Like t) (hf : (f t.hlc).host = .dozing → t.hlc.host = .dozing) : s.Like (t.onHlc f) :=
  h.trans { State.Like.refl t with host := hf }

end Blocks

section Operations
variable {s t : State}

/-! ### Sleep -/

@[simp] theorem State.becomeAwake_like (h : s.Like t) : s.Like t.becomeAwake := h.keep (by simp)
@[simp] theorem State.enterWaking_like (h : s.Like t) : s.Like t.enterWaking := h.keep (by simp)
@[simp] theorem State.evaluate_like (h : s.Like t) : s.Like t.evaluate := h.keep (by simp)
@[simp] theorem State.recomputeWake_like (h : s.Like t) : s.Like t.recomputeWake := h.keep (by simp)
@[simp] theorem State.elapse_like (n : Nat) (h : s.Like t) : s.Like (t.elapse n) := h.keep (by simp)
@[simp] theorem State.sleepTick_like (h : s.Like t) : s.Like t.sleepTick := h.keep (by simp)

/-! ### The host-bound queue, the classifier -/

theorem State.offerEntry_host (e : HostEntry) (s : State) : (s.offerEntry e).hlc.host = s.hlc.host :=
  (State.offerEntry_evolves e (.refl s)).hlc.1

@[simp] theorem State.offerEntry_like (e : HostEntry) (h : s.Like t) : s.Like (t.offerEntry e) := h.keep (by simp [State.offerEntry_host])
@[simp] theorem State.report_like (r : Report) (h : s.Like t) : s.Like (t.report r) := State.offerEntry_like _ h
@[simp] theorem State.reportWake_like (r : Report) (h : s.Like t) : s.Like (t.reportWake r) := State.offerEntry_like _ h
@[simp] theorem State.pushResult_like (r : ResultFrame) (h : s.Like t) : s.Like (t.pushResult r) := h.keep (by simp)
@[simp] theorem State.reply_like (f : HostFrame) (request : Byte) (code : ResultCode) (data : List Byte) (h : s.Like t) :
    s.Like (t.reply f request code data) := h.keep (by simp)
@[simp] theorem State.setFilter_like (x : Sub) (isOpen : Bool) (h : s.Like t) : s.Like (t.setFilter x isOpen) := h.keep (by simp)
@[simp] theorem State.countFiltered_like (x : Sub) (h : s.Like t) : s.Like (t.countFiltered x) := h.keep (by simp)
@[simp] theorem State.countUnattributed_like (h : s.Like t) : s.Like t.countUnattributed := h.keep (by simp)
@[simp] theorem State.countStray_like (h : s.Like t) : s.Like t.countStray := by simp (maxDischargeDepth := 20) [State.countStray, h]
@[simp] theorem State.keepBeacon_like (x : Sub) (k : ClaimKind) (first : Frame) (b : BeaconBlock) (h : s.Like t) :
    s.Like (t.keepBeacon x k first b) := h.keep (by simp)
@[simp] theorem State.accessNotice_like (g : Holder) (good : Bool) (h : s.Like t) : s.Like (t.accessNotice g good) := h.keep (by simp)
@[simp] theorem State.holdResult_like (l : List (Option Int)) (h : s.Like t) : s.Like (t.holdResult l) := h.keep (by simp)
@[simp] theorem State.route_like (x : Sub) (frame : Frame) (b : SignalBlock) (h : s.Like t) : s.Like (t.route x frame b) := by
  unfold State.route; (repeat' split) <;> simp (maxDischargeDepth := 20) [h]
@[simp] theorem State.popInbound_like (h : s.Like t) : s.Like t.popInbound := State.onHlc_like h id
@[simp] theorem State.chooseOutbound_like (h : s.Like t) : s.Like t.chooseOutbound := by
  unfold State.chooseOutbound; (repeat' split) <;> simp (maxDischargeDepth := 20) [h]
@[simp] theorem State.finish_like (before : State) (h : s.Like t) : s.Like (before.finish t) := by
  unfold State.finish; dsimp only; split <;> simp (maxDischargeDepth := 20) [h]

/-! ### Claims -/

@[simp] theorem State.onClaim_like (i : Nat) (f : Claim → Claim) (h : s.Like t) : s.Like (t.onClaim i f) := h.keep (by simp)
@[simp] theorem State.settleClaim_like (i : Nat) (code : EndCode) (h : s.Like t) : s.Like (t.settleClaim i code) := h.keep (by simp)
@[simp] theorem State.place_like (x : Sub) (k : ClaimKind) (w : Window) (h : s.Like t) : s.Like (t.place x k w).2 := h.keep (by simp)
@[simp] theorem State.setAsked_like (l : Option (List (ClaimKind × Sub))) (h : s.Like t) : s.Like (t.setAsked l) := h.keep (by simp)
@[simp] theorem State.unask_like (x : Sub) (k : ClaimKind) (h : s.Like t) : s.Like (t.unask x k) := h.keep (by simp)
@[simp] theorem State.suspendClaim_like (x : Sub) (k : ClaimKind) (h : s.Like t) : s.Like (t.suspendClaim x k) := h.keep (by simp)
@[simp] theorem State.resumeClaim_like (x : Sub) (k : ClaimKind) (h : s.Like t) : s.Like (t.resumeClaim x k) := h.keep (by simp)
@[simp] theorem State.markUnitWithdrawn_like (h : s.Like t) : s.Like t.markUnitWithdrawn := h.keep (by simp)
@[simp] theorem State.freeClaim_like (i : Nat) (h : s.Like t) : s.Like (t.freeClaim i) := h.keep (by simp)
@[simp] theorem State.dropPurpose_like (x : Sub) (k : ClaimKind) (h : s.Like t) : s.Like (t.dropPurpose x k) := by
  unfold State.dropPurpose; split <;> simp (maxDischargeDepth := 20) [h]
@[simp] theorem State.withdraw_like (x : Sub) (k : ClaimKind) (h : s.Like t) : s.Like (t.withdraw x k) := by
  unfold State.withdraw; dsimp only; (repeat' split) <;> simp (maxDischargeDepth := 20) [h]
@[simp] theorem State.withdrawAll_like (x : Sub) (h : s.Like t) : s.Like (t.withdrawAll x) := by simp (maxDischargeDepth := 20) [State.withdrawAll, h]
@[simp] theorem State.ask_like (x : Sub) (k : ClaimKind) {now : State → State} (hn : ∀ u, s.Like u → s.Like (now u)) (h : s.Like t) :
    s.Like (t.ask x k now) := by
  unfold State.ask; (repeat' split) <;> simp (maxDischargeDepth := 20) [h, hn]
@[simp] theorem State.openWindows_like (h : s.Like t) : s.Like t.openWindows := h.keep (by simp)
@[simp] theorem State.recordHolder_like (h : s.Like t) : s.Like t.recordHolder := h.keep (by simp)

/-! ### Signalling -/

@[simp] theorem State.enqueue_like (x : Sub) (m : Msg) (h : s.Like t) : s.Like (t.enqueue x m) := by
  unfold State.enqueue; split <;> simp (maxDischargeDepth := 20) [h]

/-- A message without a transaction. -/
@[simp] theorem State.offerPlain_like (x : Sub) (owner : Option Owner) (echo : Ident) (body : UpBody) (h : s.Like t) :
    s.Like (t.offerPlain x owner echo body) := by
  unfold State.offerPlain State.offer
  dsimp only
  split <;> simp (maxDischargeDepth := 20) [h]

@[simp] theorem State.beginWait_like (w : WaitKind) (x : Sub) (h : s.Like t) : s.Like (t.beginWait w x) := by
  unfold State.beginWait; split <;> simp (maxDischargeDepth := 20) [h]
@[simp] theorem State.endWait_like (w : WaitKind) (x : Sub) (h : s.Like t) : s.Like (t.endWait w x) := by simp (maxDischargeDepth := 20) [State.endWait, h]
@[simp] theorem State.markWaiters_like (p : Waiter → Bool) (h : s.Like t) : s.Like (t.markWaiters p) := by simp (maxDischargeDepth := 20) [State.markWaiters, h]
@[simp] theorem State.clearDue_like (w : WaitKind) (x : Sub) (h : s.Like t) : s.Like (t.clearDue w x) := by simp (maxDischargeDepth := 20) [State.clearDue, h]
@[simp] theorem State.forgetHead_like (x : Sub) (h : s.Like t) : s.Like (t.forgetHead x) := h.keep (by simp)
@[simp] theorem State.dropQueued_like (x : Sub) (pos : Nat) (h : s.Like t) : s.Like (t.dropQueued x pos) := by
  unfold State.dropQueued; (repeat' split) <;> simp (maxDischargeDepth := 20) [h]
@[simp] theorem State.removeMessage_like (x : Sub) (ident : Ident) (h : s.Like t) : s.Like (t.removeMessage x ident) := by
  unfold State.removeMessage; split <;> simp (maxDischargeDepth := 20) [h]
@[simp] theorem State.emptyUplink_like (x : Sub) (h : s.Like t) : s.Like (t.emptyUplink x) := by simp (maxDischargeDepth := 20) [State.emptyUplink, h]
@[simp] theorem State.placeSignalling_like (x : Sub) (h : s.Like t) : s.Like (t.placeSignalling x) := h.keep (by simp)
@[simp] theorem State.reexamine_like (x : Sub) (h : s.Like t) : s.Like (t.reexamine x) := h.keep (by simp)

/-- A transaction changed in what the rules do not see. -/
@[simp] theorem State.onTxn_like (i : Nat) {f : Txn → Txn} (hf : ∀ p : Txn, (f p).sub = p.sub ∧ (f p).owner = p.owner) (h : s.Like t) :
    s.Like (t.onTxn i f) :=
  State.onSge_like h fun j => by
    dsimp only
    rw [entryAt_modify_map]
    split
    · cases entryAt t.sge.txns j <;> simp [Txn.holder, hf]
    · rfl

theorem State.onTxns_like {f : Txn → Txn} (hf : ∀ p : Txn, (f p).holder = p.holder) {g : Sge → Sge} (h : s.Like t)
    (hg : (g t.sge).txns = t.sge.txns.map (Option.map f)) : s.Like (t.onSge g) :=
  State.onSge_like h fun j => by
    rw [hg, entryAt_map]
    cases entryAt t.sge.txns j <;> simp [hf]

@[simp] theorem State.restartLinkIdle_like (x : Sub) (h : s.Like t) : s.Like (t.restartLinkIdle x) :=
  State.onTxns_like (fun p => by split <;> rfl) h rfl
@[simp] theorem State.headLeaves_like (x : Sub) (h : s.Like t) : s.Like (t.headLeaves x) := by
  unfold State.headLeaves
  dsimp only
  (repeat' split) <;> simp (maxDischargeDepth := 20) [h]
@[simp] theorem State.linkGranted_like (i : Nat) (h : s.Like t) : s.Like (t.linkGranted i) := by simp (maxDischargeDepth := 20) [State.linkGranted, h]

/-! ### Voice -/

@[simp] theorem State.trafficEnded_like (code : EndCode) (h : s.Like t) : s.Like (t.trafficEnded code) := by
  unfold State.trafficEnded
  cases code with
  | done | withdrawn => exact h
  | missed | denied | radioFault => exact State.onVcp_like h ⟨rfl, .rfl⟩

@[simp] theorem State.fillHole_like (x : Sub) (i : Nat) (position : Seq) (h : s.Like t) : s.Like (t.fillHole x i position) := by
  unfold State.fillHole
  dsimp only
  split
  · exact State.onVcp_like (h.keep ⟨rfl, rfl, rfl, rfl, rfl, rfl, rfl⟩) ⟨rfl, .rfl⟩
  · exact State.onVcp_like (h.keep ⟨rfl, rfl, rfl, rfl, rfl, rfl, rfl⟩) ⟨rfl, .rfl⟩

@[simp] theorem State.playoutBoundary_like (h : s.Like t) : s.Like t.playoutBoundary := by
  unfold State.playoutBoundary
  dsimp only
  split
  · next position _ _ =>
    have moved : s.Like (t.onVcp fun v => { v with position := some (position + 1) }) := State.onVcp_like h ⟨rfl, .rfl⟩
    (repeat' split)
    · exact h
    · exact State.fillHole_like _ _ _ h
    · exact h
    · exact State.onVcp_like (moved.keep ⟨rfl, rfl, rfl, rfl, rfl, rfl, rfl⟩) ⟨rfl, .rfl⟩
    · exact State.fillHole_like _ _ _ moved
    · exact State.fillHole_like _ _ _ moved
  · exact h

/-- What a VCP operation keeps for the rules. -/
def Vcp.Like (v w : Vcp) : Prop := w.call = v.call ∧ (w.playout = .stopped ↔ v.playout = .stopped)

theorem Vcp.Like.trans {a b c : Vcp} (h : a.Like b) (k : b.Like c) : a.Like c := ⟨k.1.trans h.1, k.2.trans h.2⟩

theorem Vcp.endFill_like (v : Vcp) : v.Like v.endFill := by
  unfold Vcp.endFill Vcp.Like
  split
  · next h => have := (Bool.and_eq_true_iff.1 h).1; simp_all
  · exact ⟨rfl, .rfl⟩

theorem Vcp.lateFrame_like (f : SpeechFrame) {v : Vcp} (h : v.playout ≠ .stopped) : v.Like (v.lateFrame f) := by
  unfold Vcp.lateFrame
  dsimp only
  split
  · refine Vcp.Like.trans ?_ (Vcp.endFill_like _)
    exact ⟨rfl, by simp [Vcp.firstOfFill, h]⟩
  · exact ⟨rfl, .rfl⟩

theorem Vcp.insertFrame_like (position : Seq) (f : SpeechFrame) (v : Vcp) : v.Like (v.insertFrame position f) := by
  unfold Vcp.insertFrame
  dsimp only
  split
  · exact ⟨rfl, .rfl⟩
  · split
    · exact Vcp.Like.trans ⟨rfl, .rfl⟩ (Vcp.endFill_like _)
    · exact Vcp.Like.trans ⟨rfl, .rfl⟩ (Vcp.endFill_like _)

theorem Vcp.goodVoice_like (x : Sub) (f : SpeechFrame) (v : Vcp) : v.Like (v.goodVoice x f) := by
  unfold Vcp.goodVoice
  split
  · exact ⟨rfl, .rfl⟩
  · next h =>
    split
    · exact Vcp.Like.trans ⟨rfl, .rfl⟩ (Vcp.endFill_like _)
    · split
      · exact Vcp.insertFrame_like ..
      · exact Vcp.lateFrame_like f (by simp_all)

theorem Vcp.upSpeech_like (x : Option Sub) (bytes : List Byte) (v : Vcp) : v.Like (v.upSpeech x bytes) := by
  unfold Vcp.upSpeech
  (repeat' split) <;> exact ⟨rfl, .rfl⟩

theorem Vcp.steal_like (v : Vcp) : v.Like v.steal := by unfold Vcp.steal; split <;> exact ⟨rfl, .rfl⟩

theorem Vcp.takeSpeech_like (v : Vcp) : v.Like v.takeSpeech.2 := by unfold Vcp.takeSpeech; split <;> exact ⟨rfl, .rfl⟩

@[simp] theorem State.voiceHandover_like (h : s.Like t) : s.Like t.voiceHandover := State.onVcp_like h ⟨rfl, .rfl⟩
@[simp] theorem State.voiceHandoverEnded_like (h : s.Like t) : s.Like t.voiceHandoverEnded := State.onVcp_like h ⟨rfl, .rfl⟩

/-! ### Paging -/

@[simp] theorem State.replaceMeasure_like (x : Sub) (h : s.Like t) : s.Like (t.replaceMeasure x) := h.keep (by simp)
@[simp] theorem State.withRelax_like (x : Sub) (f : PscSub → PscSub) (h : s.Like t) : s.Like (t.withRelax x f) := h.keep (by simp)
@[simp] theorem State.clearRelax_like (x : Sub) (h : s.Like t) : s.Like (t.clearRelax x) := h.keep (by simp)
@[simp] theorem State.giveServingLevel_like (x : Sub) (h : s.Like t) : s.Like (t.giveServingLevel x) := h.keep (by simp)
@[simp] theorem State.listenEnded_like (x : Sub) (code : EndCode) (first : Option Frame) (h : s.Like t) : s.Like (t.listenEnded x code first) :=
  h.keep (by simp [(State.listenEnded_evolves x code first (.refl t)).hlc.1])
@[simp] theorem State.tryPaging_like (x : Sub) (h : s.Like t) : s.Like (t.tryPaging x) :=
  h.keep (by simp [(State.tryPaging_evolves x (.refl t)).hlc.1])
@[simp] theorem State.placePaging_like (x : Sub) (h : s.Like t) : s.Like (t.placePaging x) :=
  h.keep (by simp [(State.placePaging_evolves x (.refl t)).hlc.1])
@[simp] theorem State.withdrawPaging_like (x : Sub) (h : s.Like t) : s.Like (t.withdrawPaging x) := by simp (maxDischargeDepth := 20) [State.withdrawPaging, h]
@[simp] theorem State.replacePaging_like (x : Sub) (h : s.Like t) : s.Like (t.replacePaging x) := h.keep (by simp)
@[simp] theorem State.recomputeSchedule_like (x : Sub) (h : s.Like t) : s.Like (t.recomputeSchedule x) := h.keep (by simp)
@[simp] theorem State.beginListen_like (x : Sub) (k : ClaimKind) (h : s.Like t) : s.Like (t.beginListen x k) := h.keep (by simp)
@[simp] theorem State.onListen_like (x : Sub) (first : Frame) (f : Listen → Listen) (h : s.Like t) : s.Like (t.onListen x first f) := h.keep (by simp)
@[simp] theorem State.setRelax_like (x : Sub) (thr factor margin : Nat) (h : s.Like t) : s.Like (t.setRelax x thr factor margin) := h.keep (by simp)

/-! ### Subscriber Store -/

@[simp] theorem State.updateStanding_like (x : Sub) (h : s.Like t) : s.Like (t.updateStanding x) := by
  unfold State.updateStanding; dsimp only; split <;> simp (maxDischargeDepth := 20) [h]
@[simp] theorem State.pendUpdate_like (x : Sub) (byPage : Bool) (h : s.Like t) : s.Like (t.pendUpdate x byPage) := by simp (maxDischargeDepth := 20) [State.pendUpdate, h]
@[simp] theorem State.dropUpdate_like (x : Sub) (h : s.Like t) : s.Like (t.dropUpdate x) := by simp (maxDischargeDepth := 20) [State.dropUpdate, h]
@[simp] theorem State.reject_like (x : Sub) (item : RejectItem) (h : s.Like t) : s.Like (t.reject x item) := by simp (maxDischargeDepth := 20) [State.reject, h]
@[simp] theorem State.areaAccepted_like (x : Sub) (area : Nat) (newAlias : Option AliasValue) (h : s.Like t) :
    s.Like (t.areaAccepted x area newAlias) := by
  unfold State.areaAccepted; dsimp only; split <;> simp (maxDischargeDepth := 20) [h]

/-! ### Calls -/

@[simp] theorem State.recordCause_like (i : Nat) (c : Cause) (h : s.Like t) : s.Like (t.recordCause i c) := by
  simp (maxDischargeDepth := 20) [State.recordCause, h]
@[simp] theorem State.reportEnded_like (i : Nat) (item : Option ErrorItem) (h : s.Like t) : s.Like (t.reportEnded i item) := by
  unfold State.reportEnded; dsimp only; split <;> simp (maxDischargeDepth := 20) [h]
@[simp] theorem State.answerPending_like (code : ResultCode) (h : s.Like t) : s.Like (t.answerPending code) := by
  unfold State.answerPending; split <;> simp (maxDischargeDepth := 20) [h]
@[simp] theorem State.unanswer_like (j : Nat) (h : s.Like t) : s.Like (t.unanswer j) := by
  unfold State.unanswer; split <;> simp (maxDischargeDepth := 20) [h]
@[simp] theorem State.failPending_like (x : Sub) (h : s.Like t) : s.Like (t.failPending x) := by
  unfold State.failPending; (repeat' split) <;> simp (maxDischargeDepth := 20) [h]
@[simp] theorem State.recordPending_like (p : PendingReq) (h : s.Like t) : s.Like (t.recordPending p) := by simp (maxDischargeDepth := 20) [State.recordPending, h]

/-- A return check that ends leaves no return record behind that was there before (R117). -/
theorem MobSub.endCheck_like (m : MobSub) :
    m.Like (if m.hoState == .returnCheck then { m with hoState := .none, returnCounter := 0 } else m) := by
  split
  · next h =>
    refine ⟨rfl, fun k r hr => ?_⟩
    have := (k r hr).1
    rw [this] at h
    cases h
  · exact .refl m

@[simp] theorem State.dropTraffic_like (x : Sub) (h : s.Like t) : s.Like (t.dropTraffic x) := by
  unfold State.dropTraffic
  split
  · exact h
  · exact State.onMobOf_like (by simp (maxDischargeDepth := 20) [h]) (MobSub.endCheck_like _)

@[simp] theorem State.trafficNotice_like (x : Sub) (h : s.Like t) : s.Like (t.trafficNotice x) := State.onMobOf_like h (MobSub.endCheck_like _)
@[simp] theorem State.noticeTraffic_like (g : Holder) (h : s.Like t) : s.Like (t.noticeTraffic g) := by
  unfold State.noticeTraffic; split <;> simp (maxDischargeDepth := 20) [h]

@[simp] theorem State.placeTraffic_like (x : Sub) (h : s.Like t) : s.Like (t.placeTraffic x) := by
  unfold State.placeTraffic
  dsimp only
  split
  · exact h
  · split <;> (have e := congrArg Prod.snd ‹_ = (_, _)›; dsimp only at e; subst e)
    · split <;> simp (maxDischargeDepth := 20) [h]
    · simp (maxDischargeDepth := 20) [h]

@[simp] theorem State.ctxProgress_like (i : Nat) (alert : Bool) (h : s.Like t) : s.Like (t.ctxProgress i alert) := by
  unfold State.ctxProgress; dsimp only; (repeat' split) <;> simp (maxDischargeDepth := 20) [h]

@[simp] theorem State.provisional_like (i : Nat) (p : Txn) (alert : Bool) (h : s.Like t) : s.Like (t.provisional i p alert) := by
  unfold State.provisional
  dsimp only
  split <;> simp (maxDischargeDepth := 20) [h]

/-! ### Texts -/

@[simp] theorem State.onText_like (i : Nat) (f : TextEntry → TextEntry) (h : s.Like t) : s.Like (t.onText i f) := by simp (maxDischargeDepth := 20) [State.onText, h]
@[simp] theorem State.freeText_like (i : Nat) (h : s.Like t) : s.Like (t.freeText i) := by unfold State.freeText; split <;> simp (maxDischargeDepth := 20) [h]
@[simp] theorem State.offerText_like (i : Nat) (h : s.Like t) : s.Like (t.offerText i) := by
  unfold State.offerText; (repeat' split) <;> simp (maxDischargeDepth := 20) [h]
@[simp] theorem State.offerTexts_like (h : s.Like t) : s.Like t.offerTexts := h.trans (State.Like.foldl (fun u i => by simp) _ (.refl t))
@[simp] theorem State.completeText_like (i : Nat) (d : Delivery) (h : s.Like t) : s.Like (t.completeText i d) := by simp (maxDischargeDepth := 20) [State.completeText, h]
@[simp] theorem State.ackText_like (x : Sub) (n : Ident) (h : s.Like t) : s.Like (t.ackText x n) := by simp (maxDischargeDepth := 20) [State.ackText, h]
@[simp] theorem State.nakText_like (x : Sub) (n : Ident) (item : ErrorItem) (h : s.Like t) : s.Like (t.nakText x n item) := by
  simp (maxDischargeDepth := 20) [State.nakText, h]
@[simp] theorem State.congested_like (x : Sub) (n : Ident) (h : s.Like t) : s.Like (t.congested x n) := by simp (maxDischargeDepth := 20) [State.congested, h]
@[simp] theorem State.checkWhole_like (i : Nat) (h : s.Like t) : s.Like (t.checkWhole i) := by
  unfold State.checkWhole; (repeat' split) <;> simp (maxDischargeDepth := 20) [h]
@[simp] theorem State.firstSegment_like (x : Sub) (n : Ident) (g : Segment) (h : s.Like t) : s.Like (t.firstSegment x n g) := by
  unfold State.firstSegment; dsimp only; (repeat' split) <;> simp (maxDischargeDepth := 20) [h]
@[simp] theorem State.laterSegment_like (x : Sub) (n : Ident) (i : Nat) (e : TextEntry) (g : Segment) (h : s.Like t) :
    s.Like (t.laterSegment x n i e g) := by
  unfold State.laterSegment; (repeat' split) <;> simp (maxDischargeDepth := 20) [h]
@[simp] theorem State.textSegment_like (x : Sub) (n : Ident) (g : Segment) (h : s.Like t) : s.Like (t.textSegment x n g) := by
  unfold State.textSegment; split <;> simp (maxDischargeDepth := 20) [h]
@[simp] theorem State.textDeadline_like (i : Nat) (h : s.Like t) : s.Like (t.textDeadline i) := by
  unfold State.textDeadline; (repeat' split) <;> simp (maxDischargeDepth := 20) [h]
@[simp] theorem State.detachTexts_like (x : Sub) (h : s.Like t) : s.Like (t.detachTexts x) := by
  unfold State.detachTexts
  dsimp only
  refine State.offerTexts_like (State.onHlc_like (State.Like.foldl (fun u i => by simp) _ h) id)

/-! ### Mobility -/

@[simp] theorem State.setCopy_like (x : Sub) (h : s.Like t) : s.Like (t.setCopy x) := h.keep (by simp)

theorem State.onServing_like (x : Sub) (f : Serving → Serving) (h : s.Like t) : s.Like (t.onServing x f) :=
  State.onMobOf_like h ⟨by simp, by simp⟩

@[simp] theorem MobSub.rerankAnew_fields (m : MobSub) :
    m.rerankAnew.serving = m.serving ∧ m.rerankAnew.returnRec = m.returnRec ∧ m.rerankAnew.hoState = m.hoState := by
  unfold MobSub.rerankAnew MobSub.rerank MobSub.clearTriggers; split <;> simp

@[simp] theorem State.servingSet_like (x : Sub) (h : s.Like t) : s.Like (t.servingSet x) := by
  simp (maxDischargeDepth := 20) [State.servingSet, State.onServing_like, h]
@[simp] theorem State.tryMeasure_like (x : Sub) (h : s.Like t) : s.Like (t.tryMeasure x) := by
  unfold State.tryMeasure
  dsimp only
  split <;> (have e := congrArg Prod.snd ‹_ = (_, _)›; dsimp only at e; subst e) <;> simp (maxDischargeDepth := 20) [h]
@[simp] theorem State.placeMeasure_like (x : Sub) (h : s.Like t) : s.Like (t.placeMeasure x) := State.ask_like _ _ (fun u k => by simp (maxDischargeDepth := 20) [k]) h
@[simp] theorem State.trySearch_like (x : Sub) (h : s.Like t) : s.Like (t.trySearch x) := by
  unfold State.trySearch
  dsimp only
  split <;> (have e := congrArg Prod.snd ‹_ = (_, _)›; dsimp only at e; subst e) <;> simp (maxDischargeDepth := 20) [h]
@[simp] theorem State.placeSearch_like (x : Sub) (h : s.Like t) : s.Like (t.placeSearch x) := State.ask_like _ _ (fun u k => by simp (maxDischargeDepth := 20) [k]) h
@[simp] theorem State.readFailed_like (x : Sub) (i c : Nat) (h : s.Like t) : s.Like (t.readFailed x i c) :=
  State.onMobOf_like_of_fields h fun m => by dsimp only; split <;> simp [MobSub.setTrigger]
@[simp] theorem State.readRefused_like (x : Sub) (h : s.Like t) : s.Like (t.readRefused x) := by
  unfold State.readRefused; dsimp only; split <;> simp (maxDischargeDepth := 20) [h]
@[simp] theorem State.tryRead_like (x : Sub) (h : s.Like t) : s.Like (t.tryRead x) := by
  unfold State.tryRead
  split <;> (have e := congrArg Prod.snd ‹_ = (_, _)›; dsimp only at e; subst e) <;> simp (maxDischargeDepth := 20) [h]
@[simp] theorem State.placeRead_like (x : Sub) (p : ReadPurpose) (h : s.Like t) : s.Like (t.placeRead x p) :=
  State.ask_like _ _ (fun u k => by simp (maxDischargeDepth := 20) [k]) (by simp [h])
@[simp] theorem State.refreshRead_like (x : Sub) (h : s.Like t) : s.Like (t.refreshRead x) := by
  unfold State.refreshRead; (repeat' split) <;> simp (maxDischargeDepth := 20) [h]
@[simp] theorem State.notActedOn_like (x : Sub) (h : s.Like t) : s.Like (t.notActedOn x) := by simp (maxDischargeDepth := 20) [State.notActedOn, h]
@[simp] theorem State.enterBusy_like (x : Sub) (h : s.Like t) : s.Like (t.enterBusy x) := by simp (maxDischargeDepth := 20) [State.enterBusy, h]
@[simp] theorem State.accessOver_like (x : Sub) (h : s.Like t) : s.Like (t.accessOver x) := by simp (maxDischargeDepth := 20) [State.accessOver, h]
@[simp] theorem State.replaceSearch_like (x : Sub) (h : s.Like t) : s.Like (t.replaceSearch x) := h.keep (by simp)

/-! ### Owners -/

@[simp] theorem State.passOutcome_like (p : Txn) (o : TxnOutcome) (h : s.Like t) : s.Like (t.passOutcome p o) := by
  unfold State.passOutcome; split <;> simp (maxDischargeDepth := 20) [h]
@[simp] theorem State.linkEnded_like (p : Txn) (o : TxnOutcome) (h : s.Like t) : s.Like (t.linkEnded p o) := by
  unfold State.linkEnded; dsimp only; split <;> simp (maxDischargeDepth := 20) [h]
@[simp] theorem State.reportEndedTxn_like (x : Sub) (o : TxnOutcome) (h : s.Like t) : s.Like (t.reportEndedTxn x o) := by
  unfold State.reportEndedTxn; split <;> simp (maxDischargeDepth := 20) [h]

/-! ### The arbiter and the orders -/

@[simp] theorem State.sendOrder_like (o : Order) (h : s.Like t) : s.Like (t.sendOrder o) := h.keep (by simp)
@[simp] theorem State.uplinkBlock_like (x : Sub) (k : ClaimKind) (h : s.Like t) : s.Like (t.uplinkBlock x k).2.2 := by
  unfold State.uplinkBlock
  dsimp only
  (repeat' split)
  · exact State.onVcp_like h (Vcp.steal_like _)
  · exact h
  · exact State.onVcp_like (f := fun _ => t.vcp.takeSpeech.2) h (Vcp.takeSpeech_like t.vcp)
  · exact h
@[simp] theorem MobSub.takeSearchFreq_fields (m : MobSub) : m.takeSearchFreq.2.serving = m.serving ∧
    m.takeSearchFreq.2.returnRec = m.returnRec ∧ m.takeSearchFreq.2.hoState = m.hoState := by
  unfold MobSub.takeSearchFreq; dsimp only; split <;> simp
@[simp] theorem State.orderCell_like (x : Sub) (k : ClaimKind) (h : s.Like t) : s.Like (t.orderCell x k).2 := by
  unfold State.orderCell
  split <;> try exact h
  exact State.onMobOf_like h ⟨by simp, by simp⟩
@[simp] theorem State.orderContent_like (x : Sub) (k : ClaimKind) (h : s.Like t) : s.Like (t.orderContent x k).2.2 := by
  unfold State.orderContent; split <;> simp (maxDischargeDepth := 20) [h]
@[simp] theorem State.startUnit_like (i : Nat) (c : Claim) (h : s.Like t) : s.Like (t.startUnit i c) := by simp (maxDischargeDepth := 20) [State.startUnit, h]
@[simp] theorem State.cleanAck_like (o : Order) (h : s.Like t) : s.Like (t.cleanAck o) := by
  unfold State.cleanAck; dsimp only; split <;> simp (maxDischargeDepth := 20) [h]
@[simp] theorem State.placeNow_like (k : ClaimKind) (x : Sub) (h : s.Like t) : s.Like (t.placeNow k x) := by
  unfold State.placeNow; split <;> simp (maxDischargeDepth := 20) [h]
@[simp] theorem State.takeTurn_like (e : ClaimKind × Sub) (h : s.Like t) : s.Like (t.takeTurn e) := by
  unfold State.takeTurn; (repeat' split) <;> simp (maxDischargeDepth := 20) [h]
@[simp] theorem State.takeStanding_like (h : s.Like t) : s.Like t.takeStanding := h.trans (State.Like.foldl (fun u e => by simp) _ (.refl t))

/-- The turns taken after what a step at a boundary does change no fact. -/
theorem State.inRankOrder_like {act : State → State} (h : s.Like (act (t.setAsked (some [])))) : s.Like (t.inRankOrder act) :=
  State.setAsked_like _ (h.trans (State.Like.foldl (fun u e => by simp) _ (.refl _)))

@[simp] theorem State.nextFrame_like (h : s.Like t) : s.Like t.nextFrame := by simp (maxDischargeDepth := 20) [State.nextFrame, h]

theorem Cal.count_ctx (c : Cal) (i : Nat) : ((c.contexts[i]?).getD Reset.context).Like ((c.count.contexts[i]?).getD Reset.context) := by
  simp only [Cal.count, List.getElem?_map]
  cases c.contexts[i]? with
  | none => exact .refl _
  | some k => dsimp only [Option.map_some, Option.getD_some]; split <;> exact ⟨rfl, rfl, id⟩

@[simp] theorem State.countTimers_like (h : s.Like t) : s.Like t.countTimers := by
  have sge : s.Like (t.onSge Sge.count) := State.onTxns_like (f := fun p => { p with answer := p.answer.map countDown, idle := p.idle.map countDown })
    (fun p => rfl) h rfl
  have cal : (t.onSge Sge.count).Like ((t.onSge Sge.count).onCal Cal.count) := { State.Like.refl (t.onSge Sge.count) with
    ctx := fun i => Cal.count_ctx ..
    length := by simp [Cal.count]
    stack := rfl }
  have txt : s.Like (((t.onSge Sge.count).onCal Cal.count).onTxt Txt.count) := State.onTxt_like (sge.trans cal) fun u => rfl
  refine State.onPsc_like _ (txt.trans { State.Like.refl _ with cells := fun x => ?_ })
  cases x <;> exact ⟨rfl, id⟩

/-! ### The host link -/

@[simp] theorem State.hostAwake_like (h : s.Like t) : s.Like t.hostAwake := by
  unfold State.hostAwake; split <;> simp (maxDischargeDepth := 20) [h]
@[simp] theorem State.badFrame_like (r : BadReason) (bytes : List Byte) (h : s.Like t) : s.Like (t.badFrame r bytes) := by simp (maxDischargeDepth := 20) [State.badFrame, h]
@[simp] theorem State.takeFrame_like (bytes : List Byte) (h : s.Like t) : s.Like (t.takeFrame bytes) := by
  unfold State.takeFrame; (repeat' split) <;> simp (maxDischargeDepth := 20) [h]
@[simp] theorem State.frameReceived_like (bytes : List Byte) (h : s.Like t) : s.Like (t.frameReceived bytes) := by
  unfold State.frameReceived; dsimp only; (repeat' split) <;> simp (maxDischargeDepth := 20) [h]
@[simp] theorem State.entrySent_like (h : s.Like t) : s.Like t.entrySent := by
  unfold State.entrySent
  refine State.offerTexts_like ?_
  split <;> simp (maxDischargeDepth := 20) [h]
@[simp] theorem State.frameSent_like (h : s.Like t) : s.Like t.frameSent := by
  unfold State.frameSent
  dsimp only
  refine State.onHlc_like ?_ id
  split
  · exact h
  · exact State.onHlc_like h id
  · exact State.onHlc_like h (by split <;> exact id)
  · exact State.entrySent_like h
@[simp] theorem State.outboundSent_like (h : s.Like t) : s.Like t.outboundSent := by
  unfold State.outboundSent; split <;> simp (maxDischargeDepth := 20) [h]
@[simp] theorem State.frameStart_like (h : s.Like t) : s.Like t.frameStart := by
  unfold State.frameStart State.frameWakes; (repeat' split) <;> simp (maxDischargeDepth := 20) [h]
@[simp] theorem State.readOnly_like (h : s.Like t) : s.Like t.readOnly := by unfold State.readOnly; (repeat' split) <;> simp (maxDischargeDepth := 20) [h]
@[simp] theorem State.transferOver_like (mid : Bool) (h : s.Like t) : s.Like (t.transferOver mid) := by
  unfold State.transferOver; split <;> simp (maxDischargeDepth := 20) [h]

end Operations

end Sys2Proof.Machine
end

section
/-! Sitting 2: the work of one subscription: its transactions, and the contexts that move, end and begin (O59). -/

namespace Sys2Proof.Machine

/-! ### Work of one subscription alone -/

/-- As much is under way for `x` as before. -/
def State.sameWork (x : Sub) (s t : State) : Prop :=
  t.hasCtx x = s.hasCtx x ∧ t.hasCall x = s.hasCall x ∧ (t.txnsOf x = [] ↔ s.txnsOf x = []) ∧ (t.outgoingOf x).isSome = (s.outgoingOf x).isSome

/-- `t`, with the calls in order, is what work of `x` alone makes of `s`: the facts of the other subscription, the cells and the recorded
activity states are as before. -/
structure State.Works (x : Sub) (s t : State) : Prop where
  ordered : t.Ordered
  other : State.sameWork x.other s t
  host : t.hlc.host = .dozing → s.hlc.host = .dozing
  cells : ∀ y, (s.mobOf y).Like (t.mobOf y)
  activity : ∀ y, t.activity y = s.activity y

theorem State.sameWork.trans {x : Sub} {s t u : State} (h : State.sameWork x s t) (k : State.sameWork x t u) : State.sameWork x s u := by
  obtain ⟨h1, h2, h3, h4⟩ := h
  obtain ⟨k1, k2, k3, k4⟩ := k
  exact ⟨k1.trans h1, k2.trans h2, k3.trans h3, k4.trans h4⟩

theorem State.sameWork.idle {x : Sub} {s t : State} (h : State.sameWork x s t) : t.idle x ↔ s.idle x := by
  obtain ⟨h1, -, h3, h4⟩ := h
  unfold State.idle
  rw [h1, h3, ← Option.isNone_iff_eq_none, ← Option.isNone_iff_eq_none, ← Option.not_isSome, ← Option.not_isSome, h4]

theorem State.Like.sameWork {s t : State} (h : s.Like t) (x : Sub) : State.sameWork x s t := ⟨h.hasCtx x, h.hasCall x, h.txnsOf x, h.outgoing x⟩

theorem State.Works.trans {x : Sub} {s t u : State} (h : s.Works x t) (k : t.Works x u) : s.Works x u where
  ordered := k.ordered
  other := h.other.trans k.other
  host := h.host ∘ k.host
  cells := fun y => (h.cells y).trans (k.cells y)
  activity := fun y => (k.activity y).trans (h.activity y)

theorem State.Like.works {s t : State} (h : s.Like t) (k : s.Ordered) (x : Sub) : s.Works x t where
  ordered := h.ordered k
  other := h.sameWork _
  host := h.host
  cells := h.cells
  activity := h.activity

theorem State.Works.like {x : Sub} {s t u : State} (h : s.Works x t) (k : t.Like u) : s.Works x u := h.trans (k.works h.ordered x)

theorem State.Works.refl {s : State} (k : s.Ordered) (x : Sub) : s.Works x s := (State.Like.refl s).works k x

theorem MobSub.Like.serving {s t : State} {x : Sub} (h : (s.mobOf x).Like (t.mobOf x)) : t.serving x = none ↔ s.serving x = none := by
  rw [← Option.isNone_iff_eq_none, ← Option.isNone_iff_eq_none, ← Option.not_isSome, ← Option.not_isSome]
  have := h.1
  unfold State.serving
  rw [this]

/-- Work of a subscription keeps the rules, if it begins none without service. -/
theorem State.Works.sound {x : Sub} {s t : State} (h : s.Works x t) (k : s.Sound) (hs : s.serving x = none → t.idle x) : t.Sound where
  toOrdered := h.ordered
  returns := fun y => (h.cells y).2 (k.returns y)
  served := fun y hy => by
    have hy := (h.cells y).serving.1 hy
    by_cases e : y = x
    · subst e; exact hs hy
    · obtain rfl := State.eq_other_of_ne e
      exact h.other.idle.2 (k.served _ hy)
  attached := fun y hy => (h.cells y).serving.2 (k.attached y (by rw [← h.activity]; exact hy))

theorem State.Works.sound_served {x : Sub} {s t : State} (h : s.Works x t) (k : s.Sound) (hs : s.serving x ≠ none) : t.Sound :=
  h.sound k fun hn => absurd hn hs

/-- The derived activity state depends on the work under way, on the serving cell, and on whether the subscription is attached (R20). -/
theorem State.sameWork.derivedActivity {x : Sub} {s t : State} (h : State.sameWork x s t) (serving : t.serving x = none ↔ s.serving x = none)
    (attached : t.activity x = .detached ↔ s.activity x = .detached) : t.derivedActivity x = s.derivedActivity x := by
  obtain ⟨h1, h2, h3, h4⟩ := h
  have e1 : (t.serving x).isNone = (s.serving x).isNone := by
    rw [Bool.eq_iff_iff, Option.isNone_iff_eq_none, Option.isNone_iff_eq_none]; exact serving
  have e2 : (t.txnsOf x).isEmpty = (s.txnsOf x).isEmpty := by
    rw [Bool.eq_iff_iff, List.isEmpty_iff, List.isEmpty_iff]; exact h3
  have e3 : (t.activity x == .detached) = (s.activity x == .detached) := by
    rw [Bool.eq_iff_iff, beq_iff_eq, beq_iff_eq]; exact attached
  unfold State.derivedActivity
  rw [e3, e1, h2, e2, h1, h4]

theorem State.Works.settled {x : Sub} {s t : State} (h : s.Works x t) : t.settled x.other ↔ s.settled x.other := by
  unfold State.settled
  rw [h.activity, h.other.derivedActivity (h.cells _).serving (by rw [h.activity])]

/-! ### Transactions opened and ended -/

/-- What an offer makes of the transaction table: nothing, or one more entry in a free place, of its subscription and owner (R5). -/
theorem State.offer_table (x : Sub) (o : Offer) (s : State) : (s.offer x o).2.sge.txns = s.sge.txns ∨
    ∃ i p, o.opens ≠ none ∧ entryAt s.sge.txns i = none ∧ p.sub = x ∧ p.owner = o.txnOwner ∧
      (s.offer x o).2.sge.txns = s.sge.txns.set i (some p) := by
  unfold State.offer
  split
  · exact .inl rfl
  · split
    · next k i hk hi =>
      exact .inr ⟨i, ⟨x, k, s.nextFreeIdent x, o.txnOwner, .queued, none, none, o.reason⟩, by rw [hk]; simp, (lowestFree_some hi).2, rfl, rfl,
        (State.enqueue_table ..).1⟩
    · exact .inl (State.enqueue_table ..).1

theorem State.txnsOf_set_other {s t : State} {x y : Sub} {i : Nat} {v : Option Txn} (h : t.sge.txns = s.sge.txns.set i v) (hxy : y ≠ x)
    (hv : ∀ p, v = some p → p.sub = x) (ho : ∀ p, entryAt s.sge.txns i = some p → p.sub = x) : t.txnsOf y = [] ↔ s.txnsOf y = [] := by
  rw [State.txnsOf_nil_iff, State.txnsOf_nil_iff, h]
  constructor
  · intro k j p hp hy
    refine k j p ?_ hy
    by_cases e : i = j
    · subst e; exact absurd (hy.symm.trans (ho p hp)) hxy
    · rw [entryAt_set_other _ _ _ _ e]; exact hp
  · intro k j p hp hy
    rw [entryAt_set] at hp
    split at hp
    · exact hxy (hy.symm.trans (hv p hp))
    · exact k j p hp hy

section Table
variable {s t : State} {x : Sub} {i : Nat} {v : Option Txn}

/-- One entry of the transaction table written, taken or free, for `x`. -/
theorem State.Ordered.setTxn (k : s.Ordered) (table : t.sge.txns = s.sge.txns.set i v) (hv : ∀ p, v = some p → p.sub = x)
    (ho : ∀ p, entryAt s.sge.txns i = some p → p.sub = x) (hc : v ≠ none → s.hasCall x.other = false)
    (hown : ∀ p c, v = some p → p.owner = .ctx c → (s.ctx c).state ≠ .idle → (s.ctx c).sub = x)
    (cal : t.cal = s.cal := by simp) (vcp : t.vcp = s.vcp := by simp) (txt : t.txt = s.txt := by simp) (mob : t.mob = s.mob := by simp)
    (sbs : t.sbs = s.sbs := by simp) (host : t.hlc.host = s.hlc.host := by simp) : s.Works x t := by
  have ctx : ∀ j, t.ctx j = s.ctx j := State.ctx_congr (congrArg (·.contexts) cal)
  have hasCtx : ∀ y, t.hasCtx y = s.hasCtx y := fun y => by unfold State.hasCtx State.ctxOf; simp only [ctx]
  have hasCall : ∀ y, t.hasCall y = s.hasCall y := fun y => by unfold State.hasCall State.ctxOf; simp only [ctx]
  have outgoing : ∀ y, t.outgoingOf y = s.outgoingOf y := fun y => by unfold State.outgoingOf; rw [txt]
  have others : ∀ y, y ≠ x → (t.txnsOf y = [] ↔ s.txnsOf y = []) := fun y hy => State.txnsOf_set_other table hy hv ho
  obtain ⟨k1, k2, k3, k4, k5, k6, k7, k8⟩ := k.contexts
  refine ⟨⟨⟨?_, ?_, ?_, ?_, ?_, ?_, ?_, ?_⟩, ?_, ⟨?_, ?_⟩, ?_⟩, ⟨hasCtx _, hasCall _, others _ (other_ne x), by rw [outgoing]⟩, by rw [host]; exact id,
    fun y => by unfold State.mobOf; rw [mob]; exact .refl _, fun y => by unfold State.activity State.record; rw [sbs]⟩
  · rw [cal]; exact k1
  · simp only [ctx]; exact k2
  · simp only [ctx]; exact k3
  · rw [cal]; exact k4
  · simp only [ctx, cal]; exact k5
  · simp only [ctx, cal]; exact k6
  · simp only [ctx]; exact k7
  · intro j p c hp hw hi
    rw [ctx] at hi ⊢
    rw [table, entryAt_set] at hp
    split at hp
    · rw [hown p c hp hw hi, hv p hp]
    · exact k8 j p c hp hw hi
  · intro hd j; rw [ctx]; exact k.doze (by rw [← host]; exact hd) j
  · simp only [ctx, vcp]; exact k.voice.1
  · simp only [ctx, vcp]; exact k.voice.2
  · intro y hy
    rw [hasCall] at hy
    obtain ⟨a, b, c⟩ := k.apart y hy
    refine ⟨by rw [hasCtx]; exact a, ?_, by rw [outgoing]; exact c⟩
    by_cases e : y.other = x
    · have hy' : y = x.other := by rw [← e, other_other]
      cases v with
      | none =>
        rw [State.txnsOf_nil_iff, table]
        intro j p hp
        rw [entryAt_set] at hp
        split at hp
        · cases hp
        · exact (State.txnsOf_nil_iff s _).1 b j p hp
      | some p => rw [hy', hc (by simp)] at hy; cases hy
    · exact (others _ e).2 b

/-- An offer is work of its subscription; it may open a transaction while the other has no established call. -/
theorem State.offer_works (k : s.Ordered) (o : Offer) (hc : o.opens ≠ none → s.hasCall x.other = false)
    (hown : ∀ c, o.txnOwner = .ctx c → (s.ctx c).state ≠ .idle → (s.ctx c).sub = x) : s.Works x (s.offer x o).2 := by
  rcases State.offer_table x o s with e | ⟨i, p, ho, hi, hp, hw, e⟩
  · have like : s.Like (s.offer x o).2 := (State.Like.refl s).trans
      { State.Like.keep (u := { (s.offer x o).2 with sge := s.sge }) (.refl s) (by simp) with txns := fun j => by rw [e] }
    exact like.works k x
  · exact k.setTxn e (fun q hq => by cases hq; exact hp) (fun q hq => by rw [hi] at hq; cases hq) (fun _ => hc ho)
      (fun q c hq hqc hi => by cases hq; exact hown c (hw ▸ hqc) hi)

/-- A transaction freed is work of its subscription. -/
theorem State.freeTxn_works (k : s.Ordered) {p : Txn} (hp : entryAt s.sge.txns i = some p) : s.Works p.sub (s.freeTxn i) :=
  k.setTxn (v := none) (State.freeTxn_table hp).1 (fun _ h => by cases h) (fun q hq => by rw [hp] at hq; cases hq; rfl) (fun h => absurd rfl h)
    (fun _ _ h => by cases h)

end Table

/-! ### A context replaced -/

/-- The hold stack once context `i` is in a state (R130). -/
def State.stackAfter (s : State) (i : Nat) (st : CallState) : List Nat :=
  if (s.ctx i).state = .held then (if st = .held then s.cal.holdStack else s.cal.holdStack.filter (· != i))
  else if st = .held then s.cal.holdStack ++ [i] else s.cal.holdStack

/-- Context `c` may stand at index `i` (R119, R127, R130, R136, R138). -/
structure State.Fits (s : State) (i : Nat) (c : CallContext) : Prop where
  sub : c.state ≠ .idle → ∀ j, j ≠ i → (s.ctx j).state ≠ .idle → (s.ctx j).sub = c.sub
  only : c.state.inProgress = true → ∀ j, j ≠ i → (s.ctx j).state.inProgress = false
  held : c.state = .held → (s.ctx i).state.moving = true
  holding : c.state = .holding → s.cal.holdStack.length < 2
  resuming : c.state = .resuming → (s.ctx i).state = .held
  active : c.state = .active → (s.ctx i).state ≠ .active
  waits : c.connectWaiting = true → c.state = .originating ∨ c.state = .connecting
  txns : c.state ≠ .idle → ∀ j p, entryAt s.sge.txns j = some p → p.owner = .ctx i → c.sub = p.sub
  host : c.state.keepsHost = true → s.hlc.host ≠ .dozing
  apart : c.state.established = true → s.idle c.sub.other

/-- The Voice Path starts and stops with ACTIVE (R138). -/
def Vcp.follows (v w : Vcp) (i : Nat) (old : CallState) (c : CallContext) : Prop :=
  (c.state = .active → w.call = some (c.sub, i) ∧ w.playout ≠ .stopped) ∧
    (old = .active → c.state ≠ .active → w.playout = .stopped) ∧
    (old ≠ .active → c.state ≠ .active → w.call = v.call ∧ w.playout = v.playout)

theorem CallState.inProgress_of_moving {c : CallState} (h : c.moving = true) : c.inProgress = true := by revert h; cases c <;> decide

theorem State.stackAfter_mem (s : State) (i : Nat) (st : CallState) (k : ∀ j, j ∈ s.cal.holdStack ↔ (s.ctx j).state = .held) (j : Nat) :
    j ∈ s.stackAfter i st ↔ (if i = j then st else (s.ctx j).state) = .held := by
  unfold State.stackAfter
  by_cases e : i = j
  · subst e
    rw [if_pos rfl]
    (repeat' split) <;> simp_all
  · have e' : ¬ j = i := fun h => e h.symm
    rw [if_neg e]
    (repeat' split) <;> simp_all

theorem State.stackAfter_nodup (s : State) (i : Nat) (st : CallState) (n : s.cal.holdStack.Nodup)
    (k : ∀ j, j ∈ s.cal.holdStack ↔ (s.ctx j).state = .held) : (s.stackAfter i st).Nodup := by
  unfold State.stackAfter
  (repeat' split)
  · exact n
  · exact n.filter _
  · next h _ =>
    refine List.nodup_append.2 ⟨n, List.nodup_singleton i, fun a ha b hb => ?_⟩
    rintro rfl
    rw [List.mem_singleton] at hb
    subst hb
    exact h ((k a).1 ha)
  · exact n

/-- There is room on the hold stack for the contexts held, held next or resumed (R130). -/
theorem State.stackAfter_room {s : State} (k : s.Ordered) {i : Nat} (hi : i < 3) {c : CallContext} (f : s.Fits i c) :
    (s.stackAfter i c.state).length + (if (ctxIndexes.any fun j => (if i = j then c else s.ctx j).state.moving) = true then 1 else 0) ≤ 2 := by
  obtain ⟨-, -, unique, nodup, mem, room, -, -⟩ := k.contexts
  have others : (s.ctx i).state.inProgress = true → ∀ j, j ≠ i → (s.ctx j).state.moving = false := fun h j hj => by
    by_contra hm
    exact hj (unique j i (CallState.inProgress_of_moving (Bool.of_not_eq_false hm)) h)
  have index : ∀ j, j ∈ ctxIndexes ↔ j < 3 := fun j => by simp [ctxIndexes]; omega
  have movingAfter : (∀ j, j ≠ i → (s.ctx j).state.moving = false) → c.state.moving = false →
      (ctxIndexes.any fun j => (if i = j then c else s.ctx j).state.moving) = false := fun h hc =>
    List.any_eq_false.2 fun j _ => by
      by_cases e : i = j
      · rw [if_pos e, hc]; exact Bool.false_ne_true
      · rw [if_neg e, h j fun h => e h.symm]; exact Bool.false_ne_true
  by_cases hh : c.state = .held
  · have mv := f.held hh
    have prog := CallState.inProgress_of_moving mv
    have nh : (s.ctx i).state ≠ .held := fun e => by rw [e] at mv; cases mv
    have before : (ctxIndexes.any fun j => (s.ctx j).state.moving) = true := List.any_eq_true.2 ⟨i, (index i).2 hi, mv⟩
    rw [movingAfter (others prog) (by rw [hh]; rfl)]
    rw [before] at room
    unfold State.stackAfter
    rw [if_neg nh, if_pos hh, List.length_append, List.length_singleton, if_neg Bool.false_ne_true]
    simpa using room
  · have shorter : (s.stackAfter i c.state).length ≤ s.cal.holdStack.length := by
      unfold State.stackAfter
      rw [if_neg hh, if_neg hh]
      split
      · exact List.length_filter_le ..
      · exact Nat.le_refl _
    by_cases hg : c.state = .holding
    · have := f.holding hg
      split <;> omega
    by_cases hr : c.state = .resuming
    · have was := f.resuming hr
      have inStack : i ∈ s.cal.holdStack := (mem i).2 was
      have less : (s.stackAfter i c.state).length < s.cal.holdStack.length := by
        unfold State.stackAfter
        rw [if_pos was, if_neg hh]
        exact List.length_filter_lt_length_iff_exists.2 ⟨i, inStack, by simp⟩
      have : s.cal.holdStack.length ≤ 2 := Nat.le_trans (Nat.le_add_right ..) room
      split <;> omega
    · have still : c.state.moving = false := by revert hg hr; cases c.state <;> decide
      have mono : (ctxIndexes.any fun j => (if i = j then c else s.ctx j).state.moving) = true →
          (ctxIndexes.any fun j => (s.ctx j).state.moving) = true := fun h => by
        obtain ⟨j, hj, hm⟩ := List.any_eq_true.1 h
        by_cases e : i = j
        · rw [if_pos e, still] at hm; cases hm
        · rw [if_neg e] at hm; exact List.any_eq_true.2 ⟨j, hj, hm⟩
      split
      · next h => rw [if_pos (mono h)] at room; omega
      · omega

section Replace
variable {s t : State} {i : Nat} {c : CallContext} {x : Sub}

/-- Whether contexts of `y` are taken, or hold a call, once `c` stands at index `i`. -/
theorem State.any_replaced (ctx : ∀ j, t.ctx j = if i = j then c else s.ctx j) (y : Sub) (hold : s.ctxOf y i = false)
    (hc : c.state ≠ .idle → c.sub ≠ y) : t.hasCtx y = s.hasCtx y ∧ t.hasCall y = s.hasCall y := by
  have ctxOf : ∀ j, t.ctxOf y j = s.ctxOf y j ∧ (s.ctxOf y j = true → t.ctx j = s.ctx j) := fun j => by
    by_cases e : i = j
    · subst e
      refine ⟨?_, fun h => by rw [hold] at h; cases h⟩
      rw [hold]
      unfold State.ctxOf
      rw [ctx, if_pos rfl]
      by_cases hi : c.state = .idle
      · simp [hi]
      · simp [hc hi]
    · have same : t.ctx j = s.ctx j := by rw [ctx, if_neg e]
      unfold State.ctxOf
      rw [same]
      exact ⟨rfl, fun _ => rfl⟩
  refine ⟨congrArg (List.any ctxIndexes) (funext fun j => (ctxOf j).1), congrArg (List.any ctxIndexes) (funext fun j => ?_)⟩
  rw [(ctxOf j).1]
  cases h : s.ctxOf y j
  · rfl
  · rw [(ctxOf j).2 h]

/-- A context that fits is replaced: the calls stay in order, and it is work of its subscription. -/
theorem State.Ordered.replaceCtx (k : s.Ordered) (hi : i < 3) (f : s.Fits i c) (ctx : ∀ j, t.ctx j = if i = j then c else s.ctx j)
    (length : t.cal.contexts.length = s.cal.contexts.length) (stack : t.cal.holdStack = s.stackAfter i c.state)
    (voice : s.vcp.follows t.vcp i (s.ctx i).state c) (hold : s.ctxOf x.other i = false) (hx : c.state ≠ .idle → c.sub = x)
    (txns : t.sge.txns = s.sge.txns := by simp) (txt : t.txt.outgoing = s.txt.outgoing := by simp) (host : t.hlc.host = s.hlc.host := by simp)
    (cells : ∀ y, (s.mobOf y).Like (t.mobOf y) := by intro y; exact .refl _) (sbs : t.sbs = s.sbs := by simp) : s.Works x t := by
  obtain ⟨k1, k2, k3, k4, k5, k6, k7, k8⟩ := k.contexts
  have ctx_ne : ∀ {j}, j ≠ i → t.ctx j = s.ctx j := fun h => by rw [ctx, if_neg fun e => h e.symm]
  have ctx_self : t.ctx i = c := by rw [ctx, if_pos rfl]
  have outgoing : ∀ y, t.outgoingOf y = s.outgoingOf y := fun y => by unfold State.outgoingOf; rw [txt]
  have txnsOf : ∀ y, t.txnsOf y = s.txnsOf y := fun y => by unfold State.txnsOf State.openTxns; rw [txns]
  have work := State.any_replaced ctx x.other hold fun h => by rw [hx h]; exact (other_ne x).symm
  refine ⟨⟨⟨length.trans k1, fun a b ha hb => ?_, fun a b ha hb => ?_, ?_, fun j => ?_, ?_, fun j hj => ?_, fun j p d hp hw hd => ?_⟩,
    fun hd j => ?_, ⟨fun j hj => ?_, ?_⟩, fun y hy => ?_⟩, ⟨work.1, work.2, by rw [txnsOf], by rw [outgoing]⟩, by rw [host]; exact id, cells,
    fun y => by unfold State.activity State.record; rw [sbs]⟩
  · by_cases ea : a = i <;> by_cases eb : b = i
    · rw [ea, eb]
    · subst ea; rw [ctx_self] at ha ⊢; rw [ctx_ne eb] at hb ⊢; exact (f.sub ha b eb hb).symm
    · subst eb; rw [ctx_self] at hb ⊢; rw [ctx_ne ea] at ha ⊢; exact f.sub hb a ea ha
    · rw [ctx_ne ea] at ha ⊢; rw [ctx_ne eb] at hb ⊢; exact k2 a b ha hb
  · by_cases ea : a = i <;> by_cases eb : b = i
    · rw [ea, eb]
    · subst ea; rw [ctx_self] at ha; rw [ctx_ne eb, f.only ha b eb] at hb; cases hb
    · subst eb; rw [ctx_self] at hb; rw [ctx_ne ea, f.only hb a ea] at ha; cases ha
    · rw [ctx_ne ea] at ha; rw [ctx_ne eb] at hb; exact k3 a b ha hb
  · rw [stack]; exact s.stackAfter_nodup i _ k4 k5
  · rw [stack, s.stackAfter_mem i _ k5, ctx]; split <;> rfl
  · rw [stack]
    have := State.stackAfter_room k hi f
    simpa only [ctx] using this
  · by_cases e : j = i
    · subst e; rw [ctx_self] at hj ⊢; exact f.waits hj
    · rw [ctx_ne e] at hj ⊢; exact k7 j hj
  · rw [txns] at hp
    by_cases e : d = i
    · subst e; rw [ctx_self] at hd ⊢; exact f.txns hd j p hp hw
    · rw [ctx_ne e] at hd ⊢; exact k8 j p d hp hw hd
  · rw [host] at hd
    by_cases e : j = i
    · subst e; rw [ctx_self]; by_contra hk; exact f.host (Bool.of_not_eq_false hk) hd
    · rw [ctx_ne e]; exact k.doze hd j
  · obtain ⟨v1, -, v3⟩ := voice
    by_cases e : j = i
    · subst e; rw [ctx_self] at hj ⊢; exact (v1 hj).1
    · rw [ctx_ne e] at hj ⊢
      have prog : (s.ctx j).state.inProgress = true := by rw [hj]; rfl
      have old : (s.ctx i).state ≠ .active := fun h => e (k3 j i prog (by rw [h]; rfl))
      have new : c.state ≠ .active := fun h => by
        have := f.only (by rw [h]; rfl) j e
        rw [prog] at this; cases this
      rw [(v3 old new).1]; exact k.voice.1 j hj
  · obtain ⟨v1, v2, v3⟩ := voice
    by_cases new : c.state = .active
    · exact ⟨fun h => absurd h (v1 new).2, fun h => absurd (by rw [ctx_self]; exact new) (h i)⟩
    by_cases old : (s.ctx i).state = .active
    · refine ⟨fun _ j hj => ?_, fun _ => v2 old new⟩
      by_cases e : j = i
      · subst e; rw [ctx_self] at hj; exact new hj
      · rw [ctx_ne e] at hj; exact e (k3 j i (by rw [hj]; rfl) (by rw [old]; rfl))
    · rw [(v3 old new).2, k.voice.2]
      refine forall_congr' fun j => ?_
      by_cases e : j = i
      · subst e; rw [ctx_self]; exact ⟨fun _ => new, fun _ => old⟩
      · rw [ctx_ne e]
  · obtain ⟨j, hj, hc⟩ := List.any_eq_true.1 hy
    obtain ⟨hown, hest⟩ := Bool.and_eq_true_iff.1 hc
    obtain ⟨hne, hsub⟩ := Bool.and_eq_true_iff.1 hown
    have hne : (t.ctx j).state ≠ .idle := by simpa using hne
    have hsub : (t.ctx j).sub = y := by simpa using hsub
    have before : s.idle y.other := by
      by_cases e : j = i
      · subst e; rw [ctx_self] at hest hsub; rw [← hsub]; exact f.apart hest
      · rw [ctx_ne e] at hne hsub hest
        refine k.apart y (List.any_eq_true.2 ⟨j, hj, Bool.and_eq_true_iff.2 ⟨?_, hest⟩⟩)
        unfold State.ctxOf
        simp [hne, hsub]
    obtain ⟨b1, b2, b3⟩ := before
    refine ⟨?_, by rw [txnsOf]; exact b2, by rw [outgoing]; exact b3⟩
    have held : s.ctxOf y.other i = false := by
      by_contra h
      have : s.hasCtx y.other = true := List.any_eq_true.2 ⟨i, by simp [ctxIndexes]; omega, Bool.of_not_eq_false h⟩
      rw [b1] at this; cases this
    rw [(State.any_replaced ctx y.other held fun hidle => ?_).1, b1]
    by_cases e : j = i
    · subst e; rw [ctx_self] at hsub; rw [hsub]; exact (other_ne y).symm
    · rw [ctx_ne e] at hne hsub
      rw [← f.sub hidle j e hne, hsub]; exact (other_ne y).symm

end Replace

end Sys2Proof.Machine
end

section
/-! Sitting 2: the Call Unit keeps the calls in order (O59). -/

namespace Sys2Proof.Machine

/-! ### Contexts that move -/

section Moves
variable {s : State} {i : Nat} {x : Sub}

theorem State.moveCtx_stack (s : State) (i : Nat) (st : CallState) : (s.moveCtx i st).cal.holdStack = s.stackAfter i st := by
  have voice : ∀ (u : State) (p q : Prop) [Decidable p] [Decidable q] (y : Sub),
      (if p then u.voiceStart y i else if q then u.voiceStop else u).cal.holdStack = u.cal.holdStack := by
    intro u p q _ _ y; (repeat' split) <;> rfl
  unfold State.moveCtx State.stackAfter
  dsimp only
  rw [voice]
  by_cases h1 : (s.ctx i).state = .held <;> by_cases h2 : st = .held
  all_goals simp [h1, h2, State.onCal, State.onCtx]

theorem State.moveCtx_voice {st : CallState} (hi : i < s.cal.contexts.length) (h : st = .active → (s.ctx i).state ≠ .active) :
    s.vcp.follows (s.moveCtx i st).vcp i (s.ctx i).state { s.ctx i with state := st } := by
  have sub : ∀ t : State, t.cal.contexts = (s.onCtx i fun c => { c with state := st }).cal.contexts → (t.ctx i).sub = (s.ctx i).sub := fun t e => by
    rw [State.ctx_congr e, State.onCtx_ctx hi, if_pos rfl]
  unfold State.moveCtx
  dsimp only
  by_cases new : st = .active
  · have was : (s.ctx i).state ≠ .active := h new
    have onHold : ¬ (st == .held && (s.ctx i).state != .held) = true := by rw [new]; simp
    rw [if_neg onHold, if_pos (by simp [new, was])]
    refine ⟨fun _ => ⟨?_, ?_⟩, fun h => absurd h was, fun _ hn => absurd new hn⟩
    · split <;> simp [State.voiceStart, sub, State.onCal]
    · split <;> simp [State.voiceStart]
  · by_cases was : (s.ctx i).state = .active
    · refine ⟨fun hn => absurd hn new, fun _ _ => ?_, fun hn => absurd was hn⟩
      rw [if_neg (by simp [new]), if_pos (by simp [new, was])]
      simp [State.voiceStop]
    · refine ⟨fun hn => absurd hn new, fun hw => absurd hw was, fun _ _ => ?_⟩
      rw [if_neg (by simp [new]), if_neg (by simp [was])]
      (repeat' split) <;> exact ⟨rfl, rfl⟩

@[simp] theorem State.moveCtx_host (s : State) (i : Nat) (st : CallState) : (s.moveCtx i st).hlc.host = s.hlc.host :=
  (State.moveCtx_evolves i st (.refl s)).hlc.1

/-- Context `i` is one for `x`: no context, transaction or call of the other subscription stands against it (R119, R127). -/
structure State.Belongs (s : State) (x : Sub) (i : Nat) : Prop where
  lt : i < 3
  sub : (s.ctx i).sub = x
  contexts : ∀ j, j ≠ i → (s.ctx j).state ≠ .idle → (s.ctx j).sub = x
  txns : ∀ j p, entryAt s.sge.txns j = some p → p.owner = .ctx i → p.sub = x
  apart : s.hasCall x.other = false

theorem State.ctx_lt {s : State} (k : s.contextsOk) {i : Nat} (h : (s.ctx i).state ≠ .idle) : i < 3 := by
  by_contra hi
  refine h ?_
  unfold State.ctx
  rw [List.getElem?_eq_none (by rw [k.1]; omega)]
  rfl

theorem State.ctxOf_of (h : (s.ctx i).state ≠ .idle) : s.ctxOf (s.ctx i).sub i = true := by unfold State.ctxOf; simp [h]

theorem State.hasCtx_of (k : s.contextsOk) (h : (s.ctx i).state ≠ .idle) : s.hasCtx (s.ctx i).sub = true :=
  List.any_eq_true.2 ⟨i, by have := State.ctx_lt k h; simp [ctxIndexes]; omega, State.ctxOf_of h⟩

/-- A context that is taken belongs to its subscription. -/
theorem State.Ordered.belongs (k : s.Ordered) (h : (s.ctx i).state ≠ .idle) (hx : (s.ctx i).sub = x) : s.Belongs x i where
  lt := State.ctx_lt k.contexts h
  sub := hx
  contexts := fun j _ hj => (k.contexts.2.1 j i hj h).trans hx
  txns := fun j p hp ho => (k.contexts.2.2.2.2.2.2.2 j p i hp ho h).symm.trans hx
  apart := by
    by_contra hc
    have quiet := (k.apart x.other (Bool.of_not_eq_false hc)).1
    have some := State.hasCtx_of k.contexts h
    rw [other_other, ← hx] at quiet
    rw [quiet] at some
    cases some

/-- A call of `x` leaves nothing of the other subscription under way. -/
theorem State.Ordered.apart_of (k : s.Ordered) (h : (s.ctx i).state.established = true) : s.idle (s.ctx i).sub.other := by
  have ne : (s.ctx i).state ≠ .idle := fun e => by rw [e] at h; cases h
  refine k.apart _ (List.any_eq_true.2 ⟨i, ?_, Bool.and_eq_true_iff.2 ⟨State.ctxOf_of ne, h⟩⟩)
  have := State.ctx_lt k.contexts ne
  simp [ctxIndexes]; omega

/-- A context in progress or HELD keeps the host awake (R136). -/
theorem State.Ordered.awake (k : s.Ordered) (h : (s.ctx i).state.keepsHost = true) : s.hlc.host ≠ .dozing := fun hd => by
  rw [k.doze hd i] at h; cases h

/-- Where one context is in progress, no other is (R127, R131). -/
theorem State.Ordered.alone (k : s.Ordered) (h : (s.ctx i).state.inProgress = true) (j : Nat) (hj : j ≠ i) : (s.ctx j).state.inProgress = false := by
  by_contra hm
  exact hj (k.contexts.2.2.1 j i (Bool.of_not_eq_false hm) h)

/-- A context for `x` may move to a state that begins nothing. -/
theorem State.Belongs.fits (b : s.Belongs x i) {c : CallContext} (hc : c.sub = x) (hw : c.connectWaiting = false)
    (hs : c.state = .idle ∨ c.state = .offered ∨ c.state = .releasing) : s.Fits i c where
  sub := fun _ j hj hn => (b.contexts j hj hn).trans hc.symm
  only := fun h => by rcases hs with e | e | e <;> rw [e] at h <;> cases h
  held := fun h => by rcases hs with e | e | e <;> rw [e] at h <;> cases h
  holding := fun h => by rcases hs with e | e | e <;> rw [e] at h <;> cases h
  resuming := fun h => by rcases hs with e | e | e <;> rw [e] at h <;> cases h
  active := fun h => by rcases hs with e | e | e <;> rw [e] at h <;> cases h
  waits := fun h => by rw [hw] at h; cases h
  txns := fun _ j p hp ho => hc.trans (b.txns j p hp ho).symm
  host := fun h => by rcases hs with e | e | e <;> rw [e] at h <;> cases h
  apart := fun h => by rcases hs with e | e | e <;> rw [e] at h <;> cases h

/-- A context moves where it fits. -/
theorem State.moveCtx_ctx' (hi : i < s.cal.contexts.length) (st : CallState) (j : Nat) :
    (s.moveCtx i st).ctx j = if i = j then { s.ctx i with state := st } else s.ctx j := by
  rw [State.moveCtx_ctx hi]
  split
  · next e => rw [e]
  · rfl

theorem State.moveCtx_works (k : s.Ordered) (b : s.Belongs x i) {st : CallState} (f : s.Fits i { s.ctx i with state := st }) :
    s.Works x (s.moveCtx i st) := by
  have len : i < s.cal.contexts.length := by rw [k.contexts.1]; exact b.lt
  refine k.replaceCtx b.lt f (State.moveCtx_ctx' len st) (State.moveCtx_calls ..).2.2 (State.moveCtx_stack ..) (State.moveCtx_voice len f.active) ?_ (fun _ => b.sub)
    (cells := fun y => ?_)
  · unfold State.ctxOf
    rw [b.sub]
    simp [(other_ne x).symm]
  · have e : (s.moveCtx i st).mobOf y = s.mobOf y := by simp [State.mobOf]
    rw [e]; exact .refl _

end Moves
end Sys2Proof.Machine
end

section
/-! Sitting 2: contexts that end, are released, connected, held and resumed (O59). -/

namespace Sys2Proof.Machine

section Works
variable {s t : State} {i : Nat} {x : Sub}

/-! ### What fits -/

/-- A context for `x` may be in a call where no other is in progress and the host is awake. -/
theorem State.Belongs.fits_call (b : s.Belongs x i) {c : CallContext} (hc : c.sub = x)
    (alone : ∀ j, j ≠ i → (s.ctx j).state.inProgress = false) (awake : s.hlc.host ≠ .dozing)
    (waits : c.connectWaiting = true → c.state = .originating ∨ c.state = .connecting)
    (held : c.state = .held → (s.ctx i).state.moving = true) (holding : c.state = .holding → s.cal.holdStack.length < 2)
    (resuming : c.state = .resuming → (s.ctx i).state = .held) (active : c.state = .active → (s.ctx i).state ≠ .active)
    (apart : c.state.established = true → s.idle x.other) : s.Fits i c where
  sub := fun _ j hj hn => (b.contexts j hj hn).trans hc.symm
  only := fun _ => alone
  held := held
  holding := holding
  resuming := resuming
  active := active
  waits := waits
  txns := fun _ j p hp ho => hc.trans (b.txns j p hp ho).symm
  host := fun _ => awake
  apart := fun h => by rw [hc]; exact apart h

theorem CallState.keepsHost_of_inProgress {c : CallState} (h : c.inProgress = true) : c.keepsHost = true := by revert h; cases c <;> decide

theorem State.Ordered.awake_of (k : s.Ordered) (h : (s.ctx i).state.inProgress = true) : s.hlc.host ≠ .dozing :=
  k.awake (CallState.keepsHost_of_inProgress h)

theorem State.ctx_ne_idle (h : (s.ctx i).state.inProgress = true) : (s.ctx i).state ≠ .idle := fun e => by rw [e] at h; cases h

/-- A context in progress waits for no connection once it is established (R127). -/
theorem State.Ordered.notWaiting (k : s.Ordered) (h : (s.ctx i).state.established = true) : (s.ctx i).connectWaiting = false := by
  by_contra hw
  rcases k.contexts.2.2.2.2.2.2.1 i (Bool.of_not_eq_false hw) with e | e <;> rw [e] at h <;> cases h

/-- Nothing is in progress, every context is of `x`, and the host is awake: an answered context may be connected. -/
structure State.Clear (s : State) (x : Sub) : Prop where
  subs : ∀ j, (s.ctx j).state ≠ .idle → (s.ctx j).sub = x
  rests : ∀ j, (s.ctx j).state.inProgress = false
  awake : s.hlc.host ≠ .dozing

/-- What is left once the context in progress is no longer so. -/
theorem State.Ordered.clear (k : s.Ordered) (hp : (s.ctx i).state.inProgress = true) (hx : (s.ctx i).sub = x)
    (same : ∀ j, j ≠ i → t.ctx j = s.ctx j) (now : (t.ctx i).state.inProgress = false) (sub : (t.ctx i).state ≠ .idle → (t.ctx i).sub = x)
    (host : t.hlc.host = .dozing → s.hlc.host = .dozing) : t.Clear x where
  subs := fun j hj => by
    by_cases e : j = i
    · subst e; exact sub hj
    · rw [same j e] at hj ⊢; exact (k.contexts.2.1 j i hj (State.ctx_ne_idle hp)).trans hx
  rests := fun j => by
    by_cases e : j = i
    · subst e; exact now
    · rw [same j e]; exact k.alone hp j e
  awake := fun h => k.awake_of hp (host h)

/-! ### The end of a context -/

theorem State.endCtx_works (k : s.Ordered) (item : Option ErrorItem) (hi : i < 3) (hx : (s.ctx i).sub = x) : s.Works x (s.endCtx i item) := by
  let u := s.reportEnded i item
  have like : s.Like u := State.reportEnded_like i item (.refl s)
  have len : i < u.cal.contexts.length := by rw [(like.ordered k).contexts.1]; exact hi
  have fits : u.Fits i Reset.context :=
    { sub := fun h => absurd rfl h, only := nofun, held := nofun, holding := nofun,
      resuming := nofun, active := nofun, waits := nofun, txns := fun h => absurd rfl h,
      host := nofun, apart := nofun }
  have voice := State.moveCtx_voice (st := .idle) len fun h => by cases h
  have ended : u.Works x ((u.moveCtx i .idle).onCtx i fun _ => Reset.context) := by
    refine (like.ordered k).replaceCtx hi fits (fun j => ?_) (by simp [State.onCtx, (State.moveCtx_calls ..).2.2]) (State.moveCtx_stack ..)
      ⟨fun h => (by cases h), voice.2.1, voice.2.2⟩ ?_ (fun h => absurd rfl h) (cells := fun y => ?_)
    · rw [State.onCtx_ctx (by rw [(State.moveCtx_calls ..).2.2]; exact len), State.moveCtx_ctx len]; split <;> rfl
    · unfold State.ctxOf
      rw [(like.ctx i).2.1, hx]
      simp [(other_ne x).symm]
    · have e : ((u.moveCtx i .idle).onCtx i fun _ => Reset.context).mobOf y = u.mobOf y := by simp [State.mobOf]
      rw [e]; exact .refl _
  exact ((like.works k x).trans ended).like (State.dropTraffic_like _ (.refl _))

theorem State.recordEnd_works (k : s.Ordered) (cause : Cause) (item : Option ErrorItem) (hi : i < 3) (hx : (s.ctx i).sub = x) :
    s.Works x ((s.recordCause i cause).endCtx i item) := by
  have like : s.Like (s.recordCause i cause) := State.recordCause_like i cause (.refl s)
  exact (like.works k x).trans (State.endCtx_works (like.ordered k) item hi ((like.ctx i).2.1.trans hx))

theorem State.ctxOffer_works (k : s.Ordered) (b : s.Belongs x i) (kind : TxnKind) (body : UpBody) : s.Works x (s.ctxOffer i kind body).2 := by
  unfold State.ctxOffer
  rw [b.sub]
  exact State.offer_works k _ (fun _ => b.apart) fun c e _ => by cases e; exact b.sub

theorem State.ctxOffer_ctx (s : State) (kind : TxnKind) (body : UpBody) (j : Nat) : (s.ctxOffer i kind body).2.ctx j = s.ctx j :=
  State.ctx_congr (by simp) j

/-! ### An answered context is connected -/

/-- An OFFERED context offers CONNECT and moves to CONNECTING (R123, R124). -/
theorem State.connect_works (k : s.Ordered) (c : s.Clear x) {j : Nat} (offered : (s.ctx j).state = .offered) {f : CallContext → CallContext}
    (hf : ∀ c : CallContext, (f c).state = c.state ∧ (f c).sub = c.sub ∧ ((f c).connectWaiting = true → c.connectWaiting = true)) (body : UpBody) :
    s.Works x (((s.ctxOffer j .connect body).2.onCtx j f).moveCtx j .connecting) := by
  have ne : (s.ctx j).state ≠ .idle := by rw [offered]; decide
  have b := k.belongs ne (c.subs j ne)
  let v := (s.ctxOffer j .connect body).2.onCtx j f
  have like : (s.ctxOffer j .connect body).2.Like v := State.onCtx_like (.refl _) hf
  have made : s.Works x v := (State.ctxOffer_works k b .connect body).like like
  have same : ∀ n, (v.ctx n).state = (s.ctx n).state ∧ (v.ctx n).sub = (s.ctx n).sub := fun n => by
    rw [(like.ctx n).1, (like.ctx n).2.1, State.ctxOffer_ctx]; exact ⟨rfl, rfl⟩
  have b' := made.ordered.belongs (i := j) (by rw [(same j).1]; exact ne) ((same j).2.trans b.sub)
  have fits : v.Fits j { v.ctx j with state := .connecting } :=
    b'.fits_call b'.sub (fun n _ => by rw [(same n).1]; exact c.rests n) (fun h => c.awake (made.host h)) (fun _ => .inr rfl)
      (fun h => by cases h) (fun h => by cases h) (fun h => by cases h) (fun h => by cases h) (fun h => by cases h)
  exact made.trans (State.moveCtx_works made.ordered b' fits)

theorem State.connectAnswered_works (k : s.Ordered) (c : s.Clear x) (j : Nat) : s.Works x (s.connectAnswered j) := by
  unfold State.connectAnswered
  dsimp only
  split
  · next h =>
    obtain ⟨hs, -⟩ := Bool.and_eq_true_iff.1 h
    have offered : (s.ctx j).state = .offered := by simpa using hs
    have ne : (s.ctx j).state ≠ .idle := by rw [offered]; decide
    split <;> (have e := congrArg Prod.snd ‹_ = (_, _)›; dsimp only at e; subst e)
    · refine State.Works.like ?_ (State.answerPending_like _ (.refl _))
      exact State.connect_works (f := fun c => { c with answerPending := false, ring := none }) k c offered (fun _ => ⟨rfl, rfl, id⟩) _
    · have offered := State.ctxOffer_works k (k.belongs ne (c.subs j ne)) .connect (.connect (s.ctx j).callRef)
      exact offered.like (by simp)
  · exact (State.answerPending_like .failed (.refl s)).works k x

theorem State.pendingLeft_works (k : s.Ordered) (c : s.Clear x) : s.Works x (s.pendingLeft i) := by
  unfold State.pendingLeft
  (repeat' split)
  · exact .refl k x
  · exact .refl k x
  · exact (State.answerPending_like .failed (.refl s)).works k x
  · exact (State.answerPending_like .failed (.refl s)).works k x
  · exact State.connectAnswered_works k c _

/-- A context that was held or resumed is no longer in progress: a request that waited for it is settled (R125, R130, R131). -/
theorem State.afterHold_works (k : s.Ordered) (hx : (s.ctx i).sub = x) (w : s.Works x t) (same : ∀ j, j ≠ i → t.ctx j = s.ctx j)
    (rests : (t.ctx i).state.inProgress = false) (own : (t.ctx i).state ≠ .idle → (t.ctx i).sub = x) :
    s.Works x (if (s.ctx i).state == .holding || (s.ctx i).state == .resuming then t.pendingLeft i else t) := by
  split
  · next was =>
    have prog : (s.ctx i).state.inProgress = true := by
      simp only [Bool.or_eq_true, beq_iff_eq] at was
      rcases was with e | e <;> rw [e] <;> rfl
    exact w.trans (State.pendingLeft_works w.ordered (k.clear prog hx same rests own w.host))
  · exact w

/-! ### Release -/

/-- A context as it enters RELEASING (R132). -/
def State.releasingCtx (i : Nat) (cause : Cause) (s : State) : State :=
  ((s.recordCause i cause).onCtx i fun c => { c with ring := none, answerPending := false, connectWaiting := false }).moveCtx i .releasing

theorem State.releasingCtx_works (k : s.Ordered) (b : s.Belongs x i) (cause : Cause) :
    s.Works x (s.releasingCtx i cause) ∧ (∀ j, j ≠ i → (s.releasingCtx i cause).ctx j = s.ctx j) ∧
      ((s.releasingCtx i cause).ctx i).state = .releasing ∧ ((s.releasingCtx i cause).ctx i).sub = x := by
  let r := s.recordCause i cause
  let u := r.onCtx i fun c => { c with ring := none, answerPending := false, connectWaiting := false }
  have recorded : s.Like r := State.recordCause_like i cause (.refl s)
  have like : s.Like u := State.onCtx_like recorded fun c => ⟨rfl, rfl, fun h => by cases h⟩
  have lenR : i < r.cal.contexts.length := by rw [(recorded.ordered k).contexts.1]; exact b.lt
  have lenU : i < u.cal.contexts.length := by rw [(like.ordered k).contexts.1]; exact b.lt
  have belongs : u.Belongs x i :=
    { lt := b.lt, sub := (like.ctx i).2.1.trans b.sub
      contexts := fun j hj hn => by rw [(like.ctx j).1] at hn; rw [(like.ctx j).2.1]; exact b.contexts j hj hn
      txns := fun j p hp ho => by
        obtain ⟨q, hq, hs, how⟩ := like.txn hp
        exact hs.symm.trans (b.txns j q hq (how.trans ho))
      apart := by rw [like.hasCall]; exact b.apart }
  have quiet : (u.ctx i).connectWaiting = false := by rw [State.onCtx_ctx lenR, if_pos rfl]
  have moved := State.moveCtx_works (st := .releasing) (like.ordered k) belongs (belongs.fits belongs.sub quiet (.inr (.inr rfl)))
  have ctx : ∀ j, (s.releasingCtx i cause).ctx j = if i = j then { u.ctx j with state := .releasing } else u.ctx j := fun j =>
    State.moveCtx_ctx lenU .releasing j
  refine ⟨(like.works k x).trans moved, fun j hj => ?_, by rw [ctx, if_pos rfl], by rw [ctx, if_pos rfl]; exact belongs.sub⟩
  rw [ctx, if_neg fun e => hj e.symm, State.onCtx_ctx lenR, if_neg fun e => hj e.symm, (State.recordCause_ctx ..).2 fun e => hj e.symm]

theorem State.releaseCtx_works (k : s.Ordered) (b : s.Belongs x i) (cause : Cause) : s.Works x (s.releaseCtx i cause) := by
  obtain ⟨moved, same, now, sub⟩ := State.releasingCtx_works k b cause
  let u := s.releasingCtx i cause
  have ne : (u.ctx i).state ≠ .idle := by rw [now]; decide
  have b' := moved.ordered.belongs ne sub
  let body : UpBody := .release (s.ctx i).callRef (.cause cause)
  have offered := moved.trans (State.ctxOffer_works moved.ordered b' .release body)
  have offer_ctx : ∀ j, (u.ctxOffer i .release body).2.ctx j = u.ctx j := State.ctxOffer_ctx u .release body
  show s.Works x (if (s.ctx i).state == .holding || (s.ctx i).state == .resuming then
      State.pendingLeft i (match u.ctxOffer i .release body with | (some _, s) => s | (none, s) => s.endCtx i none)
    else match u.ctxOffer i .release body with | (some _, s) => s | (none, s) => s.endCtx i none)
  refine State.afterHold_works k b.sub ?_ ?_ ?_ ?_ <;> split <;> (have e := congrArg Prod.snd ‹_ = (_, _)›; dsimp only at e; subst e)
  · exact offered
  · exact offered.trans (State.endCtx_works offered.ordered none b.lt (by rw [offer_ctx]; exact sub))
  · intro j hj; rw [offer_ctx]; exact same j hj
  · intro j hj; rw [State.endCtx_ctx, if_neg fun e => hj e.symm, offer_ctx]; exact same j hj
  · rw [offer_ctx, now]; rfl
  · rw [State.endCtx_ctx, if_pos rfl]; rfl
  · intro _; rw [offer_ctx]; exact sub
  · rw [State.endCtx_ctx, if_pos rfl]; exact fun h => absurd rfl h

end Works

end Sys2Proof.Machine
end

section
/-! Sitting 2: what the contexts make of the outcomes of their transactions (O59). -/

namespace Sys2Proof.Machine

/-- In the midst of a step that works for `x`: the rules hold, and the other's activity state is recorded. -/
structure State.Peered (x : Sub) (s : State) : Prop extends s.Sound where
  peer : s.settled x.other

/-- In the midst of a step that works for `x`, which is served. -/
structure State.Midst (x : Sub) (s : State) : Prop extends s.Peered x where
  serves : s.serving x ≠ none

section Midst
variable {s t : State} {i : Nat} {x : Sub}

theorem State.Peered.works (p : s.Peered x) (w : s.Works x t) (hs : s.serving x = none → t.idle x) : t.Peered x :=
  ⟨w.sound p.toSound hs, w.settled.2 p.peer⟩

theorem State.Peered.like (p : s.Peered x) (h : s.Like t) : t.Peered x := ⟨h.sound p.toSound, (h.settled _).2 p.peer⟩

theorem State.Midst.works (m : s.Midst x) (w : s.Works x t) : t.Midst x where
  toSound := w.sound_served m.toSound m.serves
  peer := w.settled.2 m.peer
  serves := fun h => m.serves ((w.cells x).serving.1 h)

theorem State.Midst.like (m : s.Midst x) (h : s.Like t) : t.Midst x := m.works (h.works m.toOrdered x)

/-- Where the other subscription is not ATTENDED, it is idle, if `x` has a context (R22). -/
theorem State.Midst.quiet (m : s.Midst x) (hc : s.hasCtx x = true) (ha : s.activity x.other ≠ .attended) : s.idle x.other := by
  rcases s.derived_cases x.other with ⟨h, -⟩ | ⟨-, h, -⟩ | ⟨-, -, h, -⟩ | ⟨-, -, -, -, h⟩ | ⟨-, -, h, -⟩
  · exact m.served _ (m.attached _ h)
  · exact m.served _ h
  · have := (m.apart _ h).1
    rw [other_other, hc] at this; cases this
  · exact absurd (m.peer.trans h) ha
  · exact h

theorem State.Midst.hasCtx (m : s.Midst x) (h : (s.ctx i).state ≠ .idle) (hx : (s.ctx i).sub = x) : s.hasCtx x = true :=
  hx ▸ State.hasCtx_of m.contexts h

end Midst

section Calls
variable {s : State} {i : Nat} {x : Sub}

/-- A context in progress moves on, to a state that begins no HOLD and no RESUME. -/
theorem State.moveOn_works (k : s.Ordered) (hp : (s.ctx i).state.inProgress = true) (hx : (s.ctx i).sub = x) {st : CallState}
    (held : st = .held → (s.ctx i).state.moving = true) (active : st = .active → (s.ctx i).state ≠ .active)
    (begins : st ≠ .holding ∧ st ≠ .resuming) (waits : (s.ctx i).connectWaiting = false)
    (apart : st.established = true → s.idle x.other) : s.Works x (s.moveCtx i st) := by
  have b := k.belongs (State.ctx_ne_idle hp) hx
  exact State.moveCtx_works k b (b.fits_call hx (k.alone hp) (k.awake_of hp) (fun h => by rw [show _ = true from h] at waits; cases waits) held
    (fun h => absurd h begins.1) (fun h => absurd h begins.2) active apart)

/-! ### Connection (R127) -/

theorem State.becomeActive_works (k : s.Ordered) (hs : (s.ctx i).state = .originating ∨ (s.ctx i).state = .connecting) (hx : (s.ctx i).sub = x)
    (quiet : s.idle x.other) : s.Works x (s.becomeActive i) := by
  let u := s.onCtx i fun c => { c with connectWaiting := false }
  have like : s.Like u := State.onCtx_like (.refl s) fun c => ⟨rfl, rfl, fun h => by cases h⟩
  have state : (u.ctx i).state = (s.ctx i).state := (like.ctx i).1
  have prog : (s.ctx i).state.inProgress = true := by rcases hs with e | e <;> rw [e] <;> rfl
  have lt := State.ctx_lt k.contexts (State.ctx_ne_idle prog)
  have moved : u.Works x (u.moveCtx i .active) := by
    refine State.moveOn_works (like.ordered k) (by rw [state]; exact prog) ((like.ctx i).2.1.trans hx) nofun (fun _ => ?_)
      ⟨by decide, by decide⟩ ?_ fun _ => (like.idle _).2 quiet
    · rw [state]; rcases hs with e | e <;> rw [e] <;> decide
    · rw [State.onCtx_ctx (by rw [k.contexts.1]; exact lt), if_pos rfl]
  exact ((like.works k x).trans moved).like (State.placeTraffic_like _ (State.report_like _ (.refl _)))

/-- A connected call waits (R127). -/
theorem State.waitToConnect_works (k : s.Ordered) (hs : (s.ctx i).state = .originating ∨ (s.ctx i).state = .connecting) (hx : (s.ctx i).sub = x) :
    s.Works x (s.onCtx i fun c => { c with connectWaiting := true }) := by
  have prog : (s.ctx i).state.inProgress = true := by rcases hs with e | e <;> rw [e] <;> rfl
  have b := k.belongs (State.ctx_ne_idle prog) hx
  have len : i < s.cal.contexts.length := by rw [k.contexts.1]; exact b.lt
  have not : ∀ {st}, st ≠ .originating → st ≠ .connecting → (s.ctx i).state ≠ st := fun h1 h2 e => by
    rcases hs with h | h
    · exact h1 (e.symm.trans h)
    · exact h2 (e.symm.trans h)
  have active := not (st := .active) (by decide) (by decide)
  have stack : s.stackAfter i (s.ctx i).state = s.cal.holdStack := by
    unfold State.stackAfter
    rw [if_neg (not (by decide) (by decide)), if_neg (not (by decide) (by decide))]
  refine k.replaceCtx (c := { s.ctx i with connectWaiting := true }) b.lt
    (b.fits_call hx (k.alone prog) (k.awake_of prog) (fun _ => hs) (fun h => absurd h (not (by decide) (by decide)))
      (fun h => absurd h (not (by decide) (by decide))) (fun h => absurd h (not (by decide) (by decide))) (fun h => absurd h active)
      fun h => ?_)
    (fun j => ?_) (by simp [State.onCtx]) (by rw [stack]; rfl) ⟨fun h => absurd h active, fun h => absurd h active, fun _ _ => ⟨rfl, rfl⟩⟩ ?_
    (fun _ => hx)
  · have h : (s.ctx i).state.established = true := h
    rcases hs with e | e <;> rw [e] at h <;> cases h
  · rw [State.onCtx_ctx len]
    split
    · next e => rw [e]
    · rfl
  · unfold State.ctxOf
    rw [hx]
    simp [(other_ne x).symm]

theorem State.callConnected_works (m : s.Midst x) (hs : (s.ctx i).state = .originating ∨ (s.ctx i).state = .connecting)
    (hx : (s.ctx i).sub = x) : s.Works x (s.callConnected i) := by
  unfold State.callConnected
  split
  · exact State.waitToConnect_works m.toOrdered hs hx
  · next h =>
    have prog : (s.ctx i).state.inProgress = true := by rcases hs with e | e <;> rw [e] <;> rfl
    rw [hx] at h
    exact State.becomeActive_works m.toOrdered hs hx (m.quiet (m.hasCtx (State.ctx_ne_idle prog) hx) (by simpa using h))

/-! ### HOLD and RESUME (R130, R131) -/

theorem CallState.inProgress_established {c : CallState} (h : c = .holding ∨ c = .resuming) :
    c.inProgress = true ∧ c.established = true ∧ c.moving = true ∧ c ≠ .active := by rcases h with e | e <;> subst e <;> decide

/-- A context that is held or resumed comes to HELD or ACTIVE. -/
theorem State.moveBack_works (k : s.Ordered) (hs : (s.ctx i).state = .holding ∨ (s.ctx i).state = .resuming) (hx : (s.ctx i).sub = x)
    {st : CallState} (hst : st = .held ∨ st = .active) : s.Works x (s.moveCtx i st) := by
  obtain ⟨prog, est, moving, active⟩ := CallState.inProgress_established hs
  refine State.moveOn_works k prog hx (fun _ => moving) (fun _ => active) ?_ (k.notWaiting est) fun _ => hx ▸ k.apart_of est
  rcases hst with e | e <;> subst e <;> decide

theorem State.moveActive_works (k : s.Ordered) (hs : (s.ctx i).state = .holding ∨ (s.ctx i).state = .resuming) (hx : (s.ctx i).sub = x) :
    s.Works x (s.moveActive i) := (State.moveBack_works k hs hx (.inr rfl)).like (State.placeTraffic_like _ (.refl _))

theorem State.holdEnded_works (k : s.Ordered) (hs : (s.ctx i).state = .holding) (hx : (s.ctx i).sub = x) (ok : Bool) :
    s.Works x (s.holdEnded i ok) := by
  obtain ⟨prog, -⟩ := CallState.inProgress_established (.inl hs)
  have len : i < s.cal.contexts.length := by rw [k.contexts.1]; exact State.ctx_lt k.contexts (State.ctx_ne_idle prog)
  cases ok
  · have moved := State.moveActive_works k (.inl hs) hx
    unfold State.holdEnded
    dsimp only
    rw [if_neg Bool.false_ne_true]
    cases (s.moveActive i).cal.pendingReq with
    | none => exact moved
    | some p =>
      dsimp only
      split
      · exact moved
      · cases p.kind <;> exact moved.like (by simp)
  · have moved := State.moveBack_works k (.inl hs) hx (.inl rfl)
    have ctx := State.moveCtx_ctx len .held
    have clear : (s.moveCtx i .held).Clear x := by
      refine k.clear prog hx (fun j hj => ?_) ?_ (fun _ => ?_) moved.host
      · rw [ctx, if_neg fun e => hj e.symm]
      · rw [ctx, if_pos rfl]; rfl
      · rw [ctx, if_pos rfl]; exact hx
    unfold State.holdEnded
    dsimp only
    rw [if_pos rfl]
    cases (s.moveCtx i .held).cal.pendingReq with
    | none => exact moved
    | some p =>
      dsimp only
      split
      · exact moved
      · cases p.kind with
        | hold => exact moved.like (by simp)
        | resume => exact moved.like (by simp)
        | answer j => exact moved.trans (State.connectAnswered_works moved.ordered clear j)

theorem State.resumeEnded_works (k : s.Ordered) (hs : (s.ctx i).state = .resuming) (hx : (s.ctx i).sub = x) (ok : Bool) :
    s.Works x (s.resumeEnded i ok) := by
  unfold State.resumeEnded
  cases ok
  · exact (State.moveBack_works k (.inr hs) hx (.inl rfl)).like (by simp)
  · exact (State.moveActive_works k (.inr hs) hx).like (by simp)

/-! ### Outcomes -/

theorem State.ctxOutcome_works (m : s.Midst x) (hx : (s.ctx i).state ≠ .idle → (s.ctx i).sub = x) (kind : TxnKind) (o : TxnOutcome) :
    s.Works x (s.ctxOutcome i kind o) := by
  have k := m.toOrdered
  have stay := State.Works.refl k x
  have belongs : (s.ctx i).state ≠ .idle → s.Belongs x i := fun h => k.belongs h (hx h)
  unfold State.ctxOutcome
  split
  · next hs =>
    have ne : (s.ctx i).state ≠ .idle := by rw [hs]; decide
    split
    · exact State.callConnected_works m (.inl hs) (hx ne)
    · exact State.recordEnd_works k _ _ (belongs ne).lt (hx ne)
    · exact State.releaseCtx_works k (belongs ne) _
    all_goals exact stay
  · next hs =>
    have ne : (s.ctx i).state ≠ .idle := by rw [hs]; decide
    split
    · exact State.callConnected_works m (.inr hs) (hx ne)
    · exact State.releaseCtx_works k (belongs ne) _
    · exact State.releaseCtx_works k (belongs ne) _
    all_goals exact stay
  · next hs => exact State.holdEnded_works k hs (hx (by rw [hs]; decide)) _
  · next hs => exact State.resumeEnded_works k hs (hx (by rw [hs]; decide)) _
  · next hs =>
    have ne : (s.ctx i).state ≠ .idle := by rw [hs]; decide
    exact State.endCtx_works k _ (belongs ne).lt (hx ne)
  · exact stay

/-! ### Incoming calls and releases (R121, R133) -/

/-- A free context (R119) has no transaction. -/
theorem State.freeCtx_some (h : s.freeCtx = some i) :
    i < 3 ∧ (s.ctx i).state = .idle ∧ ∀ j p, entryAt s.sge.txns j = some p → p.owner ≠ .ctx i := by
  have hi := List.mem_of_find?_eq_some h
  have free := List.find?_some h
  unfold State.ctxFree at free
  obtain ⟨idle, unowned⟩ := Bool.and_eq_true_iff.1 free
  refine ⟨by simp [ctxIndexes] at hi; omega, by simpa using idle, fun j p hp ho => ?_⟩
  have none := List.any_eq_false.1 (Bool.not_eq_true' _ ▸ unowned) (j, p) ((mem_taken ..).2 hp)
  exact none (by simp [ho])

theorem State.not_ctxOf_idle (h : (s.ctx i).state = .idle) (y : Sub) : s.ctxOf y i = false := by unfold State.ctxOf; simp [h]

/-- A context of the other subscription stands against one of `x`. -/
theorem State.subs_of_apart (k : s.contextsOk) (h : s.hasCtx x.other = false) (j : Nat) (hj : (s.ctx j).state ≠ .idle) : (s.ctx j).sub = x := by
  by_contra hx
  have := State.hasCtx_of k hj
  rw [State.eq_other_of_ne hx, h] at this
  cases this

theorem State.not_hasCall_of (h : s.hasCtx x.other = false) : s.hasCall x.other = false := by
  by_contra hc
  rw [State.hasCall_hasCtx (Bool.of_not_eq_false hc)] at h
  cases h

/-- A free context is taken for `x`, which no context of the other subscription forbids (R119). -/
theorem State.takeCtx_works (k : s.Ordered) (hi : s.freeCtx = some i) (hc : s.hasCtx x.other = false) {c : CallContext} (hx : c.sub = x)
    (hw : c.connectWaiting = false) (hs : c.state = .idle ∨ c.state = .offered) :
    s.Works x (s.onCtx i fun _ => c) ∧ (s.onCtx i fun _ => c).Belongs x i := by
  obtain ⟨lt, idle, unowned⟩ := State.freeCtx_some hi
  have len : i < s.cal.contexts.length := by rw [k.contexts.1]; exact lt
  have subs := State.subs_of_apart k.contexts hc
  have ctx : ∀ j, (s.onCtx i fun _ => c).ctx j = if i = j then c else s.ctx j := State.onCtx_ctx len _
  have fits : s.Fits i c :=
    { sub := fun _ j _ hj => (subs j hj).trans hx.symm
      only := fun h => by rcases hs with e | e <;> rw [e] at h <;> cases h
      held := fun h => by rcases hs with e | e <;> rw [e] at h <;> cases h
      holding := fun h => by rcases hs with e | e <;> rw [e] at h <;> cases h
      resuming := fun h => by rcases hs with e | e <;> rw [e] at h <;> cases h
      active := fun h => by rcases hs with e | e <;> rw [e] at h <;> cases h
      waits := fun h => by rw [hw] at h; cases h
      txns := fun _ j p hp ho => absurd ho (unowned j p hp)
      host := fun h => by rcases hs with e | e <;> rw [e] at h <;> cases h
      apart := fun h => by rcases hs with e | e <;> rw [e] at h <;> cases h }
  have stack : s.stackAfter i c.state = s.cal.holdStack := by
    unfold State.stackAfter
    rw [if_neg (by rw [idle]; decide), if_neg (by rcases hs with e | e <;> rw [e] <;> decide)]
  have taken : s.Works x (s.onCtx i fun _ => c) := by
    refine k.replaceCtx lt fits ctx (by simp [State.onCtx]) (by rw [stack]; rfl) ⟨fun h => ?_, fun h => ?_, fun _ _ => ⟨rfl, rfl⟩⟩
      (State.not_ctxOf_idle idle _) fun _ => hx
    · rcases hs with e | e <;> rw [e] at h <;> cases h
    · rw [idle] at h; cases h
  exact ⟨taken,
    { lt := lt, sub := by rw [ctx, if_pos rfl]; exact hx
      contexts := fun j hj hn => by rw [ctx, if_neg fun e => hj e.symm] at hn ⊢; exact subs j hn
      txns := fun j p hp ho => absurd ho (unowned j p hp)
      apart := by rw [taken.other.2.1]; exact State.not_hasCall_of hc }⟩

theorem State.report_belongs (b : s.Belongs x i) (r : Report) : (s.report r).Belongs x i := by
  have like : s.Like (s.report r) := by simp
  exact { lt := b.lt, sub := (like.ctx i).2.1.trans b.sub
          contexts := fun j hj hn => by rw [(like.ctx j).1] at hn; exact (like.ctx j).2.1.trans (b.contexts j hj hn)
          txns := fun j p hp ho => by
            obtain ⟨q, hq, hs, how⟩ := like.txn hp
            exact hs.symm.trans (b.txns j q hq (how.trans ho))
          apart := by rw [like.hasCall]; exact b.apart }

theorem State.takeSetup_works (k : s.Ordered) (hi : s.freeCtx = some i) (hc : s.hasCtx x.other = false) (ref : Nat) (ident : Ident)
    (number : Digits) : s.Works x (s.takeSetup x i ref ident number) := by
  let c := s.offeredCtx x ref ident number
  have state : c.state = .idle ∨ c.state = .offered := by
    show (if (s.lookup number).2.1 == .reject then CallState.idle else .offered) = .idle ∨
      (if (s.lookup number).2.1 == .reject then CallState.idle else .offered) = .offered
    split
    · exact .inl rfl
    · exact .inr rfl
  obtain ⟨taken, belongs⟩ := State.takeCtx_works (c := c) k hi hc rfl rfl state
  unfold State.takeSetup
  dsimp only
  split
  · have reported := taken.like (State.report_like (.callScreened x ref number (c.screenEntry.getD 0)) (.refl _))
    exact reported.trans (State.releaseCtx_works reported.ordered (State.report_belongs belongs _) _)
  · exact taken.like (State.report_like _ (State.offerPlain_like _ _ _ _ (.refl _)))
  all_goals exact taken.like (State.reportWake_like _ (State.offerPlain_like _ _ _ _ (.refl _)))

theorem State.setupIn_works (k : s.Ordered) (ident : Ident) (ref : Nat) (type : NumberType) (digits : Digits) :
    s.Works x (s.setupIn x ident ref type digits) := by
  unfold State.setupIn
  split
  · exact .refl k x
  split
  · exact .refl k x
  split
  · next hc hi => exact State.takeSetup_works k hi hc ..
  · exact (State.Like.refl s |> State.offerPlain_like _ _ _ _).works k x

theorem State.ctxByRef_some {ref : Nat} (h : s.ctxByRef x ref = some i) : i < 3 ∧ (s.ctx i).state ≠ .idle ∧ (s.ctx i).sub = x := by
  have hi := List.mem_of_find?_eq_some h
  have found := List.find?_some h
  obtain ⟨own, -⟩ := Bool.and_eq_true_iff.1 found
  obtain ⟨ne, sub⟩ := Bool.and_eq_true_iff.1 own
  exact ⟨by simp [ctxIndexes] at hi; omega, by simpa using ne, by simpa using sub⟩

theorem State.networkRelease_works (k : s.Ordered) (ident : Ident) (ref : Nat) (item : Option ErrorItem) :
    s.Works x (s.networkRelease x ident ref item) := by
  unfold State.networkRelease
  dsimp only
  split
  · exact (State.offerPlain_like _ _ _ _ (.refl s)).works k x
  · next i hi =>
    obtain ⟨lt, -, hx⟩ := State.ctxByRef_some hi
    let r := s.recordCause i (s.ctx i).releaseCause
    let u := r.offerPlain x (some (.ctx i)) ident (.releaseDone ref)
    have like : s.Like u := State.offerPlain_like _ _ _ _ (State.recordCause_like _ _ (.refl s))
    have offered : ∀ j, u.ctx j = r.ctx j := State.ctx_congr (by simp [u])
    have ended := (like.works k x).trans (State.endCtx_works (like.ordered k) item lt ((like.ctx i).2.1.trans hx))
    have now : (u.endCtx i item).ctx i = Reset.context := by rw [State.endCtx_ctx, if_pos rfl]
    refine State.afterHold_works k hx ended (fun j hj => ?_) (by rw [now]; rfl) (by rw [now]; exact fun h => absurd rfl h)
    rw [State.endCtx_ctx, if_neg fun e => hj e.symm, offered, (State.recordCause_ctx ..).2 fun e => hj e.symm]

end Calls

end Sys2Proof.Machine
end

section
/-! Sitting 2: what TXT and SBS do for a subscription keeps the calls in order (O59). -/

namespace Sys2Proof.Machine

section Owners
variable {s : State} {x : Sub}

/-! ### Texts (R157 to R159) -/

/-- A subscription for which something is under way leaves the other without an established call (R127). -/
theorem State.Ordered.uncalled (k : s.Ordered) (h : ¬ s.idle x) : s.hasCall x.other = false := by
  by_contra hc
  have := k.apart _ (Bool.of_not_eq_false hc)
  rw [other_other] at this
  exact h this

theorem State.not_idle_of_outgoing {o : Outgoing} (h : s.outgoingOf x = some o) : ¬ s.idle x := fun hi => by
  rw [hi.2.2] at h; cases h

theorem State.setOutgoing_works (k : s.Ordered) (o : Option Outgoing) (hc : o ≠ none → s.hasCall x.other = false) :
    s.Works x (s.setOutgoing x o) := by
  have same : ∀ y, y ≠ x → (s.setOutgoing x o).outgoingOf y = s.outgoingOf y := fun y hy => by
    simp [State.outgoingOf, State.setOutgoing, PerSub.get_set, hy]
  have own : (s.setOutgoing x o).outgoingOf x = o := by simp [State.outgoingOf, State.setOutgoing]
  refine ⟨⟨k.contexts, k.doze, k.voice, fun y hy => ?_⟩, ⟨rfl, rfl, .rfl, by rw [same _ (other_ne x)]⟩, id, fun _ => .refl _, fun _ => rfl⟩
  obtain ⟨h1, h2, h3⟩ := k.apart y hy
  refine ⟨h1, h2, ?_⟩
  by_cases e : y.other = x
  · have hy' : s.hasCall y = true := hy
    rw [show y = x.other from by rw [← e, other_other]] at hy'
    rw [e, own]
    by_contra hn
    rw [hc hn] at hy'; cases hy'
  · rw [same _ e]; exact h3

theorem State.offerSegment_works (k : s.Ordered) : s.Works x (s.offerSegment x).2 := by
  unfold State.offerSegment
  split
  · exact .refl k x
  · next o ho =>
    have quiet := k.uncalled (State.not_idle_of_outgoing ho)
    let body := UpBody.textSeg o.reference o.total o.nextSeq o.destination (o.segments.head?.getD [])
    have offered := State.offer_works (x := x) k ⟨some .txt, some .textOut, 0, none, body⟩ (fun _ => quiet) fun c e => by cases e
    dsimp only
    split <;> (have e := congrArg Prod.snd ‹_ = (_, _)›; dsimp only at e; subst e)
    · have set := offered.trans (State.setOutgoing_works offered.ordered (some { o with segmentDue := false }) fun _ => by
        rw [offered.other.2.1]; exact quiet)
      exact set.like (State.endWait_like _ _ (.refl _))
    · exact offered

theorem State.sendSegment_works (k : s.Ordered) : s.Works x (s.sendSegment x) := by
  have offered := State.offerSegment_works (x := x) k
  unfold State.sendSegment
  split <;> (have e := congrArg Prod.snd ‹_ = (_, _)›; dsimp only at e; subst e)
  · exact offered
  · split
    · exact offered
    · next o ho =>
      have set := offered.trans (State.setOutgoing_works offered.ordered (some { o with segmentDue := true }) fun _ =>
        offered.ordered.uncalled (State.not_idle_of_outgoing ho))
      exact set.like (State.beginWait_like _ _ (.refl _))

theorem State.dropOutgoing_works (k : s.Ordered) : s.Works x (s.dropOutgoing x) := by
  unfold State.dropOutgoing
  split
  · exact .refl k x
  · next o _ =>
    have like : s.Like (s.onTxt fun t => { t with free := t.free + o.segments.length }) := by simp
    exact ((like.works k x).trans (State.setOutgoing_works (like.ordered k) none fun h => absurd rfl h)).like
      (State.endWait_like _ _ (.refl _))

theorem State.failText_works (k : s.Ordered) (cause : TextFailCause) : s.Works x (s.failText x cause) := by
  unfold State.failText
  split
  · exact .refl k x
  · exact (State.dropOutgoing_works k).like (State.report_like _ (.refl _))

theorem State.segmentAcked_works (k : s.Ordered) : s.Works x (s.segmentAcked x) := by
  unfold State.segmentAcked
  split
  · exact .refl k x
  · next o ho =>
    have like : s.Like (s.onTxt fun t => { t with free := t.free + 1 }) := by simp
    have quiet := k.uncalled (State.not_idle_of_outgoing ho)
    have set := (like.works k x).trans (State.setOutgoing_works (like.ordered k)
      (some { o with segments := o.segments.tail, nextSeq := o.nextSeq + 1 }) fun _ => by rw [like.hasCall]; exact quiet)
    dsimp only
    split
    · exact (set.trans (State.dropOutgoing_works set.ordered)).like (State.report_like _ (.refl _))
    · exact set.trans (State.sendSegment_works set.ordered)

theorem State.textOutEnded_works (k : s.Ordered) (o : TxnOutcome) : s.Works x (s.textOutEnded x o) := by
  unfold State.textOutEnded
  split
  · exact State.segmentAcked_works k
  · exact State.failText_works k _
  · exact State.failText_works k _
  · exact State.failText_works k _
  · exact State.failText_works k _
  · exact .refl k x
  · exact .refl k x

/-! ### Area updates (R26 to R28) -/

theorem State.openUpdate_works (k : s.Ordered) (byPage : Bool) : s.Works x (s.openUpdate x byPage) := by
  unfold State.openUpdate
  split
  · exact .refl k x
  · next v _ =>
    split
    · exact (State.pendUpdate_like x byPage (.refl s)).works k x
    · next h =>
      have quiet : s.hasCall x.other = false := by simp at h; exact h.2
      have offered := State.offer_works k (s.areaOffer x v.area) (fun _ => quiet) fun c e => by cases e
      split <;> (have e := congrArg Prod.snd ‹_ = (_, _)›; dsimp only at e; subst e)
      · exact offered.like (State.pendUpdate_like _ _ (.refl _))
      · exact offered.like (State.onRecord_like (State.dropUpdate_like _ (.refl _)) fun _ => rfl)

theorem State.areaPassed_works (k : s.Ordered) : s.Works x (s.areaPassed x) := by
  unfold State.areaPassed
  split
  · exact .refl k x
  · split
    · exact State.openUpdate_works k _
    · exact .refl k x

theorem State.retryUpdate_works (k : s.Ordered) : s.Works x (s.retryUpdate x) := by
  unfold State.retryUpdate
  split
  · exact .refl k x
  · split
    · exact State.openUpdate_works k _
    · exact (State.dropUpdate_like _ (.refl s)).works k x

theorem State.areaEnded_works (k : s.Ordered) (o : TxnOutcome) (accept : Option (Nat × Option AliasValue)) :
    s.Works x (s.areaEnded x o accept) := by
  have passed : ∀ t : State, s.Like t → s.Works x (t.areaPassed x) := fun t h =>
    (h.works k x).trans (State.areaPassed_works (h.ordered k))
  unfold State.areaEnded
  split
  · exact passed _ (by simp)
  · exact passed _ (by simp)
  · exact passed _ (by simp)
  · exact State.Like.works (by simp) k x
  · exact .refl k x

/-! ### The owner of a transaction (R5) -/

theorem State.tellOwner_works (m : s.Midst x) {p : Txn} (hx : p.sub = x)
    (own : ∀ i, p.owner = .ctx i → (s.ctx i).state ≠ .idle → (s.ctx i).sub = x) (o : TxnOutcome) (accept : Option (Nat × Option AliasValue)) :
    s.Works x (s.tellOwner p o accept) := by
  have k := m.toOrdered
  have called : ∀ kind, s.Works x (match p.owner.ctx? with | some i => s.ctxOutcome i kind o | none => s) := fun kind => by
    cases h : p.owner with
    | ctx i => exact State.ctxOutcome_works m (own i h) _ _
    | _ => exact .refl k x
  unfold State.tellOwner
  subst hx
  cases p.kind with
  | setup | connect | hold | resume | release => exact called _
  | link => exact State.Like.works (by simp) k _
  | textOut => exact State.textOutEnded_works k _
  | measReport => exact State.Like.works (by simp) k _
  | area => exact State.areaEnded_works k _ _
  | pass => exact State.Like.works (by simp) k _

end Owners

end Sys2Proof.Machine
end

section
/-! Sitting 2: the loss of service, and the settling of a subscription at the end of a step (O59). -/

namespace Sys2Proof.Machine

section Aside
variable {s t u : State} {x : Sub}

/-! ### What happens to one subscription, aside from the other -/

/-- `x.other` is as it was in all that the rules of the calls see. -/
structure State.Aside (x : Sub) (s t : State) : Prop where
  other : State.sameWork x.other s t
  cells : (s.mobOf x.other).Like (t.mobOf x.other)
  activity : t.activity x.other = s.activity x.other

theorem State.Aside.trans (h : s.Aside x t) (k : t.Aside x u) : s.Aside x u :=
  ⟨h.other.trans k.other, h.cells.trans k.cells, k.activity.trans h.activity⟩

theorem State.Works.aside (h : s.Works x t) : s.Aside x t := ⟨h.other, h.cells _, h.activity _⟩

theorem State.Like.aside (h : s.Like t) (x : Sub) : s.Aside x t := ⟨h.sameWork _, h.cells _, h.activity _⟩

theorem State.Aside.settled (h : s.Aside x t) : t.settled x.other ↔ s.settled x.other := by
  unfold State.settled
  rw [h.activity, h.other.derivedActivity h.cells.serving (by rw [h.activity])]

/-- The rules with the cells and the records changed for `x` alone. -/
theorem State.Aside.sound (h : s.Aside x t) (k : s.Sound) (ordered : t.Ordered) (returns : ∀ r, (t.mobOf x).returnRec = some r →
      (t.mobOf x).hoState = .access ∧ (t.serving x).isSome = true) (served : t.serving x = none → t.idle x)
    (attached : t.activity x = .detached → t.serving x = none) : t.Sound where
  toOrdered := ordered
  returns := fun y => by
    by_cases e : y = x
    · subst e; exact returns
    · obtain rfl := State.eq_other_of_ne e; exact h.cells.2 (k.returns _)
  served := fun y hy => by
    by_cases e : y = x
    · subst e; exact served hy
    · obtain rfl := State.eq_other_of_ne e
      exact h.other.idle.2 (k.served _ (h.cells.serving.1 hy))
  attached := fun y hy => by
    by_cases e : y = x
    · subst e; exact attached hy
    · obtain rfl := State.eq_other_of_ne e
      rw [h.activity] at hy
      exact h.cells.serving.2 (k.attached _ hy)

/-- Cells and records alone change. -/
theorem State.Ordered.keepCalls (k : s.Ordered) (cal : t.cal = s.cal := by simp) (txns : t.sge.txns = s.sge.txns := by simp)
    (vcp : t.vcp = s.vcp := by simp) (txt : t.txt = s.txt := by simp) (host : t.hlc.host = s.hlc.host := by simp) :
    t.Ordered ∧ (∀ y, State.sameWork y s t) ∧ ∀ y, t.idle y ↔ s.idle y := by
  have like : s.Like { t with mob := s.mob, sbs := s.sbs } :=
    { State.Like.refl s with
      ctx := fun i => by
        have e : State.ctx { t with mob := s.mob, sbs := s.sbs } i = s.ctx i := State.ctx_congr (congrArg Cal.contexts cal) i
        rw [e]; exact .refl _
      length := by show t.cal.contexts.length = _; rw [cal]
      stack := congrArg Cal.holdStack cal
      txns := fun i => by show (entryAt t.sge.txns i).map _ = _; rw [txns]
      outgoing := fun y => by show (t.txt.outgoing.get y).isSome = _; rw [txt]; rfl
      voice := by show t.vcp.call = _ ∧ (t.vcp.playout = _ ↔ _); rw [vcp]; exact ⟨rfl, .rfl⟩
      host := fun h => by rw [← host]; exact h }
  obtain ⟨h1, h2, h3, h4⟩ := like.ordered k
  exact ⟨⟨h1, h2, h3, h4⟩, like.sameWork, like.idle⟩

/-! ### Teardowns (R17, R24, R134) -/

theorem State.endAllCtxs_works (k : s.Ordered) (x : Sub) (cause : Cause) : s.Works x (s.endAllCtxs x cause) := by
  have ended : ∀ (l : List Nat) (t : State), t.Ordered → l.Nodup → (∀ i ∈ l, i < 3 ∧ (t.ctx i).sub = x) →
      t.Works x (l.foldl (fun s i => (s.recordCause i cause).endCtx i none) t) := by
    intro l
    induction l with
    | nil => exact fun t kt _ _ => .refl kt x
    | cons i l ih =>
      intro t kt nodup hl
      obtain ⟨fresh, nodup⟩ := List.nodup_cons.1 nodup
      obtain ⟨lt, hx⟩ := hl i List.mem_cons_self
      have one := State.recordEnd_works kt cause none lt hx
      refine one.trans (ih _ one.ordered nodup fun j hj => ?_)
      have ne : i ≠ j := fun e => fresh (e ▸ hj)
      rw [State.endCtx_ctx, if_neg ne, (t.recordCause_ctx i cause j).2 ne]
      exact hl j (List.mem_cons_of_mem _ hj)
  have failed : s.Like (if s.hasCtx x then s.failPending x else s) := by split <;> simp
  refine (failed.works k x).trans (ended _ _ (failed.ordered k) ((show ctxIndexes.Nodup by decide).filter _) fun i hi => ?_)
  obtain ⟨hi, own⟩ := List.mem_filter.1 hi
  obtain ⟨-, sub⟩ := Bool.and_eq_true_iff.1 own
  exact ⟨by simp [ctxIndexes] at hi; omega, by simpa using sub⟩

/-- A teardown tells the owner of a transaction of `x`, which opens none. -/
theorem State.teardownOutcome_works (k : s.Ordered) {p : Txn} (hp : p.sub = x) {o : TxnOutcome} (ho : o = .noService ∨ o = .detached) :
    s.Works x (s.teardownOutcome p o) ∧ (s.teardownOutcome p o).sge.txns = s.sge.txns := by
  unfold State.teardownOutcome
  subst hp
  split
  · refine ⟨State.textOutEnded_works k o, ?_⟩
    rcases ho with e | e <;> subst e <;> exact (State.failText_gone ..).2.1
  · refine ⟨State.areaEnded_works k o none, ?_⟩
    rcases ho with e | e <;> subst e <;> simp [State.areaEnded]
  · exact ⟨State.Like.works (by simp) k _, by unfold State.passOutcome; split <;> simp⟩
  all_goals exact ⟨.refl k _, rfl⟩

theorem State.teardownSge_works (k : s.Ordered) (x : Sub) {o : TxnOutcome} (ho : o = .noService ∨ o = .detached) :
    s.Works x (s.teardownSge x o) ∧ (s.teardownSge x o).txnsOf x = [] := by
  have ended : ∀ (l : List (Nat × Txn)) (t : State), t.Ordered → (l.map Prod.fst).Nodup →
      (∀ e ∈ l, entryAt t.sge.txns e.1 = some e.2 ∧ e.2.sub = x) →
      t.Works x (l.foldl (fun s e => (s.freeTxn e.1).teardownOutcome e.2 o) t) ∧
        ∀ j, entryAt (l.foldl (fun s e => (s.freeTxn e.1).teardownOutcome e.2 o) t).sge.txns j =
          if j ∈ l.map Prod.fst then none else entryAt t.sge.txns j := by
    intro l
    induction l with
    | nil => exact fun t kt _ _ => ⟨.refl kt x, fun j => by simp⟩
    | cons e l ih =>
      intro t kt nodup hl
      rw [List.map_cons, List.nodup_cons] at nodup
      obtain ⟨fresh, nodup⟩ := nodup
      obtain ⟨he, hx⟩ := hl e List.mem_cons_self
      have freed := State.freeTxn_works kt he
      rw [hx] at freed
      obtain ⟨told, txns⟩ := State.teardownOutcome_works freed.ordered hx ho
      have table (j : Nat) : entryAt ((t.freeTxn e.1).teardownOutcome e.2 o).sge.txns j = if e.1 = j then none else entryAt t.sge.txns j := by
        rw [txns, (State.freeTxn_table he).1, entryAt_set]
        exact if_congr ⟨And.left, fun h => ⟨h, lt_of_entryAt he⟩⟩ rfl rfl
      obtain ⟨works, rest⟩ := ih _ told.ordered nodup fun f hf => by
        have apart : e.1 ≠ f.1 := fun h => fresh (List.mem_map.2 ⟨f, hf, h.symm⟩)
        rw [table, if_neg apart]; exact hl f (List.mem_cons_of_mem _ hf)
      refine ⟨(freed.trans told).trans works, fun j => ?_⟩
      rw [List.foldl_cons, rest, table]
      by_cases hj : j = e.1
      · simp [hj]
      · rw [if_neg (Ne.symm hj), List.map_cons]
        exact if_congr (by simp [List.mem_cons, hj]) rfl rfl
  have nodup : ((s.txnsOf x).map Prod.fst).Nodup := by
    rw [List.Nodup, List.pairwise_map]
    exact ((taken_sorted s.sge.txns).filter _).imp Nat.ne_of_lt
  have mine (e : Nat × Txn) (he : e ∈ s.txnsOf x) : entryAt s.sge.txns e.1 = some e.2 ∧ e.2.sub = x := by
    obtain ⟨i, p⟩ := e
    simpa [State.txnsOf, State.openTxns, mem_taken] using he
  obtain ⟨works, table⟩ := ended _ s k nodup mine
  refine ⟨works.like (State.emptyUplink_like x (.refl _)), (State.txnsOf_nil_iff ..).2 fun i p hp hx => ?_⟩
  have entry := (table i).symm.trans hp
  split at entry
  · cases entry
  next free => exact free (List.mem_map.2 ⟨(i, p), by simp [State.txnsOf, State.openTxns, mem_taken, entry, hx], rfl⟩)

/-- What a teardown of `x` leaves: nothing under way, no serving cell. -/
structure State.Gone (x : Sub) (s t : State) : Prop where
  ordered : t.Ordered
  aside : s.Aside x t
  idle : t.idle x
  serving : t.serving x = none
  returnRec : (t.mobOf x).returnRec = none

theorem State.Gone.sound (g : s.Gone x t) (k : s.Sound) : t.Sound :=
  g.aside.sound k g.ordered (fun r h => by rw [g.returnRec] at h; cases h) (fun _ => g.idle) fun _ => g.serving

/-- Everything of `x` ends: its contexts, its transactions, its text (R17, R24, R25). -/
theorem State.endWork_works (k : s.Ordered) (x : Sub) (cause : Cause) {o : TxnOutcome} (ho : o = .noService ∨ o = .detached) (c : TextFailCause)
    (g : State → State) (hg : ∀ u : State, u.Like (g u)) :
    s.Works x ((g ((s.endAllCtxs x cause).teardownSge x o)).failText x c) ∧ ((g ((s.endAllCtxs x cause).teardownSge x o)).failText x c).idle x := by
  have ctxs := State.endAllCtxs_works k x cause
  obtain ⟨txns, none⟩ := State.teardownSge_works ctxs.ordered x ho
  have torn := (ctxs.trans txns).like (hg _)
  obtain ⟨noText, table, -, -⟩ := State.failText_gone x c (g ((s.endAllCtxs x cause).teardownSge x o))
  have noCtx : ((s.endAllCtxs x cause).teardownSge x o).hasCtx x = false := by
    have e : ((s.endAllCtxs x cause).teardownSge x o).cal = (s.endAllCtxs x cause).cal := by simp
    have := (State.endAllCtxs_tears x cause s).2
    unfold State.hasCtx State.ctxOf State.ctx at this ⊢
    rw [e]; exact this
  refine ⟨torn.trans (State.failText_works torn.ordered c), ?_, ?_, noText⟩
  · have e : ((g ((s.endAllCtxs x cause).teardownSge x o)).failText x c).cal = (g ((s.endAllCtxs x cause).teardownSge x o)).cal := by simp
    have := ((hg _).hasCtx x).trans noCtx
    unfold State.hasCtx State.ctxOf State.ctx at this ⊢
    rw [e]; exact this
  · have := ((hg _).txnsOf x).2 none
    unfold State.txnsOf State.openTxns at this ⊢
    rw [table]; exact this

end Aside

end Sys2Proof.Machine
end

section
/-! Sitting 2: the loss of service, and the settling of a subscription at the end of its work (O59). -/

namespace Sys2Proof.Machine

section Loss
variable {s t u : State} {x : Sub}

/-! ### Loss of service (R24) -/

theorem State.Gone.like (g : s.Gone x t) (h : t.Like u) : s.Gone x u where
  ordered := h.ordered g.ordered
  aside := g.aside.trans (h.aside x)
  idle := (h.idle x).2 g.idle
  serving := (h.serving x).2 g.serving
  returnRec := by
    cases hr : (u.mobOf x).returnRec with
    | none => rfl
    | some r =>
      have := ((h.cells x).2 (fun r' h' => by rw [g.returnRec] at h'; cases h') r hr).2
      have none := (h.serving x).2 g.serving
      unfold State.serving at none
      rw [none] at this; cases this

theorem State.writeActivity_activity (s : State) (x : Sub) (a : Activity) :
    (s.writeActivity x a).activity x = a ∧ (s.writeActivity x a).activity x.other = s.activity x.other := by
  unfold State.activity
  rw [State.writeActivity_record, State.writeActivity_record, if_pos rfl, if_neg (other_ne x)]
  exact ⟨rfl, rfl⟩

/-- The activity state of `x` written: nothing else that the rules see changes. -/
theorem State.writeActivity_aside (k : s.Ordered) (x : Sub) (a : Activity) :
    (s.writeActivity x a).Ordered ∧ s.Aside x (s.writeActivity x a) ∧ (∀ y, State.sameWork y s (s.writeActivity x a)) ∧
      ∀ y, (s.writeActivity x a).mobOf y = s.mobOf y := by
  obtain ⟨ordered, work, -⟩ := k.keepCalls (t := s.writeActivity x a) (txns := (s.writeActivity_tables x a).2)
  have mob : ∀ y, (s.writeActivity x a).mobOf y = s.mobOf y := fun y => by simp [State.mobOf]
  exact ⟨ordered, ⟨work _, by rw [mob]; exact .refl _, (s.writeActivity_activity x a).2⟩, work, mob⟩

/-- MOB's record of `x` changes: nothing else that the rules see does. -/
theorem State.onMobOf_aside (k : s.Ordered) (x : Sub) (f : MobSub → MobSub) :
    (s.onMobOf x f).Ordered ∧ s.Aside x (s.onMobOf x f) ∧ ((s.onMobOf x f).idle x ↔ s.idle x) := by
  obtain ⟨ordered, work, idle⟩ := k.keepCalls (t := s.onMobOf x f)
  exact ⟨ordered, ⟨work _, by rw [State.onMobOf_other]; exact .refl _, rfl⟩, idle x⟩

theorem State.onMobOf_self (x : Sub) (f : MobSub → MobSub) (s : State) : (s.onMobOf x f).mobOf x = f (s.mobOf x) := PerSub.get_upd_same ..

theorem State.onMobOf_activity (x y : Sub) (f : MobSub → MobSub) (s : State) : (s.onMobOf x f).activity y = s.activity y := rfl

theorem State.loseService_gone (k : s.Ordered) (hc : (s.activity x).isCampedState = true) :
    s.Gone x (s.loseService x) ∧ (s.loseService x).activity x = .noService := by
  let freq := (s.serving x).map (·.freq)
  let cut := s.onMobOf x fun m => { m with serving := none, lastFreq := freq.orElse fun _ => m.lastFreq }
  let off := cut.writeActivity x .noService
  let torn := (((off.endAllCtxs x .radioLost).teardownSge x .noService).withdraw x .signalling).failText x .noService
  let left := ((((torn.withdrawPaging x).onPscOf x PscSub.tornDown).withdraw x .measure).withdraw x .beaconRead).withdraw x .handoverAccess
  let bare := left.onMobOf x MobSub.afterLoss
  have last : s.loseService x = (((bare.placeSearch x).setFilter x false).updateStanding x).clearDue .update x := by
    unfold State.loseService
    rw [if_neg (by simp [hc])]
  obtain ⟨cutOrdered, cutAside, -⟩ := State.onMobOf_aside (f := fun m => { m with serving := none, lastFreq := freq.orElse fun _ => m.lastFreq }) k x
  obtain ⟨offOrdered, offAside, -, -⟩ := State.writeActivity_aside (s := cut) cutOrdered x .noService
  obtain ⟨tornWorks, tornIdle⟩ := State.endWork_works (s := off) offOrdered x .radioLost (.inl rfl) .noService (fun u => u.withdraw x .signalling)
    fun u => State.withdraw_like x .signalling (.refl u)
  have leftLike : torn.Like left := by simp (maxDischargeDepth := 20) [left]
  obtain ⟨bareOrdered, bareAside, bareIdle⟩ := State.onMobOf_aside (f := MobSub.afterLoss) (leftLike.ordered tornWorks.ordered) x
  have gone : s.Gone x bare :=
    { ordered := bareOrdered
      aside := cutAside.trans (offAside.trans (tornWorks.aside.trans ((leftLike.aside x).trans bareAside)))
      idle := bareIdle.2 ((leftLike.idle x).2 tornIdle)
      serving := by unfold State.serving; rw [State.onMobOf_self]; rfl
      returnRec := by rw [State.onMobOf_self]; rfl }
  have tail : bare.Like (s.loseService x) := by rw [last]; simp (maxDischargeDepth := 20)
  refine ⟨gone.like tail, ?_⟩
  rw [tail.activity, State.onMobOf_activity, leftLike.activity, tornWorks.activity]
  exact (State.writeActivity_activity cut x .noService).1

theorem State.Gone.settled (g : s.Gone x t) (h : t.activity x = .noService) : t.settled x := by
  unfold State.settled State.derivedActivity
  rw [h, g.serving]
  rfl

/-! ### Settling (R20, R21) -/

/-- What the settling of `x` makes of `s`: the rules hold, and the activity state of `x` is recorded. -/
structure State.Turned (x : Sub) (s t : State) : Prop where
  sound : t.Sound
  settled : t.settled x
  aside : s.Aside x t

theorem State.Turned.like (h : s.Turned x t) (k : t.Like u) : s.Turned x u :=
  ⟨k.sound h.sound, (k.settled x).2 h.settled, h.aside.trans (k.aside x)⟩

theorem State.Like.turned (h : s.Like t) (k : t.Turned x u) : s.Turned x u := ⟨k.sound, k.settled, (h.aside x).trans k.aside⟩

theorem State.Turned.trans (h : s.Turned x t) (k : t.Turned x u) : s.Turned x u := ⟨k.sound, k.settled, h.aside.trans k.aside⟩

theorem State.Sound.turned (k : s.Sound) (h : s.settled x) : s.Turned x s := ⟨k, h, (State.Like.refl s).aside x⟩

theorem State.loseService_turned (k : s.Sound) (hc : (s.activity x).isCampedState = true) : s.Turned x (s.loseService x) := by
  obtain ⟨gone, activity⟩ := State.loseService_gone k.toOrdered hc
  exact ⟨gone.sound k, gone.settled activity, gone.aside⟩

theorem State.enterCamped_turned (k : s.Sound) (h : s.settled x) (hc : s.activity x = .camped) : s.Turned x (s.enterCamped x) := by
  have like : s.Like (s.setFilter x false) := by simp
  unfold State.enterCamped
  dsimp only
  split
  · exact like.turned (State.loseService_turned (like.sound k) (by rw [like.activity, hc]; rfl))
  · exact (k.turned h).like (by simp (maxDischargeDepth := 20))

theorem State.derivedActivity_detached (h : s.derivedActivity x = .detached) : s.activity x = .detached := by
  rcases s.derived_cases x with ⟨h', -⟩ | ⟨-, -, h'⟩ | ⟨-, -, -, h'⟩ | ⟨-, -, -, -, h'⟩ | ⟨-, -, -, h'⟩
  · exact h'
  all_goals rw [h] at h'; cases h'

/-- The derived activity state written is the one derived. -/
theorem State.writeDerived_turned (k : s.Sound) (hne : s.activity x ≠ s.derivedActivity x) : s.Turned x (s.writeActivity x (s.derivedActivity x)) := by
  obtain ⟨ordered, aside, work, mob⟩ := State.writeActivity_aside k.toOrdered x (s.derivedActivity x)
  obtain ⟨own, -⟩ := s.writeActivity_activity x (s.derivedActivity x)
  have serving : (s.writeActivity x (s.derivedActivity x)).serving x = s.serving x := by unfold State.serving; rw [mob]
  have before : s.activity x ≠ .detached := fun e => hne (by simp [State.derivedActivity, e])
  have after : s.derivedActivity x ≠ .detached := fun e => before (State.derivedActivity_detached e)
  refine ⟨aside.sound k ordered (by unfold State.serving; rw [mob]; exact k.returns x) (fun h => ?_) (fun h => absurd (own ▸ h) after), ?_, aside⟩
  · exact (work x).idle.2 (k.served x (serving ▸ h))
  · refine own.trans ((work x).derivedActivity (by rw [serving]) ?_).symm
    rw [own]
    exact ⟨fun h => absurd h after, fun h => absurd h before⟩

theorem State.derive_turned (k : s.Sound) (x : Sub) : s.Turned x (s.derive x) := by
  unfold State.derive
  dsimp only
  refine State.Turned.like ?_ (State.updateStanding_like x (.refl _))
  by_cases e : s.activity x = s.derivedActivity x
  · rw [if_pos e, if_pos e]; exact k.turned e
  · rw [if_neg e, if_neg e]
    have wrote := State.writeDerived_turned k e
    have own := (s.writeActivity_activity x (s.derivedActivity x)).1
    split
    · next hd => exact wrote.trans (State.enterCamped_turned wrote.sound wrote.settled (own.trans hd))
    · split
      · exact wrote
      · exact wrote.like (by simp)
    · split
      · exact wrote
      · exact wrote.like (by simp)
    · exact wrote
    · exact wrote

theorem State.settleAlone_turned (k : s.Sound) (x : Sub) : s.Turned x (s.settleAlone x) :=
  (State.derive_turned k x).like (State.reexamine_like x (.refl _))

/-! ### Owners that try again (R5) -/

theorem State.tryOnce_works (k : s.Sound) (w : WaitKind) (x : Sub) :
    s.Works x (s.tryOnce w x) ∧ (s.serving x = none → (s.tryOnce w x).idle x) := by
  unfold State.tryOnce
  split
  · split
    · refine ⟨State.retryUpdate_works k.toOrdered, fun h => ?_⟩
      rw [show s.retryUpdate x = s by unfold State.retryUpdate; rw [h]]
      exact k.served x h
    · exact ⟨.refl k.toOrdered x, k.served x⟩
  · split
    · next due =>
      refine ⟨State.sendSegment_works k.toOrdered, fun h => ?_⟩
      rw [(k.served x h).2.2] at due; cases due
    · exact ⟨.refl k.toOrdered x, k.served x⟩

/-- A waiter's try and the settling of its subscription. -/
theorem State.tryAndSettle_turned (k : s.Sound) (w : WaitKind) (x : Sub) : s.Turned x (((s.clearDue w x).tryOnce w x).settleAlone x) := by
  have like : s.Like (s.clearDue w x) := by simp
  obtain ⟨works, idle⟩ := State.tryOnce_works (like.sound k) w x
  have turned := State.settleAlone_turned (works.sound (like.sound k) idle) x
  exact like.turned ⟨turned.sound, turned.settled, works.aside.trans turned.aside⟩

theorem State.Turned.callsOk (h : s.Turned x t) (peer : s.settled x.other) : t.callsOk :=
  t.callsOk_iff.2 ⟨h.sound, fun y => by
    by_cases e : y = x
    · subst e; exact h.settled
    · obtain rfl := State.eq_other_of_ne e; exact h.aside.settled.2 peer⟩

theorem State.tryWaiters_callsOk (k : s.callsOk) : (s.tryWaiters none).callsOk := by
  have each : ∀ (l : List Waiter) (t : State), t.callsOk → (l.foldl (State.tryWaiter none) t).callsOk := by
    intro l
    induction l with
    | nil => exact fun t h => h
    | cons e l ih =>
      intro t h
      obtain ⟨sound, settled⟩ := t.callsOk_iff.1 h
      refine ih _ ?_
      unfold State.tryWaiter
      dsimp only
      rw [if_neg (by simp)]
      exact (State.tryAndSettle_turned sound e.what e.sub).callsOk (settled _)
  exact each _ s k

theorem State.tryWaiter_peered (p : s.Peered x) (e : Waiter) : (State.tryWaiter (some x) s e).Peered x := by
  unfold State.tryWaiter
  dsimp only
  by_cases he : e.sub = x
  · rw [if_pos (by rw [he]), he]
    have cleared := p.like (State.clearDue_like e.what x (.refl s))
    obtain ⟨works, idle⟩ := State.tryOnce_works cleared.toSound e.what x
    exact cleared.works works idle
  · rw [if_neg fun h => he (Option.some.inj h).symm, State.eq_other_of_ne he]
    have turned := State.tryAndSettle_turned p.toSound e.what x.other
    exact ⟨turned.sound, turned.settled⟩

theorem State.tryWaiters_peered (p : s.Peered x) : (s.tryWaiters (some x)).Peered x := by
  have each : ∀ (l : List Waiter) (t : State), t.Peered x → (l.foldl (State.tryWaiter (some x)) t).Peered x := by
    intro l
    induction l with
    | nil => exact fun t h => h
    | cons e l ih => exact fun t h => ih _ (State.tryWaiter_peered h e)
  exact each _ s p

/-! ### The ends of the steps (R5, R21, R24) -/

theorem State.Peered.settle (p : s.Peered x) : (s.settle x).callsOk := by
  have turned := (State.settleAlone_turned p.toSound x).callsOk p.peer
  unfold State.settle
  dsimp only
  split
  · exact State.tryWaiters_callsOk turned
  · exact turned

theorem State.Peered.lose (p : s.Peered x) (hc : (s.activity x).isCampedState = true ∨ s.settled x) : (s.lose x).callsOk := by
  refine State.tryWaiters_callsOk ?_
  by_cases h : (s.activity x).isCampedState = true
  · exact (State.loseService_turned p.toSound h).callsOk p.peer
  · rw [show s.loseService x = s by unfold State.loseService; rw [if_pos (by simpa using h)]]
    exact (p.toSound.turned (hc.resolve_left h)).callsOk p.peer

theorem State.callsOk.peered (k : s.callsOk) (x : Sub) : s.Peered x :=
  have ⟨sound, settled⟩ := s.callsOk_iff.1 k
  ⟨sound, settled _⟩

theorem State.callsOk.midst (k : s.callsOk) (h : s.serving x ≠ none) : s.Midst x := ⟨k.peered x, h⟩

/-- Where something of `x` is under way, it is served (R24). -/
theorem State.callsOk.midst_of (k : s.callsOk) (h : ¬ s.idle x) : s.Midst x :=
  k.midst fun hn => h ((k.peered x).served x hn)

theorem State.callsOk.like (k : s.callsOk) (h : s.Like t) : t.callsOk := by
  obtain ⟨sound, settled⟩ := s.callsOk_iff.1 k
  exact t.callsOk_iff.2 ⟨h.sound sound, fun x => (h.settled x).2 (settled x)⟩

theorem State.endTxnWith_callsOk (k : s.callsOk) (i : Nat) (o : TxnOutcome) (accept : Option (Nat × Option AliasValue)) :
    (s.endTxnWith i o accept).callsOk := by
  unfold State.endTxnWith
  split
  · exact k
  · next p hp =>
    have m : s.Midst p.sub := k.midst_of fun h => (State.txnsOf_nil_iff s _).1 h.2.1 i p hp rfl
    have freed := State.freeTxn_works m.toOrdered hp
    have ctx : ∀ j, (s.freeTxn i).ctx j = s.ctx j := State.ctx_congr (by simp)
    have told := State.tellOwner_works (m.works freed) (p := p) rfl (fun j hj hn => by
      rw [ctx] at hn ⊢; exact m.contexts.2.2.2.2.2.2.2 i p j hp hj hn) o accept
    exact (State.tryWaiters_peered ((m.works freed).works told).toPeered).settle

end Loss

end Sys2Proof.Machine
end

section
/-! Sitting 2: the Mobility Unit keeps the rules of the calls (O59). -/

namespace Sys2Proof.Machine

section Facts
variable {s t : State} {x : Sub}

/-! ### What the recorded activity states say -/

theorem State.callsOk.settled (k : s.callsOk) (x : Sub) : s.settled x := (s.callsOk_iff.1 k).2 x

theorem State.callsOk.inCall_iff (k : s.callsOk) (x : Sub) : s.activity x = .inCall ↔ s.hasCall x = true := by
  have settled : s.activity x = s.derivedActivity x := k.settled x
  rcases s.derived_cases x with ⟨h, hd⟩ | ⟨-, h, hd⟩ | ⟨-, -, h, hd⟩ | ⟨-, -, h, -, hd⟩ | ⟨-, -, h, hd⟩
  · have := State.hasCall_idle ((k.peered x).served x ((k.peered x).attached x h))
    rw [settled, hd, this]; decide
  · have := State.hasCall_idle ((k.peered x).served x h)
    rw [settled, hd, this]; decide
  · rw [settled, hd, h]; decide
  · rw [settled, hd, h]; decide
  · rw [settled, hd, State.hasCall_idle h]; decide

theorem State.callsOk.uncalled (k : s.callsOk) (h : s.activity x ≠ .inCall) : s.hasCall x = false := by
  by_contra hc
  exact h ((k.inCall_iff x).2 (Bool.of_not_eq_false hc))

theorem State.callsOk.served (k : s.callsOk) (h : (s.activity x).isCampedState = true) : s.serving x ≠ none := fun hn => by
  have settled : s.activity x = s.derivedActivity x := k.settled x
  rcases s.derived_cases x with ⟨ha, -⟩ | ⟨-, -, hd⟩ | ⟨-, h', -⟩ | ⟨-, h', -⟩ | ⟨-, h', -⟩
  · rw [ha] at h; cases h
  · rw [settled, hd] at h; cases h
  all_goals exact h' hn

/-- Work of a served subscription, and its settling. -/
theorem State.Midst.settled (m : s.Midst x) (w : s.Works x t) : (t.settle x).callsOk := (m.works w).toPeered.settle

theorem State.offer_none {o : Offer} (e : s.offer x o = (none, t)) : t = s := by
  unfold State.offer at e
  (repeat' split at e) <;> cases e
  rfl

end Facts

section Mobility
variable {s t : State} {x : Sub}

/-! ### A measurement result (R93) -/

/-- MOB's record still has its serving cell, or none, and its handover. -/
def MobSub.Kept (m n : MobSub) : Prop := n.serving.isSome = m.serving.isSome ∧ n.returnRec = m.returnRec ∧ n.hoState = m.hoState

theorem MobSub.Kept.trans {a b c : MobSub} (h : a.Kept b) (k : b.Kept c) : a.Kept c :=
  ⟨k.1.trans h.1, k.2.1.trans h.2.1, k.2.2.trans h.2.2⟩

theorem MobSub.Kept.like {m n : MobSub} (h : m.Kept n) : m.Like n := by
  obtain ⟨h1, h2, h3⟩ := h
  exact ⟨h1, fun k r hr => by rw [h2] at hr; rw [h1, h3]; exact k r hr⟩

theorem MobSub.applyEntry_kept (m : MobSub) (e : ListedCell × Option Int) : m.Kept (m.applyEntry e) := by
  unfold MobSub.applyEntry
  split
  · split
    · next h _ =>
      split
      · exact ⟨by simp [h], rfl, rfl⟩
      · exact ⟨rfl, rfl, rfl⟩
    · exact ⟨rfl, rfl, rfl⟩
  · (repeat' split) <;> exact ⟨rfl, rfl, rfl⟩

theorem MobSub.applyEntries_kept (l : List (ListedCell × Option Int)) (m : MobSub) : m.Kept (l.foldl MobSub.applyEntry m) := by
  induction l generalizing m with
  | nil => exact ⟨rfl, rfl, rfl⟩
  | cons e l ih => exact (m.applyEntry_kept e).trans (ih _)

theorem MobSub.ranked_kept (m : MobSub) (cells : List ListedCell) : m.Kept (m.advanceRotation cells).rerank := by
  have advanced : m.Kept (m.advanceRotation cells) := by
    unfold MobSub.advanceRotation
    split <;> exact ⟨rfl, rfl, rfl⟩
  refine advanced.trans ?_
  unfold MobSub.rerank
  split <;> exact ⟨rfl, rfl, rfl⟩

theorem MobSub.trigger_kept (m : MobSub) : m.Kept m.trigger.2 := by
  unfold MobSub.trigger
  split
  · exact ⟨rfl, rfl, rfl⟩
  · dsimp only
    (repeat' split) <;> exact ⟨rfl, rfl, rfl⟩

theorem State.offerReport_callsOk (k : s.callsOk) (h : s.activity x = .inCall) : (s.offerReport x).callsOk := by
  have call := (k.inCall_iff x).1 h
  have quiet := State.hasCall_idle ((k.peered x).apart x call)
  have m : s.Midst x := k.midst_of fun hi => by rw [State.hasCall_idle hi] at call; cases call
  unfold State.offerReport
  split
  · next e =>
    have works := State.offer_works (x := x) m.toOrdered ⟨some .mob, some .measReport, 0, none, (s.mobOf x).reportBody⟩ (fun _ => quiet)
      fun c e => by cases e
    rw [e] at works
    exact m.settled works
  · next e =>
    rw [State.offer_none e]
    exact k.like (by simp)

theorem State.actOnFiring_callsOk (k : s.callsOk) (i : Nat) : (s.actOnFiring x i).callsOk := by
  unfold State.actOnFiring
  split
  · split <;> exact k.like (by simp)
  · next h _ =>
    split
    · exact State.offerReport_callsOk k h
    · exact k.like (by simp)
  · exact k.like (by simp)

theorem State.afterResult_callsOk (k : s.callsOk) (fires : Option Nat) : (s.afterResult x fires).callsOk := by
  have given : ((s.giveServingLevel x).onMobOf x fun m => { m with guard := countDown m.guard }).callsOk :=
    k.like (by simp (maxDischargeDepth := 20))
  unfold State.afterResult
  dsimp only
  split
  · exact given.like (by simp)
  · exact (State.actOnFiring_callsOk given _).like (State.refreshRead_like x (.refl _))

theorem State.processResult_callsOk (k : s.callsOk) (cells : List ListedCell) (result : List (Option Int)) :
    (s.processResult x cells result).callsOk := by
  let entries := pairResult cells result
  let heard := (s.mobOf x).servingEntry entries
  let found := ((entries.foldl MobSub.applyEntry (s.mobOf x)).advanceRotation cells).rerank.trigger
  have kept : (s.mobOf x).Kept found.2 := (MobSub.applyEntries_kept ..).trans ((MobSub.ranked_kept ..).trans (MobSub.trigger_kept _))
  have taken : ((s.onMobOf x fun _ => found.2).onServing x fun v => v.floorAfter heard).callsOk :=
    k.like (State.onServing_like x _ (State.onMobOf_like (.refl s) kept.like))
  unfold State.processResult
  dsimp only
  split
  · exact (taken.peered x).lose (.inr (taken.settled x))
  · exact State.afterResult_callsOk taken _

theorem State.measureEnded_callsOk (k : s.callsOk) (code : EndCode) (cells : List ListedCell) (result : Option (List (Option Int))) :
    (s.measureEnded x code cells result).callsOk := by
  unfold State.measureEnded
  split
  · exact State.processResult_callsOk k _ _
  · exact k

/-! ### Reads and camping (R103, R106) -/

theorem State.serves_of {v : Serving} (h : s.serving x = some v) : s.serving x ≠ none := fun e => by rw [h] at e; cases e

theorem State.mob_serving {v : Serving} (h : s.serving x = some v) : (s.mobOf x).serving.isSome = true := by
  have h : (s.mobOf x).serving = some v := h
  rw [h]; rfl

theorem State.reselect_callsOk (k : s.callsOk) {v : Serving} (hv : s.serving x = some v) (i : Nat) (n : Neighbour) (b : BeaconBlock) :
    (s.reselect x i v n b).callsOk := by
  have swapped : s.Like ((s.onMobOf x fun m => m.swap i v n b).servingSet x) :=
    State.servingSet_like x (State.onMobOf_like (.refl s) (MobSub.Kept.like ⟨by rw [State.mob_serving hv]; rfl, rfl, rfl⟩))
  have m := (k.midst (State.serves_of hv)).like swapped
  have passed := State.areaPassed_works (x := x) m.toOrdered
  exact m.settled (passed.like (State.report_like _ (State.replacePaging_like x (State.clearRelax_like x (.refl _)))))

theorem State.readEnded_callsOk (k : s.callsOk) (code : EndCode) (kept : Option BeaconBlock) : (s.readEnded x code kept).callsOk := by
  have cleared : (s.onMobOf x fun m => { m with readPurpose := none }).callsOk := k.like (by simp)
  have failed : ∀ i c, ((s.onMobOf x fun m => { m with readPurpose := none }).readFailed x i c).callsOk := fun i c => cleared.like (by simp)
  unfold State.readEnded
  dsimp only
  split
  · exact cleared
  · split
    · next hv _ =>
      split
      · exact State.reselect_callsOk cleared hv _ _ _
      · exact failed _ _
    · exact failed _ _
  · exact failed _ _
  · exact cleared
  · exact cleared

/-- The subscription camps on a cell found (R103). -/
theorem State.camp_midst (k : s.callsOk) (ha : s.activity x = .noService) (freq : Nat) (b : BeaconBlock) :
    (s.onMobOf x fun m => m.camp freq b).Midst x := by
  have p := k.peered x
  have bare : s.serving x = none := by
    have settled : s.activity x = s.derivedActivity x := k.settled x
    rcases s.derived_cases x with ⟨h, -⟩ | ⟨-, h, -⟩ | ⟨-, -, -, hd⟩ | ⟨-, -, -, -, hd⟩ | ⟨-, -, -, hd⟩
    · rw [ha] at h; cases h
    · exact h
    all_goals rw [← settled, ha] at hd; cases hd
  obtain ⟨ordered, aside, idle⟩ := State.onMobOf_aside p.toOrdered x fun m => m.camp freq b
  have self := State.onMobOf_self x (fun m => m.camp freq b) s
  have now : (s.onMobOf x fun m => m.camp freq b).serving x ≠ none := by
    unfold State.serving; rw [self]; simp [MobSub.camp]
  have noReturn : ∀ r, (s.mobOf x).returnRec ≠ some r := fun r hr => by
    have := (p.returns x r hr).2
    rw [bare] at this; cases this
  refine ⟨⟨aside.sound p.toSound ordered (fun r hr => ?_) (fun h => absurd h now) (fun h => ?_), aside.settled.2 p.peer⟩, now⟩
  · rw [self] at hr; exact absurd hr (noReturn r)
  · rw [State.onMobOf_activity, ha] at h; cases h

theorem State.searchEnded_callsOk (k : s.callsOk) (code : EndCode) (freq : Nat) (kept : Option BeaconBlock) :
    (s.searchEnded x code freq kept).callsOk := by
  unfold State.searchEnded
  split
  · exact k
  · next b =>
    split
    · next h =>
      have ha : s.activity x = .noService := by simp at h; exact h.2
      have m := (State.camp_midst k ha freq b).like (State.servingSet_like x (.refl _))
      exact (m.settled (State.areaPassed_works m.toOrdered)).like (State.withdraw_like x .search (State.placeMeasure_like x (.refl _)))
    · exact k

/-! ### Beacons (R100) -/

theorem State.Like.ite {c : Prop} [Decidable c] {a b : State} (h : s.Like a) (k : s.Like b) : s.Like (if c then a else b) := by
  split
  · exact h
  · exact k

theorem State.refreshServing_callsOk (k : s.callsOk) {v : Serving} (hv : s.serving x = some v) (b : BeaconBlock) :
    (s.refreshServing x v b).callsOk := by
  let moved := v.offset != b.offset || v.phase != b.phase
  let held := s.onServing x fun v => v.refreshed b
  let copied := if moved then held.setCopy x else held
  let planned := if moved || v.c != b.c then copied.recomputeSchedule x else copied
  let levelled := if v.qmin != b.qmin then (planned.onMobOf x MobSub.rerankAnew).giveServingLevel x else planned
  have heldLike : s.Like held := State.onServing_like x _ (.refl s)
  have copiedLike : s.Like copied := .ite (State.setCopy_like x heldLike) heldLike
  have plannedLike : s.Like planned := .ite (State.recomputeSchedule_like x copiedLike) copiedLike
  have levelledLike : s.Like levelled :=
    .ite (State.giveServingLevel_like x (State.onMobOf_like_of_fields plannedLike fun m => m.rerankAnew_fields)) plannedLike
  have m := (k.midst (State.serves_of hv)).like levelledLike
  show (if b.barred && copied.activity x == .camped then copied.lose x
    else (if v.area != b.area then levelled.areaPassed x else levelled).settle x).callsOk
  split
  · have ok := k.like copiedLike
    exact (ok.peered x).lose (.inr (ok.settled x))
  · refine m.settled ?_
    split
    · exact State.areaPassed_works m.toOrdered
    · exact .refl m.toOrdered x

theorem State.beaconDelivered_callsOk (k : s.callsOk) (kind : ClaimKind) (first : Frame) (b : BeaconBlock) :
    (s.beaconDelivered x kind first b).callsOk := by
  have ok : (s.keepBeacon x kind first b).callsOk := k.like (by simp)
  unfold State.beaconDelivered
  dsimp only
  split
  · exact ok
  · next hv =>
    split
    · exact State.refreshServing_callsOk ok hv b
    · exact ok

/-! ### Handover (R111 to R117) -/

theorem State.callsOk.serves_of_return (k : s.callsOk) {r : ReturnRecord} (h : (s.mobOf x).returnRec = some r) : s.serving x ≠ none := fun hn => by
  have := ((k.peered x).returns x r h).2
  rw [hn] at this; cases this

theorem State.accessSucceeded_callsOk (k : s.callsOk) {r : ReturnRecord} (hr : (s.mobOf x).returnRec = some r) (cmd : HoCommand) :
    (s.accessSucceeded x r cmd).callsOk := by
  have ended : s.Like (s.onMobOf x fun m => { m with returnRec := none, hoState := .none, hoCmd := none }) :=
    State.onMobOf_like (.refl s) ⟨rfl, fun _ _ h => by cases h⟩
  have m := (k.midst (k.serves_of_return hr)).like ended
  have passed := State.areaPassed_works (x := x) m.toOrdered
  exact m.settled (passed.like (State.report_like _ (State.offerPlain_like x _ _ _ (State.accessOver_like x (.refl _)))))

theorem State.accessFailed_callsOk (k : s.callsOk) {r : ReturnRecord} (hr : (s.mobOf x).returnRec = some r) (cmd : HoCommand) :
    (s.accessFailed x r cmd).callsOk := by
  have served : (s.mobOf x).serving.isSome = true := ((k.peered x).returns x r hr).2
  let back := (s.onMobOf x fun m => { m with serving := some r.serving, neighbours := r.slot.restore m.neighbours }).servingSet x
  have backLike : s.Like back := State.servingSet_like x (State.onMobOf_like (.refl s) (MobSub.Kept.like ⟨by rw [served]; rfl, rfl, rfl⟩))
  let check := back.claimInPlace x .traffic
  have checkLike : s.Like (back.onMobOf x fun m => { m with
      returnRec := none, hoCmd := none, hoState := if check then .returnCheck else .none,
      returnCounter := if check then Config.returnFrames else 0 }) :=
    State.onMobOf_like backLike ⟨rfl, fun _ _ h => by cases h⟩
  have ended := State.offerPlain_like x (some .mob) cmd.ident (.hoFailure cmd.access) (State.accessOver_like x checkLike)
  exact ((k.peered x).like ended).settle

theorem State.accessEnded_callsOk (k : s.callsOk) (code : EndCode) (goodNotice : Bool) : (s.accessEnded x code goodNotice).callsOk := by
  unfold State.accessEnded
  split
  · next hr _ =>
    split
    · exact k
    · split
      · exact State.accessSucceeded_callsOk k hr _
      · exact State.accessFailed_callsOk k hr _
    all_goals exact State.accessFailed_callsOk k hr _
  · exact k

theorem State.takeCommand_callsOk (k : s.callsOk) {v : Serving} (hv : s.serving x = some v) (c : HoTarget) : (s.takeCommand x v c).callsOk := by
  have taken : s.Like (((s.onMobOf x fun m => m.takeTarget v c).servingSet x).suspendClaim x .traffic).voiceHandover :=
    State.voiceHandover_like (State.suspendClaim_like x .traffic (State.servingSet_like x
      (State.onMobOf_like (.refl s) ⟨by rw [State.mob_serving hv]; rfl, fun _ _ _ => ⟨rfl, rfl⟩⟩)))
  unfold State.takeCommand
  dsimp only
  split <;> (have e := congrArg Prod.snd ‹_ = (_, _)›; dsimp only at e; subst e)
  · exact k.like (State.place_like x .handoverAccess _ taken)
  · exact State.accessEnded_callsOk (k.like (State.place_like x .handoverAccess _ taken)) _ _

theorem State.hoCommand_callsOk (k : s.callsOk) (c : HoTarget) : (s.hoCommand x c).callsOk := by
  unfold State.hoCommand
  split
  · exact k
  · next hv =>
    split
    · exact State.takeCommand_callsOk k hv c
    · exact k

theorem State.secondFailure_callsOk (k : s.callsOk) : (s.secondFailure x).callsOk := by
  have p := k.peered x
  have works := State.endAllCtxs_works p.toOrdered x .handoverLost
  unfold State.secondFailure
  by_cases h : (s.activity x).isCampedState = true
  · have m := (k.midst (k.served h)).works works
    exact m.toPeered.lose (.inl (by rw [works.activity]; exact h))
  · have idle : s.idle x := by
      have settled : s.activity x = s.derivedActivity x := k.settled x
      rcases s.derived_cases x with ⟨ha, -⟩ | ⟨-, hn, -⟩ | ⟨-, -, -, hd⟩ | ⟨-, -, -, -, hd⟩ | ⟨-, -, hi, -⟩
      · exact p.served x (p.attached x ha)
      · exact p.served x hn
      · rw [settled, hd] at h; exact absurd rfl h
      · rw [settled, hd] at h; exact absurd rfl h
      · exact hi
    rw [State.endAllCtxs_idle idle]
    exact p.lose (.inr (k.settled x))

end Mobility

end Sys2Proof.Machine
end

section
/-! Sitting 2: what the network sends, and the arbiter's decision, keep the rules of the calls (O59). -/

namespace Sys2Proof.Machine

section Answers
variable {s t : State} {x : Sub}

/-! ### Signals (R11 to R14) -/

theorem State.endTxn_callsOk (k : s.callsOk) (i : Nat) (o : TxnOutcome) : (s.endTxn i o).callsOk := State.endTxnWith_callsOk k i o none

theorem State.answerCode_callsOk (k : s.callsOk) (b : SignalBlock) : (s.answerCode x b).callsOk := by
  have answered : ∀ i p, (s.answered i p b).callsOk := fun i p => by
    unfold State.answered
    split
    · exact k.like (by simp)
    · exact k.like (by simp)
    · exact k.like (by simp)
    · exact State.endTxn_callsOk k _ _
    · exact State.endTxn_callsOk k _ _
    · exact State.endTxnWith_callsOk k _ _ _
    · exact State.endTxn_callsOk k _ _
  unfold State.answerCode
  split
  · exact k.like (by simp)
  · split
    · exact answered _ _
    · exact k.like (by simp)

/-- Transactions of `x` freed without an outcome. -/
theorem State.freeTxns_works (k : s.Ordered) (x : Sub) (p : Txn → Bool) : s.Works x (s.freeTxns x p) := by
  have freed : ∀ (l : List (Nat × Txn)) (t : State), t.Ordered → (∀ e ∈ l, ∀ q, entryAt t.sge.txns e.1 = some q → q.sub = x) →
      t.Works x (l.foldl (fun s e => s.freeTxn e.1) t) := by
    intro l
    induction l with
    | nil => exact fun t kt _ => .refl kt x
    | cons e l ih =>
      intro t kt hl
      cases he : entryAt t.sge.txns e.1 with
      | none =>
        rw [List.foldl_cons, show t.freeTxn e.1 = t by unfold State.freeTxn; rw [he]]
        exact ih t kt fun f hf => hl f (List.mem_cons_of_mem _ hf)
      | some q =>
        have one := State.freeTxn_works kt he
        rw [hl e List.mem_cons_self q he] at one
        refine one.trans (ih _ one.ordered fun f hf r hr => ?_)
        rw [(State.freeTxn_table he).1, entryAt_set] at hr
        split at hr
        · cases hr
        · exact hl f (List.mem_cons_of_mem _ hf) r hr
  refine freed _ s k fun e he q hq => ?_
  have mine : e ∈ s.txnsOf x := (List.mem_filter.1 he).1
  obtain ⟨i, r⟩ := e
  obtain ⟨entry, sub⟩ : entryAt s.sge.txns i = some r ∧ r.sub = x := by simpa [State.txnsOf, State.openTxns, mem_taken] using mine
  rw [entry] at hq
  cases hq
  exact sub

theorem State.releaseFrom_callsOk (k : s.callsOk) (b : SignalBlock) : (s.releaseFrom x b).callsOk := by
  unfold State.releaseFrom
  split
  · exact k.like (by simp)
  · next ref _ =>
    dsimp only
    refine (State.tryWaiters_peered (x := x) ?_).settle
    cases hi : s.ctxByRef x ref with
    | none =>
      refine (k.peered x).like ?_
      dsimp only
      unfold State.networkRelease
      rw [hi]
      exact State.offerPlain_like _ _ _ _ (.refl s)
    | some i =>
      obtain ⟨-, ne, sub⟩ := State.ctxByRef_some hi
      have m := k.midst_of (x := x) fun idle => by
        have := State.hasCtx_of (k.peered x).contexts ne
        rw [sub, idle.1] at this; cases this
      have freed := m.works (State.freeTxns_works m.toOrdered x fun t => t.closedBy i)
      exact (freed.works (State.networkRelease_works freed.toOrdered _ _ _)).toPeered

theorem State.releaseDone_callsOk (k : s.callsOk) (b : SignalBlock) : (s.releaseDone x b).callsOk := by
  unfold State.releaseDone
  dsimp only
  have named : ∀ o : Option (Nat × Txn), (match o with | none => s | some e => s.endTxn e.1 .answered).callsOk := fun o => by
    cases o with
    | none => exact k
    | some e => exact State.endTxn_callsOk k _ _
  have ok := named ((s.txnBy x (BitVec.ofNat 4 b.ident)).filter fun e => e.2.kind == .release && e.2.state == .sent)
  split
  · exact State.endTxn_callsOk ok _ _
  · exact ok.like (State.Like.ite (.refl _) (State.countStray_like (.refl _)))

theorem State.hoCommandFrom_callsOk (k : s.callsOk) (b : SignalBlock) : (s.hoCommandFrom x b).callsOk := by
  unfold State.hoCommandFrom
  dsimp only
  have reported : ∀ o : Option (Nat × Txn), (match o with | none => s | some e => s.endTxn e.1 .answered).callsOk := fun o => by
    cases o with
    | none => exact k
    | some e => exact State.endTxn_callsOk k _ _
  have ok := reported ((s.txnsOf x).find? fun e => e.2.kind == .measReport)
  cases b.body with
  | handover cellId freq offset phase access => exact ((State.hoCommand_callsOk ok _).peered x).settle
  | _ => exact ok

theorem State.hasLinked_idle (h : s.idle x) : s.hasLinked x = false := by unfold State.hasLinked; rw [h.2.1]; rfl

theorem State.setupFrom_callsOk (k : s.callsOk) (b : SignalBlock) : (s.setupFrom x b).callsOk := by
  unfold State.setupFrom
  split
  · next type digits ref _ _ =>
    refine ((k.peered x).works (State.setupIn_works (k.peered x).toOrdered _ _ _ _) fun hn => ?_).settle
    have idle := (k.peered x).served x hn
    unfold State.setupIn
    rw [if_pos (by simp [State.hasLinked_idle idle, idle.1])]
    exact idle
  · exact k

theorem State.textFrom_callsOk (k : s.callsOk) (b : SignalBlock) : (s.textFrom x b).callsOk := by
  unfold State.textFrom
  split
  · exact ((k.peered x).like (by simp)).settle
  all_goals exact k

theorem State.passAnswer_callsOk (k : s.callsOk) (b : SignalBlock) : (s.passAnswer x b).callsOk := by
  unfold State.passAnswer
  split
  · exact k
  · split
    · exact State.endTxn_callsOk k _ _
    · exact k

theorem State.sgeTakes_callsOk (k : s.callsOk) (b : SignalBlock) : (s.sgeTakes x b).callsOk := by
  have ok : (s.restartLinkIdle x).callsOk := k.like (by simp)
  unfold State.sgeTakes
  dsimp only
  split
  · exact State.setupFrom_callsOk ok b
  · exact State.releaseFrom_callsOk ok b
  · exact State.releaseDone_callsOk ok b
  · exact State.textFrom_callsOk ok b
  · exact State.hoCommandFrom_callsOk ok b
  · split
    · exact State.answerCode_callsOk ok b
    · exact State.passAnswer_callsOk ok b

theorem State.signalDelivered_callsOk (k : s.callsOk) (h : Holder) (frame : Frame) (good : Bool) (b : SignalBlock) :
    (s.signalDelivered h frame good b).callsOk := by
  unfold State.signalDelivered
  split
  · exact (State.sgeTakes_callsOk (k.like (State.noticeTraffic_like h (.refl s))) b).like (State.route_like _ _ _ (.refl _))
  · exact k.like (by simp)

theorem State.voiceDelivered_callsOk (k : s.callsOk) (h : Holder) (good : Bool) (b : VoiceBlock) : (s.voiceDelivered h good b).callsOk := by
  unfold State.voiceDelivered
  split
  · exact k.like (State.onVcp_like (State.noticeTraffic_like h (.refl s)) (Vcp.goodVoice_like _ _ _))
  · exact k.like (State.onVcp_like (.refl s) ⟨rfl, .rfl⟩)

/-! ### Pages (R72, R73) -/

theorem State.pageResponse_callsOk (k : s.callsOk) (hv : s.serving x ≠ none) (frame : Frame) (i : PageItem) :
    (s.pageResponse x frame i).callsOk := by
  unfold State.pageResponse
  split
  · exact k.like (by simp)
  · next h =>
    have quiet := k.uncalled (x := x.other) fun e => h (by simp [State.pageForbidden, e])
    have m := k.midst hv
    have works := State.offer_works (x := x) m.toOrdered ⟨some .psc, some .link, 0, some i.reason, .pageResponse i.identity i.reason⟩
      (fun _ => quiet) fun c e => by cases e
    split
    · next e =>
      rw [e] at works
      exact m.settled (works.like (State.setFilter_like x true (.refl _)))
    · next e =>
      rw [State.offer_none e]
      exact k.like (by simp)

theorem State.openUpdate_idle (k : s.Sound) (hn : s.serving x = none) (byPage : Bool) : (s.openUpdate x byPage).idle x := by
  rw [show s.openUpdate x byPage = s by unfold State.openUpdate; rw [hn]]
  exact k.served x hn

theorem State.pageUpdate_callsOk (k : s.callsOk) : (s.pageUpdate x).callsOk := by
  unfold State.pageUpdate
  dsimp only
  split
  · exact k
  · have p := k.peered x
    exact (p.works (State.openUpdate_works p.toOrdered true) fun hn => State.openUpdate_idle p.toSound hn true).settle

theorem State.pageDelivered_callsOk (k : s.callsOk) (h : Holder) (frame : Frame) (b : PageBlock) : (s.pageDelivered h frame b).callsOk := by
  unfold State.pageDelivered
  split
  · next here =>
    have hv : s.serving h.sub ≠ none := fun e => by rw [e] at here; cases here
    dsimp only
    split
    · exact k.like (by simp)
    · split
      · exact k.like (by simp)
      · next i _ =>
        have like : s.Like ((((s.onListen h.sub h.unitFirst fun l => { l with goodHeard := true }).onListen h.sub h.unitFirst
            fun l => { l with matched := true })).clearRelax h.sub) :=
          State.clearRelax_like _ (State.onListen_like _ _ _ (State.onListen_like _ _ _ (.refl s)))
        have ok := k.like like
        unfold State.pageMatched
        dsimp only
        split
        · exact State.pageResponse_callsOk ok (fun e => hv ((like.serving _).1 e)) frame i
        · exact State.pageResponse_callsOk ok (fun e => hv ((like.serving _).1 e)) frame i
        · exact State.pageUpdate_callsOk ok
  · exact k

theorem State.classify_callsOk (k : s.callsOk) (frame : Frame) (b : BlockKind) (good : Bool) {deliver : Holder → State → State}
    (h : ∀ (g : Holder) (u : State), u.callsOk → (deliver g u).callsOk) : (s.classify frame b good deliver).callsOk := by
  unfold State.classify
  split
  · exact k.like (by simp)
  · next g _ =>
    have ok : (s.accessNotice g good).callsOk := k.like (by simp)
    dsimp only
    split
    · exact h g _ ok
    · exact ok.like (by simp)

end Answers

section Arbiter
variable {s t : State} {x : Sub}

/-! ### Claims that end, and orders (R43, R50) -/

theorem State.tellClaimOwner_callsOk (k : s.callsOk) (x : Sub) (kind : ClaimKind) (code : EndCode) (u : Option RadioUnit) :
    (s.tellClaimOwner x kind code u).callsOk := by
  cases kind with
  | handoverAccess => exact State.accessEnded_callsOk k _ _
  | traffic => exact k.like (State.trafficEnded_like code (.refl s))
  | signalling => exact k
  | pagingListen => exact k.like (State.listenEnded_like x code _ (.refl s))
  | beaconRead => exact State.readEnded_callsOk k _ _
  | measure => exact State.measureEnded_callsOk k _ _ _
  | search => exact State.searchEnded_callsOk k _ _ _

theorem State.endUnit_callsOk (k : s.callsOk) (faulted : Bool) : (s.endUnit faulted).callsOk := by
  unfold State.endUnit
  split
  · exact k
  · dsimp only
    refine State.tellClaimOwner_callsOk ?_ _ _ _ _
    split <;> exact k.like (by simp)

theorem State.faultOrder_callsOk (k : s.callsOk) (errors : List OrderError) : (s.faultOrder errors).callsOk := by
  unfold State.faultOrder
  split
  · exact k
  · dsimp only
    exact State.endUnit_callsOk (k.like (State.Like.ite (State.reportWake_like _ (State.onRpt_like _ (.refl s))) (State.onRpt_like _ (.refl s)))) _

theorem State.orderAck_callsOk (k : s.callsOk) (tag : Ident) (errors : List OrderError) : (s.orderAck tag errors).callsOk := by
  unfold State.orderAck
  (repeat' split)
  · exact k
  · exact k.like (by simp)
  · exact State.faultOrder_callsOk k errors
  · exact k

/-! ### The decision (R42) -/

theorem State.callsOk_foldl {α : Type} {f : State → α → State} (hf : ∀ (u : State) (a : α), u.callsOk → (f u a).callsOk) (l : List α)
    (k : s.callsOk) : (l.foldl f s).callsOk := by
  induction l generalizing s with
  | nil => exact k
  | cons a l ih => exact ih (hf s a k)

theorem State.passOver_callsOk (code : EndCode) (u : State) (e : Nat × Claim) (k : u.callsOk) : (u.passOver code e).callsOk := by
  unfold State.passOver
  split
  · exact State.tellClaimOwner_callsOk (k.like (State.onClaim_like _ _ (.refl u))) _ _ _ _
  · exact k.like (by simp)

theorem State.grant_callsOk (k : s.callsOk) (recovery : Bool) : (s.grant recovery).callsOk := by
  have noted : ∀ r : Rta, (s.onRta fun _ => r).callsOk := fun r => k.like (by simp)
  unfold State.grant
  dsimp only
  split
  · exact State.callsOk_foldl (State.passOver_callsOk _) _ k
  split
  · exact State.callsOk_foldl (State.passOver_callsOk _) _ k
  split
  · exact noted _
  · exact (State.callsOk_foldl (State.passOver_callsOk _) _ (noted _)).like (State.startUnit_like _ _ (.refl _))

theorem State.expireWindow_callsOk (u : State) (e : Nat × Claim) (k : u.callsOk) : (u.expireWindow e).callsOk := by
  unfold State.expireWindow
  (repeat' split)
  · exact k
  · exact State.tellClaimOwner_callsOk (k.like (State.settleClaim_like _ _ (.refl u))) _ _ _ _
  · exact k

theorem State.decide_callsOk (k : s.callsOk) : s.decide.callsOk := by
  have begun : (s.onRpt fun r => { r with recoveryNext := false }).callsOk := k.like (by simp)
  have ended : (if (s.onRpt fun r => { r with recoveryNext := false }).unitOver then (s.onRpt fun r => { r with recoveryNext := false }).endUnit false
      else s.onRpt fun r => { r with recoveryNext := false }).callsOk := by
    split
    · exact State.endUnit_callsOk begun _
    · exact begun
  have granted := State.grant_callsOk (ended.like (State.takeStanding_like (.refl _))) s.rpt.recoveryNext
  exact State.callsOk_foldl State.expireWindow_callsOk _ (granted.like (State.recordHolder_like (.refl _)))

theorem State.arbitrate_callsOk (k : s.callsOk) : s.arbitrate.callsOk := by
  have faulted := State.faultOrder_callsOk k []
  exact State.decide_callsOk (faulted.like (State.Like.ite (State.playoutBoundary_like (.refl _)) (.refl _)))

theorem State.inRankOrder_callsOk (k : s.callsOk) {act : State → State} (h : ∀ u : State, u.callsOk → (act u).callsOk) :
    (s.inRankOrder act).callsOk :=
  (h _ (k.like (State.setAsked_like (some []) (.refl s)))).like (State.inRankOrder_like (.refl _))

theorem State.boundary_callsOk (k : s.callsOk) : s.boundary.callsOk := by
  have counted : s.nextFrame.countTimers.openWindows.callsOk :=
    k.like (State.openWindows_like (State.countTimers_like (State.nextFrame_like (.refl s))))
  have arbitrated := State.inRankOrder_callsOk counted fun u h => State.arbitrate_callsOk h
  exact arbitrated.like (State.Like.ite (State.evaluate_like (.refl _)) (.refl _))

theorem State.deadlinePasses_callsOk (k : s.callsOk) : s.deadlinePasses.callsOk := by
  have faulted := State.inRankOrder_callsOk k fun u h => State.faultOrder_callsOk h []
  have entered : ∀ m n : MobSub, n.Like (m.entersCheck n) := fun m n => by
    unfold MobSub.entersCheck
    split <;> exact MobSub.Kept.like ⟨rfl, rfl, rfl⟩
  exact faulted.like { State.Like.refl _ with cells := fun y => by cases y <;> exact entered _ _ }

end Arbiter

end Sys2Proof.Machine
end

section
/-! Sitting 2: the timers and the requests keep the rules of the calls (O59). -/

namespace Sys2Proof.Machine

section Timers
variable {s t : State} {x : Sub} {i : Nat}

/-! ### Timers (R7, R14, R15, R17, R117, R122, R155) -/

theorem State.returnExpiry_callsOk (k : s.callsOk) : (s.returnExpiry x).callsOk := by
  unfold State.returnExpiry
  split
  · exact State.secondFailure_callsOk k
  · exact k

theorem State.answerExpiry_callsOk (k : s.callsOk) (ident : Ident) : (s.answerExpiry x ident).callsOk := by
  unfold State.answerExpiry
  (repeat' split)
  · exact k
  · exact State.endTxn_callsOk k _ _
  · exact k

theorem State.idleExpiry_callsOk (k : s.callsOk) (ident : Ident) : (s.idleExpiry x ident).callsOk := by
  unfold State.idleExpiry
  (repeat' split)
  · exact k
  · exact State.endTxn_callsOk k _ _
  · exact k

theorem State.waitExpiry_callsOk (k : s.callsOk) (pos : Nat) : (s.waitExpiry x pos).callsOk := by
  have dropped : ((s.dropQueued x pos).settle x).callsOk := ((k.peered x).like (by simp)).settle
  unfold State.waitExpiry
  (repeat' split)
  · exact k
  · exact k
  · exact State.endTxn_callsOk k _ _
  · exact dropped
  · exact dropped

theorem State.noticeExpiry_callsOk (k : s.callsOk) : (s.noticeExpiry x).callsOk := by
  unfold State.noticeExpiry
  (repeat' split)
  · exact k
  · exact k.like (by simp)
  · exact k

/-- Where a context of `x` is taken, `x` is served (R24). -/
theorem State.callsOk.midst_ctx (k : s.callsOk) (h : (s.ctx i).state ≠ .idle) : s.Midst (s.ctx i).sub :=
  k.midst_of fun idle => by
    have := State.hasCtx_of (k.peered .a).contexts h
    rw [idle.1] at this; cases this

theorem State.release_callsOk (k : s.callsOk) (h : (s.ctx i).state ≠ .idle) (cause : Cause) :
    ((s.releaseCtx i cause).settle (s.ctx i).sub).callsOk := by
  have m := k.midst_ctx h
  exact m.settled (State.releaseCtx_works m.toOrdered (m.toOrdered.belongs h rfl) cause)

theorem State.ringExpiry_callsOk (k : s.callsOk) : (s.ringExpiry i).callsOk := by
  unfold State.ringExpiry
  split
  · next h =>
    refine State.release_callsOk k (fun e => ?_) _
    rw [e] at h; cases h
  · exact k

theorem State.deadlineExpiry_callsOk (k : s.callsOk) : (s.deadlineExpiry i).callsOk := by
  unfold State.deadlineExpiry
  (repeat' split)
  · exact k
  · exact k.like (by simp)
  · exact k

/-! ### Work taken up again (R5, R9, R127) -/

theorem State.enqueueHeld_callsOk (k : s.callsOk) : (s.enqueueHeld x).callsOk := by
  unfold State.enqueueHeld
  (repeat' split)
  · exact k
  · exact k
  · exact k.like (by simp (maxDischargeDepth := 20))

theorem State.waiterRetry_callsOk (k : s.callsOk) (w : WaitKind) : (s.waiterRetry w x).callsOk := by
  unfold State.waiterRetry
  split
  · have p := (k.peered x).like (State.clearDue_like w x (.refl s))
    obtain ⟨works, idle⟩ := State.tryOnce_works p.toSound w x
    exact (p.works works idle).settle
  · exact k

theorem State.trafficRetry_callsOk (k : s.callsOk) : (s.trafficRetry x).callsOk :=
  k.like (State.Like.ite (State.reexamine_like x (State.placeTraffic_like x (.refl s))) (.refl s))

theorem State.waitingResolved_callsOk (k : s.callsOk) : (s.waitingResolved i).callsOk := by
  unfold State.waitingResolved
  dsimp only
  split
  · next h =>
    obtain ⟨waiting, other⟩ := Bool.and_eq_true_iff.1 h
    have hs := (k.peered .a).contexts.2.2.2.2.2.2.1 i waiting
    have ne : (s.ctx i).state ≠ .idle := by rcases hs with e | e <;> rw [e] <;> decide
    have m := k.midst_ctx ne
    exact m.settled (State.becomeActive_works m.toOrdered hs rfl (m.quiet (m.hasCtx ne rfl) (by simpa using other)))
  · exact k

end Timers

section Requests
variable {s t : State} {x : Sub} {i : Nat}

/-! ### The records (R19, R22, R25) -/

theorem State.doConfigure_callsOk (k : s.callsOk) (v : ConfigValues) : (s.doConfigure x v).2.2.callsOk := by
  unfold State.doConfigure refuse accept
  (repeat' split)
  · exact k
  · exact k
  · exact k.like (State.endWait_like .update x (State.onRecord_like (.refl s) fun r => rfl))

theorem State.doAttach_callsOk (k : s.callsOk) : (s.doAttach x).2.2.callsOk := by
  unfold State.doAttach refuse accept
  dsimp only
  split
  · exact k
  · next h =>
    have detached : s.activity x = .detached := by
      by_contra hd
      exact h (by simp [hd])
    let u := (s.emptyUplink x).withdraw x .signalling
    have like : s.Like u := State.withdraw_like x .signalling (State.emptyUplink_like x (.refl s))
    have p := (k.peered x).like like
    obtain ⟨ordered, aside, work, mob⟩ := State.writeActivity_aside p.toOrdered x .noService
    have now := (u.writeActivity_activity x .noService).1
    have bare : u.serving x = none := p.attached x ((like.activity x).trans detached)
    have none : (u.writeActivity x .noService).serving x = none := by unfold State.serving; rw [mob]; exact bare
    have idle : (u.writeActivity x .noService).idle x := (work x).idle.2 (p.served x bare)
    have sound : (u.writeActivity x .noService).Sound :=
      aside.sound p.toSound ordered (by unfold State.serving; rw [mob]; exact p.returns x) (fun _ => idle) fun _ => none
    have settled : (u.writeActivity x .noService).settled x := by
      unfold State.settled State.derivedActivity
      rw [now, none]
      rfl
    have turned : u.Turned x (u.writeActivity x .noService) := ⟨sound, settled, aside⟩
    exact (turned.callsOk p.peer).like (State.placeSearch_like x (State.onMobOf_like_of_fields (.refl _) fun m => ⟨rfl, rfl, rfl⟩))

/-- The last parts of DETACH's teardown, once nothing of `x` is under way (R25). -/
theorem State.afterDetach_turned {u : State} (k : s.Sound) (ordered : u.Ordered) (aside : s.Aside x u) (idle : u.idle x)
    (activity : u.activity x = .detached) {g : Vcp → Vcp} (hg : ∀ v, (g v).call = v.call ∧ (g v).playout = v.playout) :
    s.Turned x ((((u.onMobOf x MobSub.afterDetach).onPscOf x PscSub.tornDown).onVcp g).setFilter x false) := by
  obtain ⟨bareOrdered, bareAside, bareIdle⟩ := State.onMobOf_aside ordered x MobSub.afterDetach
  have self := State.onMobOf_self x MobSub.afterDetach u
  have gone : s.Gone x (u.onMobOf x MobSub.afterDetach) :=
    { ordered := bareOrdered
      aside := aside.trans bareAside
      idle := bareIdle.2 idle
      serving := by unfold State.serving; rw [self]; rfl
      returnRec := by rw [self]; rfl }
  have settled : (u.onMobOf x MobSub.afterDetach).settled x := by
    unfold State.settled State.derivedActivity
    rw [State.onMobOf_activity, activity, if_pos (by decide)]
  have turned : s.Turned x (u.onMobOf x MobSub.afterDetach) := ⟨gone.sound k, settled, gone.aside⟩
  refine turned.like (State.setFilter_like x false (State.onVcp_like (State.onPscOf_like x _ (.refl _)) ?_))
  obtain ⟨call, playout⟩ := hg ((u.onMobOf x MobSub.afterDetach).onPscOf x PscSub.tornDown).vcp
  exact ⟨call, by rw [playout]⟩

/-- The teardown of DETACH, before its notice (R25). -/
theorem State.cleared_callsOk (k : s.callsOk) : (s.cleared x).callsOk := by
  have p := k.peered x
  obtain ⟨wroteOrdered, wroteAside, -, -⟩ := State.writeActivity_aside p.toOrdered x .detached
  have recordLike : (s.writeActivity x .detached).Like (s.detachRecord x) :=
    State.onRecord_like (State.dropUpdate_like x (.refl _)) fun r => rfl
  obtain ⟨tornWorks, tornIdle⟩ := State.endWork_works (s := s.detachRecord x) (recordLike.ordered wroteOrdered) x .detached (.inr rfl) .detached
    (fun u => u.detachTexts x) fun u => State.detachTexts_like x (.refl u)
  change (s.detachRecord x).Works x (((s.unlinked x).detachTexts x).failText x .detached) at tornWorks
  change (((s.unlinked x).detachTexts x).failText x .detached).idle x at tornIdle
  have freed : (((s.unlinked x).detachTexts x).failText x .detached).Like (s.unclaimed x) := by
    unfold State.unclaimed
    exact State.withdrawAll_like x (.refl _)
  have torn : (s.detachRecord x).Works x (s.unclaimed x) := tornWorks.like freed
  have activity : (s.unclaimed x).activity x = .detached := by
    rw [torn.activity, recordLike.activity]
    exact (State.writeActivity_activity s x .detached).1
  unfold State.cleared
  refine State.Turned.callsOk ?_ p.peer
  exact State.afterDetach_turned p.toSound torn.ordered (wroteAside.trans ((recordLike.aside x).trans torn.aside)) ((freed.idle x).2 tornIdle)
    activity fun v => ⟨rfl, rfl⟩

theorem State.doDetach_callsOk (k : s.callsOk) : (s.doDetach x).2.2.callsOk := by
  by_cases h : s.activity x = .detached
  · rw [doDetach_refused h]; exact k
  · rw [doDetach_accepted h]
    have cleared := State.cleared_callsOk (x := x) k
    have noticed : (s.cleared x).Like ((s.cleared x).sendNotice x) := State.reexamine_like x (State.offerPlain_like _ _ _ _ (.refl _))
    exact State.tryWaiters_callsOk (cleared.like (State.Like.ite noticed (.refl _)))

/-! ### Settings -/

theorem State.doNumbers_callsOk (k : s.callsOk) (l : List NumberEntry) : (s.doNumbers l).2.2.callsOk := by
  unfold State.doNumbers refuse accept
  split
  · exact k
  · exact k.like { State.Like.refl s with }

theorem State.doNeighbours_callsOk (k : s.callsOk) (l : List NeighbourItem) : (s.doNeighbours x l).2.2.callsOk := by
  unfold State.doNeighbours refuse
  (repeat' split)
  · exact k
  · exact k
  · exact k.like (State.withdraw_like x .beaconRead (State.onMobOf_like_of_fields (.refl s) fun m => ⟨rfl, rfl, rfl⟩))

theorem State.doMobility_callsOk (k : s.callsOk) (p : MobParams) : (s.doMobility x p).2.2.callsOk := by
  unfold State.doMobility refuse accept
  split
  · exact k
  · have set : s.Like (s.onMobOf x fun m => { m with params := p }) := State.onMobOf_like_of_fields (.refl s) fun m => ⟨rfl, rfl, rfl⟩
    have measured := State.Like.ite (c := (s.mobOf x).params.period = p.period) set (State.replaceMeasure_like x set)
    exact k.like (State.Like.ite measured (State.replaceSearch_like x measured))

theorem State.doRoutes_callsOk (k : s.callsOk) (l : List (Nat × RouteAction × RouteAction)) : (s.doRoutes l).2.2.callsOk := by
  unfold State.doRoutes refuse accept
  (repeat' split)
  · exact k
  · exact k
  · exact k.like (by simp)

theorem State.doSleep_callsOk (k : s.callsOk) (v : SleepValues) : (s.doSleep v).2.2.callsOk := by
  unfold State.doSleep refuse accept
  split
  · exact k
  · exact k.like (by simp (maxDischargeDepth := 20))

theorem State.doRadioHold_callsOk (k : s.callsOk) : s.doRadioHold.2.2.callsOk := by
  unfold State.doRadioHold refuse
  split
  · exact k
  · exact k.like (by simp)

theorem State.doRadioRelease_callsOk (k : s.callsOk) : s.doRadioRelease.2.2.callsOk := by
  unfold State.doRadioRelease refuse
  split
  · exact k
  · exact k.like (by simp)

theorem State.doQuery_callsOk (k : s.callsOk) (f : HostFrame) (body : List Byte) : (s.doQuery f body).2.2.callsOk := by
  have answered : ∀ name y, (s.answerQuery name y).2.2.callsOk := fun name y =>
    k.like (State.Like.ite (State.onHlc_like (.refl s) id) (.refl s))
  unfold State.doQuery refuse
  (repeat' split)
  · exact answered _ _
  · exact k
  · exact k
  · exact answered _ _
  · exact k

/-! ### Calls (R122 to R132) -/

/-- Taking a transaction leaves a context to its subscription. -/
theorem State.Belongs.ctxOffer (b : s.Belongs x i) (kind : TxnKind) (body : UpBody) : (s.ctxOffer i kind body).2.Belongs x i where
  lt := b.lt
  sub := by rw [State.ctxOffer_ctx]; exact b.sub
  contexts := fun j hj hn => by rw [State.ctxOffer_ctx] at hn ⊢; exact b.contexts j hj hn
  txns := fun j p hp ho => by
    unfold State.ctxOffer at hp
    rw [b.sub] at hp
    rcases State.offer_table x ⟨some (.ctx i), some kind, 0, none, body⟩ s with e | ⟨n, q, -, -, hq, -, e⟩ <;> rw [e] at hp
    · exact b.txns j p hp ho
    · rw [entryAt_set] at hp
      split at hp
      · cases hp; exact hq
      · exact b.txns j p hp ho
  apart := by
    have e : (s.ctxOffer i kind body).2.hasCall x.other = s.hasCall x.other := by
      unfold State.hasCall State.ctxOf
      simp only [State.ctxOffer_ctx]
    rw [e]; exact b.apart

/-- A context for `x` begins a transaction and moves into a call. -/
theorem State.beginMove_works (k : s.Ordered) (b : s.Belongs x i) (kind : TxnKind) (body : UpBody) {st : CallState}
    (f : s.Fits i { s.ctx i with state := st }) : s.Works x ((s.ctxOffer i kind body).2.moveCtx i st) := by
  have offered := State.ctxOffer_works k b kind body
  have b' := b.ctxOffer kind body
  have cal : (s.ctxOffer i kind body).2.cal = s.cal := by simp
  have host : (s.ctxOffer i kind body).2.hlc = s.hlc := by simp
  refine offered.trans (State.moveCtx_works offered.ordered b' ?_)
  exact
    { sub := fun h j hj hn => by rw [State.ctxOffer_ctx] at hn ⊢; rw [State.ctxOffer_ctx]; exact f.sub h j hj hn
      only := fun h j hj => by rw [State.ctxOffer_ctx]; exact f.only h j hj
      held := fun h => by rw [State.ctxOffer_ctx]; exact f.held h
      holding := fun h => by rw [cal]; exact f.holding h
      resuming := fun h => by rw [State.ctxOffer_ctx]; exact f.resuming h
      active := fun h => by rw [State.ctxOffer_ctx]; exact f.active h
      waits := fun h => by rw [State.ctxOffer_ctx] at h; exact f.waits h
      txns := fun _ j p hp ho => b'.sub.trans (b'.txns j p hp ho).symm
      host := fun h => by rw [host]; exact f.host h
      apart := fun h => by
        have idle : s.idle x.other := b.sub ▸ f.apart h
        rw [State.ctxOffer_ctx]
        show (s.ctxOffer i kind body).2.idle (s.ctx i).sub.other
        rw [b.sub]
        exact offered.other.idle.2 idle }

end Requests

end Sys2Proof.Machine
end

section
/-! Sitting 2: calls, texts and messages that the host asks for (O59). -/

namespace Sys2Proof.Machine

section Calls
variable {s t : State} {x : Sub} {i : Nat}

/-! ### DIAL (R128) -/

/-- A subscription that is neither ATTENDED nor IN_CALL has nothing under way (R20). -/
theorem State.callsOk.idle_of (k : s.callsOk) (h : (s.activity x).isBusy = false) : s.idle x := by
  have settled : s.activity x = s.derivedActivity x := k.settled x
  rcases s.derived_cases x with ⟨ha, -⟩ | ⟨-, hn, -⟩ | ⟨-, -, -, hd⟩ | ⟨-, -, -, -, hd⟩ | ⟨-, -, hi, -⟩
  · exact (k.peered x).served x ((k.peered x).attached x ha)
  · exact (k.peered x).served x hn
  · rw [settled, hd] at h; cases h
  · rw [settled, hd] at h; cases h
  · exact hi

theorem CallState.inProgress_iff (c : CallState) : c.inProgress = (c == .active || c.settling) := Bool.or_comm ..

theorem State.dialOn_callsOk (m : s.Midst x) (ok : s.callsOk) (host : s.hlc.host ≠ .dozing) (hc : s.hasCtx x.other = false) (hi : s.freeCtx = some i)
    (free : ∀ j, s.ctxOf x j = true → (s.ctx j).state.inProgress = false) (d : Digits) : (s.dialOn x i d).2.2.callsOk := by
  let c : CallContext := { Reset.context with sub := x, direction := .outgoing, callRef := s.freeRef x, digits := d }
  let u := s.onCtx i fun _ => c
  obtain ⟨taken, b⟩ := State.takeCtx_works (c := c) m.toOrdered hi hc rfl rfl (.inl rfl)
  have len : i < s.cal.contexts.length := by rw [m.contexts.1]; exact b.lt
  have ctx : ∀ j, u.ctx j = if i = j then c else s.ctx j := State.onCtx_ctx len _
  have alone : ∀ j, j ≠ i → (u.ctx j).state.inProgress = false := fun j hj => by
    rw [ctx, if_neg fun e => hj e.symm]
    by_cases ne : (s.ctx j).state = .idle
    · rw [ne]; rfl
    · exact free j (State.subs_of_apart m.contexts hc j ne ▸ State.ctxOf_of ne)
  have waits : (u.ctx i).connectWaiting = false := by rw [ctx, if_pos rfl]; rfl
  have begun := State.beginMove_works taken.ordered b .setup (.setupOut (s.freeRef x) d) (st := .originating)
    (b.fits_call b.sub alone host (fun _ => .inl rfl) (fun h => by cases h) (fun h => by cases h) (fun h => by cases h) (fun h => by cases h)
      (fun h => by cases h))
  unfold State.dialOn refuse
  dsimp only
  split <;> (have e := congrArg Prod.snd ‹_ = (_, _)›; dsimp only at e; subst e)
  · exact m.settled (taken.trans begun)
  · exact ok

theorem State.doDial_callsOk (k : s.callsOk) (host : s.hlc.host ≠ .dozing) (d : Digits) : (s.doDial x d).2.2.callsOk := by
  have dialled : (s.activity x).isCampedState = true → (if (s.activity x.other).isBusy then refuse .busyOther s
      else if ctxIndexes.any fun i => s.ctxOf x i && ((s.ctx i).state == .active || (s.ctx i).state.settling) then refuse .state s
      else match s.freeCtx with
        | none => refuse .limit s
        | some i => s.dialOn x i d).2.2.callsOk := fun camped => by
    split
    · exact k
    · next busy =>
      split
      · exact k
      · next none =>
        split
        · exact k
        · next i hi =>
          have idle := k.idle_of (x := x.other) (by simpa using busy)
          refine State.dialOn_callsOk (k.midst (k.served camped)) k host idle.1 hi (fun j hj => ?_) d
          have ne : (s.ctx j).state ≠ .idle := fun e => by rw [State.not_ctxOf_idle e] at hj; cases hj
          have lt := State.ctx_lt (k.peered x).contexts ne
          have := List.any_eq_false.1 (Bool.not_eq_true _ ▸ none) j (by simp [ctxIndexes]; omega)
          rw [hj, Bool.true_and, ← CallState.inProgress_iff] at this
          simpa using this
  unfold State.doDial
  split
  · exact k
  · split
    · exact k
    · exact k
    all_goals next h => exact dialled (by rw [h]; rfl)

/-! ### HOLD, RESUME and ANSWER (R123, R124, R130, R131) -/

theorem State.activeCtx_some (h : s.activeCtx = some i) : (s.ctx i).state = .active := by simpa using List.find?_some h

/-- Nothing is in progress where no context is ACTIVE or in transition. -/
theorem State.rests_of (k : s.contextsOk) (active : s.activeCtx = none) (settling : s.anySettling = false) (j : Nat) :
    (s.ctx j).state.inProgress = false := by
  by_cases ne : (s.ctx j).state = .idle
  · rw [ne]; rfl
  · have hj : j ∈ ctxIndexes := by have := State.ctx_lt k ne; simp [ctxIndexes]; omega
    have h1 := List.find?_eq_none.1 active j hj
    have h2 := List.any_eq_false.1 settling j hj
    rw [CallState.inProgress_iff]
    simp only [Bool.not_eq_true] at h1 h2
    rw [h1, h2]; rfl

theorem State.hold_works (k : s.Ordered) (ha : (s.ctx i).state = .active) (hx : (s.ctx i).sub = x) (room : s.cal.holdStack.length < 2)
    (body : UpBody) : s.Works x ((s.ctxOffer i .hold body).2.moveCtx i .holding) := by
  have prog : (s.ctx i).state.inProgress = true := by rw [ha]; rfl
  have est : (s.ctx i).state.established = true := by rw [ha]; rfl
  have b := k.belongs (State.ctx_ne_idle prog) hx
  exact State.beginMove_works k b .hold body (b.fits_call hx (k.alone prog) (k.awake_of prog)
    (fun h => absurd (k.notWaiting est) (by rw [show _ = true from h]; decide)) (fun h => by cases h)
    (fun _ => room) (fun h => by cases h) (fun h => by cases h) fun _ => hx ▸ k.apart_of est)

theorem State.resume_works (k : s.Ordered) (hh : (s.ctx i).state = .held) (hx : (s.ctx i).sub = x)
    (rests : ∀ j, (s.ctx j).state.inProgress = false) (body : UpBody) :
    s.Works x ((s.ctxOffer i .resume body).2.moveCtx i .resuming) := by
  have est : (s.ctx i).state.established = true := by rw [hh]; rfl
  have b := k.belongs (by rw [hh]; decide) hx
  exact State.beginMove_works k b .resume body (b.fits_call hx (fun j _ => rests j) (k.awake (by rw [hh]; rfl))
    (fun h => absurd (k.notWaiting est) (by rw [show _ = true from h]; decide)) (fun h => by cases h)
    (fun h => by cases h) (fun _ => hh) (fun h => by cases h) fun _ => hx ▸ k.apart_of est)

theorem State.doHold_callsOk (k : s.callsOk) (f : HostFrame) (code : Nat) : ((s.doHold f).finish f code).callsOk := by
  have now : ∀ rc, ((CallAnswer.now rc s).finish f code).callsOk := fun rc => k.like (State.reply_like _ _ _ _ (.refl s))
  unfold State.doHold
  split
  · exact now _
  · next i hi =>
    split
    · exact now _
    · next room =>
      split <;> (have e := congrArg Prod.snd ‹_ = (_, _)›; dsimp only at e; subst e)
      · exact now _
      · have active := State.activeCtx_some hi
        have m := k.midst_ctx (i := i) (by rw [active]; decide)
        exact m.settled ((State.hold_works m.toOrdered active rfl (by omega) _).like (State.recordPending_like _ (.refl _)))

theorem State.doResume_callsOk (k : s.callsOk) (f : HostFrame) (code : Nat) : ((s.doResume f).finish f code).callsOk := by
  have now : ∀ rc, ((CallAnswer.now rc s).finish f code).callsOk := fun rc => k.like (State.reply_like _ _ _ _ (.refl s))
  unfold State.doResume
  split
  · exact now _
  · next i hi =>
    split
    · exact now _
    · next free =>
      rw [Bool.or_eq_true, not_or, Bool.not_eq_true, Bool.not_eq_true, Option.isSome_eq_false_iff, Option.isNone_iff_eq_none] at free
      obtain ⟨active, settling⟩ := free
      split <;> (have e := congrArg Prod.snd ‹_ = (_, _)›; dsimp only at e; subst e)
      · exact now _
      · have held := ((k.peered .a).contexts.2.2.2.2.1 i).1 (List.mem_of_getLast? hi)
        have m := k.midst_ctx (i := i) (by rw [held]; decide)
        exact m.settled ((State.resume_works m.toOrdered held rfl (State.rests_of m.contexts active settling) _).like
          (State.recordPending_like _ (.refl _)))

theorem State.answerByHold_callsOk (k : s.callsOk) (hi : s.activeCtx = some i) (f : HostFrame) (j code : Nat) :
    ((s.answerByHold f j i).finish f code).callsOk := by
  have now : ∀ rc, ((CallAnswer.now rc s).finish f code).callsOk := fun rc => k.like (State.reply_like _ _ _ _ (.refl s))
  unfold State.answerByHold
  split
  · exact now _
  · next room =>
    split <;> (have e := congrArg Prod.snd ‹_ = (_, _)›; dsimp only at e; subst e)
    · exact now _
    · have active := State.activeCtx_some hi
      have m := k.midst_ctx (i := i) (by rw [active]; decide)
      exact m.settled ((State.hold_works m.toOrdered active rfl (by omega) _).like
        (State.recordPending_like _ (State.onCtx_like (.refl _) fun c => ⟨rfl, rfl, id⟩)))

theorem State.answerNow_callsOk (k : s.callsOk) (host : s.hlc.host ≠ .dozing) {j : Nat} (offered : (s.ctx j).state = .offered)
    (rests : ∀ n, (s.ctx n).state.inProgress = false) (f : HostFrame) (code : Nat) : ((s.answerNow j).finish f code).callsOk := by
  have ne : (s.ctx j).state ≠ .idle := by rw [offered]; decide
  have m := k.midst_ctx ne
  have clear : s.Clear (s.ctx j).sub := ⟨fun n hn => m.contexts.2.1 n j hn ne, rests, host⟩
  unfold State.answerNow
  split <;> (have e := congrArg Prod.snd ‹_ = (_, _)›; dsimp only at e; subst e)
  · exact k.like (State.reply_like _ _ _ _ (.refl s))
  · have connected := State.connect_works (f := fun c => { c with ring := none }) m.toOrdered clear offered (fun _ => ⟨rfl, rfl, id⟩)
      (.connect (s.ctx j).callRef)
    exact (m.settled connected).like (State.reply_like _ _ _ _ (.refl _))

theorem State.doAnswer_callsOk (k : s.callsOk) (host : s.hlc.host ≠ .dozing) (f : HostFrame) (j code : Nat) :
    ((s.doAnswer f j).finish f code).callsOk := by
  have now : ∀ rc, ((CallAnswer.now rc s).finish f code).callsOk := fun rc => k.like (State.reply_like _ _ _ _ (.refl s))
  unfold State.doAnswer
  split
  · exact now _
  split
  · exact now _
  next offered =>
  split
  · exact now _
  split
  · exact now _
  next settling =>
  split
  · next hi => exact State.answerByHold_callsOk k hi f j code
  · next active =>
    have state : (s.ctx j).state = .offered := by
      by_contra h
      exact offered (by simp [h])
    exact State.answerNow_callsOk k host state (State.rests_of (k.peered .a).contexts active (by simpa using settling)) f code

theorem State.doReject_callsOk (k : s.callsOk) (j : Nat) : (s.doReject j).2.2.callsOk := by
  unfold State.doReject refuse accept
  split
  · exact k
  split
  · exact k
  next h =>
  refine State.release_callsOk k (fun e => h ?_) _
  rw [e]; decide

theorem State.doHangUp_callsOk (k : s.callsOk) (j : Nat) : (s.doHangUp j).2.2.callsOk := by
  unfold State.doHangUp refuse accept
  split
  · exact k
  split
  · exact k
  next h =>
  refine State.release_callsOk k (fun e => h ?_) _
  rw [e]; decide

/-! ### SEND_TEXT (R157) -/

theorem State.offerSegment_none (e : s.offerSegment x = (false, t)) : t = s := by
  unfold State.offerSegment at e
  split at e
  · cases e; rfl
  · dsimp only at e
    split at e
    · cases e
    · next h => cases e; exact State.offer_none h

/-- A text taken and dropped again leaves the rules' view as it was. -/
theorem State.dropTaken_like {u : State} (h : u.outgoingOf x = none) (o : Outgoing) : u.Like ((u.setOutgoing x (some o)).dropOutgoing x) := by
  have own : (u.setOutgoing x (some o)).outgoingOf x = some o := by simp [State.outgoingOf, State.setOutgoing]
  unfold State.dropOutgoing
  rw [own]
  refine State.endWait_like .segment x { State.Like.refl u with outgoing := fun y => ?_ }
  by_cases e : y = x
  · subst e; rw [h]; simp [State.outgoingOf, State.setOutgoing]
  · simp [State.outgoingOf, State.setOutgoing, PerSub.get_set, e]

theorem State.startText_callsOk (m : s.Midst x) (k : s.callsOk) (quiet : s.hasCall x.other = false) (none : s.outgoingOf x = none) (d : Digits)
    (l : List (List Byte)) : (s.startText x d l).2.2.callsOk := by
  let o : Outgoing := ⟨(s.txt.nextRef.get x).toNat, d, l.length, l, 1, false⟩
  let u := s.onTxt fun t => { t with nextRef := t.nextRef.upd x (· + 1), free := t.free - l.length }
  have like : s.Like u := by simp [u]
  have set := (like.works m.toOrdered x).trans (State.setOutgoing_works (like.ordered m.toOrdered) (some o) fun _ => by
    rw [like.hasCall]; exact quiet)
  have offered := set.trans (State.offerSegment_works set.ordered)
  unfold State.startText refuse
  dsimp only
  split
  · next e =>
    have e := congrArg Prod.snd e
    dsimp only at e
    subst e
    exact m.settled offered
  · next e =>
    rw [State.offerSegment_none e]
    exact k.like (like.trans (State.dropTaken_like (u := u) none o))

theorem State.doSendText_callsOk (k : s.callsOk) (v : Digits × List (List Byte)) : (s.doSendText x v).2.2.callsOk := by
  have started : (s.activity x).isCampedState = true → (if s.activity x.other == .inCall then refuse .busyOther s
      else if (s.outgoingOf x).isSome || s.txt.free < v.2.length then refuse .busy s else s.startText x v.1 v.2).2.2.callsOk := fun camped => by
    split
    · exact k
    · next other =>
      split
      · exact k
      · next free =>
        rw [Bool.or_eq_true, not_or, Bool.not_eq_true, Option.isSome_eq_false_iff, Option.isNone_iff_eq_none] at free
        exact State.startText_callsOk (k.midst (k.served camped)) k (k.uncalled (by simpa using other)) free.1 _ _
  unfold State.doSendText
  split
  · exact k
  · split
    · exact k
    · exact k
    · exact k
    all_goals next h => exact started (by rw [h]; rfl)

/-! ### UP_SIGNAL (R16) -/

theorem State.sendPass_callsOk (m : s.Midst x) (k : s.callsOk) (code : Nat) (expect : Bool) (payload : List Byte)
    (quiet : expect = true → s.hasCall x.other = false) : (s.sendPass x code expect payload).2.2.callsOk := by
  unfold State.sendPass refuse
  dsimp only
  have works := State.offer_works (x := x) m.toOrdered ⟨some .host, if expect then some TxnKind.pass else none, 0, none, .pass code payload⟩
    (fun h => quiet (by by_contra hf; exact h (by simp [hf]))) fun c e => by cases e
  split
  · next e =>
    rw [e] at works
    exact m.settled works
  · next e => rw [State.offer_none e]; exact k

theorem State.doUpSignal_callsOk (k : s.callsOk) (f : HostFrame) : (s.doUpSignal f).2.2.callsOk := by
  have sent : ∀ (x : Sub) (code : Nat) (expect : Bool) (payload : List Byte), (s.activity x).isCampedState = true →
      (if expect && s.activity x.other == .inCall then refuse .busyOther s else s.sendPass x code expect payload).2.2.callsOk :=
    fun x code expect payload camped => by
      split
      · exact k
      · next h =>
        exact State.sendPass_callsOk (k.midst (k.served camped)) k code expect payload fun he => k.uncalled fun ha => h (by simp [he, ha])
  unfold State.doUpSignal
  split
  · split
    · exact k
    · split
      · exact k
      · exact k
      all_goals next h => exact sent _ _ _ _ (by rw [h]; rfl)
  · exact k

/-! ### Requests served (R163, R165) -/

theorem State.hostAwake_host (s : State) : s.hostAwake.hlc.host ≠ .dozing := by
  unfold State.hostAwake
  split
  · next h => rw [h]; decide
  · exact fun h => by have := (State.offerTexts_like (State.Like.refl _)).host h; cases this

theorem State.request_callsOk (k : s.callsOk) (code : Nat) {act : HostFrame → List Byte → State → State}
    (h : ∀ (f : HostFrame) (body : List Byte) (u : State), u.callsOk → (act f body u).callsOk) : (s.request code act).callsOk := by
  have popped : s.popInbound.callsOk := k.like (State.popInbound_like (.refl s))
  have refused : ∀ (f : HostFrame) (c : Byte), (s.popInbound.hostAwake.reply f c .badParam []).evaluate.callsOk := fun f c =>
    popped.like (State.evaluate_like (State.reply_like _ _ _ _ (State.hostAwake_like (.refl _))))
  unfold State.request
  (repeat' split)
  · exact k
  · exact k
  · exact refused _ _
  · exact (h _ _ _ popped).like (State.evaluate_like (.refl _))
  · exact k
  · exact refused _ _

theorem State.serve_callsOk (k : s.callsOk) (code : Nat) {act : HostFrame → List Byte → State → Answer}
    (h : ∀ (f : HostFrame) (body : List Byte) (u : State), u.callsOk → u.hlc.host ≠ .dozing → (act f body u).2.2.callsOk) :
    (s.serve code act).callsOk :=
  State.request_callsOk k code fun f body u hu =>
    (h f body _ (hu.like (State.hostAwake_like (.refl u))) u.hostAwake_host).like (State.reply_like _ _ _ _ (.refl _))

theorem State.serveCall_callsOk {α : Type} (k : s.callsOk) (code : Nat) (r : Reader α) {act : HostFrame → α → State → CallAnswer}
    (h : ∀ (f : HostFrame) (v : α) (u : State), u.callsOk → u.hlc.host ≠ .dozing → ((act f v u).finish f code).callsOk) :
    (s.serveCall code r act).callsOk := by
  refine State.request_callsOk k code fun f body u hu => ?_
  have awake : u.hostAwake.callsOk := hu.like (State.hostAwake_like (.refl u))
  dsimp only
  split
  · exact h _ _ _ awake u.hostAwake_host
  · exact awake.like (State.reply_like _ _ _ _ (.refl _))

theorem withSub_callsOk {α : Type} {r : Reader α} {act : Sub → α → State → Answer}
    (h : ∀ (x : Sub) (v : α) (u : State), u.callsOk → u.hlc.host ≠ .dozing → (act x v u).2.2.callsOk) (f : HostFrame) (body : List Byte) (u : State)
    (k : u.callsOk) (host : u.hlc.host ≠ .dozing) : (withSub r act f body u).2.2.callsOk := by
  unfold withSub
  split
  · exact h _ _ u k host
  · exact k

theorem withoutSub_callsOk {α : Type} {r : Reader α} {act : α → State → Answer} (h : ∀ (v : α) (u : State), u.callsOk → (act v u).2.2.callsOk)
    (f : HostFrame) (body : List Byte) (u : State) (k : u.callsOk) (_ : u.hlc.host ≠ .dozing) : (withoutSub r act f body u).2.2.callsOk := by
  unfold withoutSub
  split
  · exact h _ u k
  · exact k

theorem State.actUpSignal_callsOk (k : s.callsOk) : s.actUpSignal.callsOk := by
  unfold State.actUpSignal
  split
  · exact k
  · split
    · exact k
    · have awake : s.popInbound.hostAwake.callsOk := k.like (State.hostAwake_like (State.popInbound_like (.refl s)))
      exact (State.doUpSignal_callsOk awake _).like (State.evaluate_like (State.reply_like _ _ _ _ (.refl _)))

theorem State.actUpSpeech_callsOk (k : s.callsOk) : s.actUpSpeech.callsOk := by
  unfold State.actUpSpeech
  split
  · exact k
  · split
    · exact k
    · exact k.like (State.evaluate_like (State.onVcp_like (State.hostAwake_like (State.popInbound_like (.refl s))) (Vcp.upSpeech_like _ _ _)))

/-- The host may doze where no context keeps it (R136, R165). -/
theorem State.hostDozing_callsOk (k : s.callsOk) (h : (ctxIndexes.any fun i => (s.ctx i).state.keepsHost) = false) : s.hostDozing.callsOk := by
  obtain ⟨activity, pair, contexts, -, voice, returns⟩ := k
  refine ⟨activity, pair, contexts, fun _ j => ?_, voice, returns⟩
  show (s.ctx j).state.keepsHost = false
  by_cases ne : (s.ctx j).state = .idle
  · rw [ne]; rfl
  · have lt := State.ctx_lt contexts ne
    simpa using List.any_eq_false.1 h j (by simp [ctxIndexes]; omega)

theorem State.doDoze_callsOk (k : s.callsOk) (f : HostFrame) (body : List Byte) : (s.doDoze f body).callsOk := by
  have awake : ∀ rc, (s.hostAwake.reply f 17 rc []).callsOk := fun rc => k.like (State.reply_like _ _ _ _ (State.hostAwake_like (.refl s)))
  unfold State.doDoze
  split
  · exact awake _
  split
  · exact awake _
  next h =>
  exact (State.hostDozing_callsOk k (by simpa using h)).like (State.reply_like _ _ _ _ (.refl _))

end Calls

end Sys2Proof.Machine
end

section
/-! Sitting 2: every row keeps what the rules of the calls hold together (O59). -/

namespace Sys2Proof.Machine

section Rows
variable {s t u : State}

theorem State.takeReset_callsOk (cause : ResetCause) (s : State) : (s.takeReset cause).callsOk :=
  reset_callsOk.like (State.drivePins_like { State.Like.refl State.reset with host := id })

theorem State.answer_callsOk (h : u.callsOk) (e : s.answer u = .next t) : t.callsOk := by
  cases e
  exact h.like (State.finish_like s (.refl u))

theorem State.doArbitration_callsOk (k : s.callsOk) (v : List Policy × Bool × Bool) : (s.doArbitration v).2.2.callsOk := by
  unfold State.doArbitration accept
  exact k.like (by simp)

theorem State.lightReturn_like : s.Like s.lightReturn := by
  unfold State.lightReturn
  split
  · split
    · exact State.becomeAwake_like (State.Like.ite (State.onClock_like _ (.refl s)) (.refl s))
    · exact .refl s
  · exact .refl s

theorem State.wakeExpiry_like : s.Like s.wakeExpiry := by
  unfold State.wakeExpiry
  split
  · exact State.Like.ite (State.enterWaking_like (State.onClock_like _ (State.elapse_like _ (.refl s)))) (.refl s)
  · exact .refl s

theorem State.settleEnd_like : s.Like s.settleEnd := by
  unfold State.settleEnd
  split
  · exact State.Like.ite (State.becomeAwake_like (State.onClock_like _ (State.elapse_like _ (.refl s)))) (.refl s)
  · exact .refl s

/-- Every row keeps the rules of the calls and of the activity states. -/
theorem exec_callsOk (c : Instr) (s t : State) (k : s.callsOk) (e : exec c s = .next t) : t.callsOk := by
  cases c
  case resetInputAssert => exact State.answer_callsOk (s := s) (u := { s with resetHeld := true }) (k.like { State.Like.refl s with }) e
  case resetInputRelease =>
    change (if s.resetHeld then _ else _) = _ at e
    split at e
    · cases e; exact s.takeReset_callsOk .pin
    · exact State.answer_callsOk k e
  case reset =>
    change (if s.resetTaken then _ else _) = _ at e
    split at e
    · cases e; exact s.takeReset_callsOk .request
    · exact State.answer_callsOk (State.serve_callsOk k 21 fun f b u h _ => h) e
  case frameBoundary => exact State.answer_callsOk (State.boundary_callsOk k) e
  case lightReturn => exact State.answer_callsOk (k.like State.lightReturn_like) e
  case wakeTimerExpiry => exact State.answer_callsOk (k.like State.wakeExpiry_like) e
  case settleCountEnd => exact State.answer_callsOk (k.like State.settleEnd_like) e
  case orderAck tag errors => exact State.answer_callsOk (State.orderAck_callsOk k tag errors) e
  case orderDeadline => exact State.answer_callsOk (State.deadlinePasses_callsOk k) e
  case measurementResult l => exact State.answer_callsOk (k.like (State.holdResult_like l (.refl s))) e
  case returnCounterExpiry x => exact State.answer_callsOk (State.inRankOrder_callsOk k fun u h => State.returnExpiry_callsOk h) e
  case answerTimerExpiry x n => exact State.answer_callsOk (State.inRankOrder_callsOk k fun u h => State.answerExpiry_callsOk h n) e
  case waitTimerExpiry x n => exact State.answer_callsOk (State.inRankOrder_callsOk k fun u h => State.waitExpiry_callsOk h n) e
  case linkIdle x n => exact State.answer_callsOk (State.inRankOrder_callsOk k fun u h => State.idleExpiry_callsOk h n) e
  case detachNoticeExpiry x => exact State.answer_callsOk (State.inRankOrder_callsOk k fun u h => State.noticeExpiry_callsOk h) e
  case ringTimeout i => exact State.answer_callsOk (State.inRankOrder_callsOk k fun u h => State.ringExpiry_callsOk h) e
  case reassemblyDeadline i => exact State.answer_callsOk (State.deadlineExpiry_callsOk k) e
  case pageBlock frame good b =>
    refine State.answer_callsOk (State.classify_callsOk k frame .page _ fun g u h => ?_) e
    split
    · exact State.pageDelivered_callsOk h g frame b
    · exact h
  case beaconBlock frame good b =>
    refine State.answer_callsOk (State.classify_callsOk k frame .beacon _ fun g u h => ?_) e
    split
    · exact State.beaconDelivered_callsOk h _ _ _
    · exact h
  case signalBlock frame good b =>
    exact State.answer_callsOk (State.classify_callsOk k frame .signal _ fun g u h => State.signalDelivered_callsOk h g frame _ b) e
  case voiceBlock frame good b =>
    exact State.answer_callsOk (State.classify_callsOk k frame .voice _ fun g u h => State.voiceDelivered_callsOk h g _ b) e
  case hostFrameStart => exact State.answer_callsOk (k.like (State.frameStart_like (.refl s))) e
  case readOnlyTransfer => exact State.answer_callsOk (k.like (State.readOnly_like (.refl s))) e
  case hostFrameReceived l => exact State.answer_callsOk (k.like (State.frameReceived_like l (.refl s))) e
  case outboundFrameSent => exact State.answer_callsOk (k.like (State.outboundSent_like (.refl s))) e
  case transferEnd b => exact State.answer_callsOk (k.like (State.transferOver_like b (.refl s))) e
  case textOfferRetry => exact State.answer_callsOk (k.like (State.offerTexts_like (.refl s))) e
  case heldMessageEnqueue x => exact State.answer_callsOk (State.enqueueHeld_callsOk k) e
  case pendingUpdateRetry x => exact State.answer_callsOk (State.waiterRetry_callsOk k .update) e
  case segmentDueRetry x => exact State.answer_callsOk (State.waiterRetry_callsOk k .segment) e
  case pagingPlacementRetry x => exact State.answer_callsOk (k.like (State.Like.ite (State.tryPaging_like x (.refl s)) (.refl s))) e
  case measurePlacementRetry x => exact State.answer_callsOk (k.like (State.Like.ite (State.tryMeasure_like x (.refl s)) (.refl s))) e
  case searchPlacementRetry x => exact State.answer_callsOk (k.like (State.Like.ite (State.trySearch_like x (.refl s)) (.refl s))) e
  case trafficPlacementRetry x => exact State.answer_callsOk (State.trafficRetry_callsOk k) e
  case connectWaitingResolved i => exact State.answer_callsOk (State.waitingResolved_callsOk k) e
  case upSignal => exact State.answer_callsOk (State.actUpSignal_callsOk k) e
  case upSpeech => exact State.answer_callsOk (State.actUpSpeech_callsOk k) e
  case configureSubscription =>
    exact State.answer_callsOk (State.serve_callsOk k 1 (withSub_callsOk fun x v u h _ => State.doConfigure_callsOk h v)) e
  case loadNeighbours =>
    exact State.answer_callsOk (State.serve_callsOk k 2 (withSub_callsOk fun x v u h _ => State.doNeighbours_callsOk h v)) e
  case loadNumbers =>
    exact State.answer_callsOk (State.serve_callsOk k 3 (withoutSub_callsOk fun v u h => State.doNumbers_callsOk h v)) e
  case loadRoutes =>
    exact State.answer_callsOk (State.serve_callsOk k 4 (withoutSub_callsOk fun v u h => State.doRoutes_callsOk h v)) e
  case setMobility =>
    exact State.answer_callsOk (State.serve_callsOk k 5 (withSub_callsOk fun x v u h _ => State.doMobility_callsOk h v)) e
  case setArbitration =>
    exact State.answer_callsOk (State.serve_callsOk k 6 (withoutSub_callsOk fun v u h => State.doArbitration_callsOk h v)) e
  case setSleep => exact State.answer_callsOk (State.serve_callsOk k 7 (withoutSub_callsOk fun v u h => State.doSleep_callsOk h v)) e
  case attach => exact State.answer_callsOk (State.serve_callsOk k 8 (withSub_callsOk fun x _ u h _ => State.doAttach_callsOk h)) e
  case detach => exact State.answer_callsOk (State.serve_callsOk k 9 (withSub_callsOk fun x _ u h _ => State.doDetach_callsOk h)) e
  case dial => exact State.answer_callsOk (State.serve_callsOk k 10 (withSub_callsOk fun x v u h a => State.doDial_callsOk h a v)) e
  case answer =>
    exact State.answer_callsOk (State.serveCall_callsOk k 11 readNat fun f j u h a => State.doAnswer_callsOk h a f j 11) e
  case reject => exact State.answer_callsOk (State.serve_callsOk k 12 (withoutSub_callsOk fun v u h => State.doReject_callsOk h v)) e
  case hangUp => exact State.answer_callsOk (State.serve_callsOk k 13 (withoutSub_callsOk fun v u h => State.doHangUp_callsOk h v)) e
  case hold => exact State.answer_callsOk (State.serveCall_callsOk k 14 (readPure ()) fun f _ u h _ => State.doHold_callsOk h f 14) e
  case resume => exact State.answer_callsOk (State.serveCall_callsOk k 15 (readPure ()) fun f _ u h _ => State.doResume_callsOk h f 15) e
  case sendText => exact State.answer_callsOk (State.serve_callsOk k 16 (withSub_callsOk fun x v u h _ => State.doSendText_callsOk h v)) e
  case hostDoze => exact State.answer_callsOk (State.request_callsOk k 17 fun f body u h => State.doDoze_callsOk h f body) e
  case radioHold => exact State.answer_callsOk (State.serve_callsOk k 18 (withoutSub_callsOk fun _ u h => State.doRadioHold_callsOk h)) e
  case radioRelease => exact State.answer_callsOk (State.serve_callsOk k 19 (withoutSub_callsOk fun _ u h => State.doRadioRelease_callsOk h)) e
  case query => exact State.answer_callsOk (State.serve_callsOk k 20 fun f body u h _ => State.doQuery_callsOk h f body) e

end Rows

/-- Settles O59: each operation is either unseen by the rules (`State.Like`), or work of one subscription that keeps the calls in order
(`State.Works`), or a teardown (`State.Gone`); a step that does work ends with the settling of its subscription (`State.Peered.settle`). -/
theorem stepKeepsCalls : Obligations.StepKeepsCalls := by
  intro s t _ k e
  unfold step at e
  split at e
  · cases e
    exact k.like (State.sleepTick_like (.refl s))
  · next c rest _ => exact exec_callsOk c { s with pending := rest } t (k.like { State.Like.refl s with }) e

end Sys2Proof.Machine
end

section
/-! Sitting 3: the requests that name no subscription, and RADIO_HOLD and RADIO_RELEASE (O9). -/

namespace Sys2Proof.Machine

/-! ### Requests that name no subscription (R162, R163) -/

theorem headerSub_eq_none_iff (b : Byte) : headerSub b = some none ↔ b = 0xFF := by
  unfold headerSub
  constructor
  · intro h
    split at h
    · cases h
    · split at h
      · cases h
      · split at h
        next e => exact e
        next => cases h
  · rintro rfl
    rfl

section WithoutSub
variable {α : Type} {r : Reader α} {act : α → State → Answer} {f : HostFrame} {body : List Byte}

theorem withoutSub_read {v : α} (hf : f.sub = 0xFF) (hv : readAll r body = some v) (s : State) : withoutSub r act f body s = act v s := by
  simp only [withoutSub, (headerSub_eq_none_iff f.sub).2 hf, hv]

/-- A request of the part as a whole that names a subscription, or whose values do not read, is a BAD_PARAM (R163). -/
theorem withoutSub_malformed (h : f.sub ≠ 0xFF ∨ readAll r body = none) (s : State) :
    withoutSub r act f body s = refuse .badParam s := by
  unfold withoutSub
  split
  next hx hv => simp [(headerSub_eq_none_iff f.sub).1 hx, hv] at h
  next => rfl

end WithoutSub

/-- A RESULT is all that a request without another effect adds to the state in which it is carried out. -/
theorem State.heard_reply {s : State} {f : HostFrame} {rest : List HostFrame} (h : s.hlc.inbound = f :: rest) (request : Byte)
    (code : ResultCode) (data : List Byte) : (s.heard rest).reply f request code data = s.acted rest (f.result request code data) := by
  rw [← State.heard_eq h, State.acted_eq h]

/-! ### RADIO_HOLD and RADIO_RELEASE (R48) -/

theorem doRadioHold_counts {s : State} (h : s.rta.holdCount < 15) :
    s.doRadioHold = (.ok, putNat (s.rta.holdCount + 1), s.onRta fun r => { r with holdCount := r.holdCount + 1 }) := by
  simp [State.doRadioHold, Config.holdLimit, Nat.not_le.2 h]

theorem doRadioHold_limit {s : State} (h : 15 ≤ s.rta.holdCount) : s.doRadioHold = refuse .limit s := by
  simp [State.doRadioHold, Config.holdLimit, h]

theorem doRadioRelease_counts {s : State} (h : 0 < s.rta.holdCount) :
    s.doRadioRelease = (.ok, putNat (s.rta.holdCount - 1), s.onRta fun r => { r with holdCount := r.holdCount - 1 }) := by
  simp [State.doRadioRelease, Nat.ne_of_gt h]

theorem doRadioRelease_none {s : State} (h : s.rta.holdCount = 0) : s.doRadioRelease = refuse .state s := by
  simp [State.doRadioRelease, h]

/-- A request answered with a change of RTA alone leaves what its RESULT and that change make of the state. -/
theorem served_rta {s : State} {f : HostFrame} {rest : List HostFrame} {code : Nat} {body : List Byte} {c : Instr}
    {act : HostFrame → List Byte → State → Answer} (h : s.asks f rest (BitVec.ofNat 8 code) body)
    (row : exec c s = s.answer (s.serve code act)) {r : ResultCode} {data : List Byte} {g : Rta → Rta}
    (done : act f body (s.heard rest) = (r, data, (s.heard rest).onRta g)) :
    ∃ t, exec c s = .next t ∧
      ({ s.acted rest (f.result (BitVec.ofNat 8 code) r data) with rta := g s.rta } : State).agreesButSleep t := by
  obtain ⟨t, e, agrees⟩ := served_row h row done
  refine ⟨t, e, ?_⟩
  rw [← State.heard_reply h.1, ← (s.heard_keeps rest).1]
  exact agrees

/-- Settles O9: the hold count before the request is the one that `heard` leaves. -/
theorem radioHoldAndReleaseCount : Obligations.RadioHoldAndReleaseCount := by
  unfold Obligations.RadioHoldAndReleaseCount
  constructor
  · intro s f rest body asked
    have row : exec .radioHold s = s.answer (s.serve 18 (withoutSub (readPure ()) fun _ => State.doRadioHold)) := rfl
    have rta : (s.heard rest).rta = s.rta := (s.heard_keeps rest).1
    have read (hf : f.sub = 0xFF) (hb : body = []) := withoutSub_read (act := fun (_ : Unit) => State.doRadioHold) hf
      ((readAll_pure () body).trans (if_pos hb)) (s.heard rest)
    refine ⟨fun hf hb below => ?_, fun hf hb full => ?_, fun malformed => ?_⟩
    · have done := (read hf hb).trans (doRadioHold_counts (by rwa [rta]))
      rw [rta] at done
      exact served_rta asked row done
    · exact served_refuses asked row ((read hf hb).trans (doRadioHold_limit (by rwa [rta])))
    · exact served_refuses asked row (withoutSub_malformed (by rw [readAll_pure]; simpa using malformed) _)
  · intro s f rest body asked
    have row : exec .radioRelease s = s.answer (s.serve 19 (withoutSub (readPure ()) fun _ => State.doRadioRelease)) := rfl
    have rta : (s.heard rest).rta = s.rta := (s.heard_keeps rest).1
    have read (hf : f.sub = 0xFF) (hb : body = []) := withoutSub_read (act := fun (_ : Unit) => State.doRadioRelease) hf
      ((readAll_pure () body).trans (if_pos hb)) (s.heard rest)
    refine ⟨fun hf hb above => ?_, fun hf hb zero => ?_, fun malformed => ?_⟩
    · have done := (read hf hb).trans (doRadioRelease_counts (by rwa [rta]))
      rw [rta] at done
      exact served_rta asked row done
    · exact served_refuses asked row ((read hf hb).trans (doRadioRelease_none (by rwa [rta])))
    · exact served_refuses asked row (withoutSub_malformed (by rw [readAll_pure]; simpa using malformed) _)

end Sys2Proof.Machine
end

section
/-! Sitting 3: claims that their owners place again where a setting changes, and the three requests that replace settings (O10). -/

namespace Sys2Proof.Machine

/-! ### A claim placed again (R36, R91, R101) -/

section Again
variable {s t u : State} {x y : Sub} {k l : ClaimKind} {again more : Prop} {slack length period slack' length' period' : Nat}

/-- `t` is `s` with the claim of `x` of kind `k` placed again with these values where `again` holds and it is not being withdrawn (log 54),
and with nothing else of RTA changed. -/
structure State.Replaces (x : Sub) (k : ClaimKind) (again : Prop) (slack length period : Nat) (s t : State) : Prop where
  rta : t.rta = { s.rta with claims := t.rta.claims }
  placed : ∀ i c, s.claimOf x k = some (i, c) → c.withdrawing = false → again →
    ∃ g, entryAt t.rta.claims i = some g ∧ c.placedAgain g slack length period
  kept : ∀ i c, s.claimOf x k = some (i, c) → c.withdrawing = true ∨ ¬ again → entryAt t.rta.claims i = some c
  others : ∀ j, (∀ c, s.claimOf x k ≠ some (j, c)) → entryAt t.rta.claims j = entryAt s.rta.claims j
  same : ∀ y l, y ≠ x ∨ l ≠ k → s.sameClaims y l t

theorem State.Replaces.none (h : t.rta = s.rta) (no : ∀ i c, s.claimOf x k = some (i, c) → again → c.withdrawing = true) :
    State.Replaces x k again slack length period s t where
  rta := by rw [h]
  placed i c hc hw ha := by rw [no i c hc ha] at hw; cases hw
  kept i c hc _ := by rw [h]; exact (State.claimOf_some hc).1
  others j _ := by rw [h]
  same y l _ := State.sameClaims_of_claims (by rw [h])

theorem Claim.placeAgain_placedAgain (c : Claim) (w : Window) (h : w.first = c.first) :
    c.placedAgain (c.placeAgain w) w.slack w.length w.period := by
  constructor
  · intro running
    refine ⟨w, ?_, h, rfl, rfl, rfl⟩
    rw [Claim.placeAgain, running]
  · intro idle
    unfold Claim.placeAgain
    split
    next e => exact absurd e idle
    all_goals simp only [h, if_true, Claim.takeWindow]

/-- What an owner's placement of a claim with its own first frame comes to. -/
theorem State.place_replaces {e : Nat × Claim} (he : s.claimOf x k = some e) (ha : again) (hw : e.2.withdrawing = false) (later : Bool) :
    State.Replaces x k again slack length period s (s.place x k ⟨e.2.first, slack, length, period, later⟩).2 where
  rta := by simp only [State.place, he, State.recomputeWake_keeps, State.onClaim, State.onRta_rta]
  placed i c hc _ _ := by
    obtain rfl : e = (i, c) := Option.some.inj (he.symm.trans hc)
    refine ⟨_, ?_, c.placeAgain_placedAgain ((⟨c.first, slack, length, period, later⟩ : Window).placedAt s.clock.now) rfl⟩
    rw [State.place_entry, he]
    exact if_pos rfl
  kept i c hc h := by
    obtain rfl : e = (i, c) := Option.some.inj (he.symm.trans hc)
    cases h with
    | inl withdrawing => rw [hw] at withdrawing; cases withdrawing
    | inr no => exact absurd ha no
  others j hj := by
    rw [State.place_entry, he]
    exact if_neg fun h => hj e.2 (by rw [he, ← h])
  same y l hne := s.place_sameClaims _ hne

/-- Two claims placed again one after the other. -/
theorem State.Replaces.then (h : State.Replaces x k again slack length period s t)
    (h' : State.Replaces y l more slack' length' period' t u) (hne : y ≠ x ∨ l ≠ k) :
    u.rta = { s.rta with claims := u.rta.claims } ∧
      (∀ i c, s.claimOf x k = some (i, c) → entryAt u.rta.claims i = entryAt t.rta.claims i) ∧ t.claimOf y l = s.claimOf y l ∧
      ∀ j, (∀ c, s.claimOf x k ≠ some (j, c)) → (∀ c, s.claimOf y l ≠ some (j, c)) → entryAt u.rta.claims j = entryAt s.rta.claims j := by
  have second : t.claimOf y l = s.claimOf y l := (h.same y l hne).claimOf
  refine ⟨?_, fun i c hc => ?_, second, fun j hx hy => ?_⟩
  · rw [h'.rta, h.rta]
  · refine h'.others i fun d hd => ?_
    rw [second] at hd
    obtain ⟨here, hx, hk⟩ := State.claimOf_some hc
    obtain ⟨there, hy, hl⟩ := State.claimOf_some hd
    obtain rfl : c = d := Option.some.inj (here.symm.trans there)
    cases hne with
    | inl n => exact n (hy.symm.trans hx)
    | inr n => exact n (hl.symm.trans hk)
  · rw [h'.others j (by rwa [second]), h.others j hx]

end Again

/-! ### MEASURE and SEARCH (R91, R101) -/

theorem State.replaceMeasure_replaces {again : Prop} (ha : again) (x : Sub) (s : State) :
    State.Replaces x .measure again 15 1 (s.measurePeriod x) s (s.replaceMeasure x) := by
  unfold State.replaceMeasure
  split
  next none => exact .none rfl fun i c hc => by rw [none] at hc; cases hc
  next e he =>
    split
    next withdrawing =>
      refine .none rfl fun i c hc _ => ?_
      rw [Option.some.inj (he.symm.trans hc)] at withdrawing
      exact withdrawing
    next kept => exact State.place_replaces he ha (by simpa using kept) _

theorem State.replaceSearch_replaces {again : Prop} (ha : again) (x : Sub) (s : State) :
    State.Replaces x .search again 15 4 (s.mobOf x).params.searchInterval s (s.replaceSearch x) := by
  unfold State.replaceSearch
  split
  next none => exact .none rfl fun i c hc => by rw [none] at hc; cases hc
  next e he =>
    split
    next withdrawing =>
      refine .none rfl fun i c hc _ => ?_
      rw [Option.some.inj (he.symm.trans hc)] at withdrawing
      exact withdrawing
    next kept => exact State.place_replaces he ha (by simpa using kept) _

/-- What MOB is told of when PSC's relaxation goes from `p` to `q` (R77): another status, or another factor while relaxed. -/
def PscSub.relaxesAnew (p q : PscSub) : Prop := p.relaxed ≠ q.relaxed ∨ (q.relaxed = true ∧ p.factor ≠ q.factor)

theorem PscSub.not_relaxesAnew (p q : PscSub) :
    ¬ p.relaxesAnew q ↔ p.relaxed = q.relaxed ∧ (q.relaxed = false ∨ p.factor = q.factor) := by
  unfold PscSub.relaxesAnew
  rw [not_or, not_and_or, ne_eq, not_not, ne_eq, not_not, Bool.not_eq_true]

theorem State.withRelax_eq (x : Sub) (f : PscSub → PscSub) (s : State) [Decidable ((s.pscOf x).relaxesAnew (f (s.pscOf x)))] :
    s.withRelax x f = if (s.pscOf x).relaxesAnew (f (s.pscOf x)) then (s.onPscOf x f).replaceMeasure x else s.onPscOf x f := by
  have after : (s.onPscOf x f).pscOf x = f (s.pscOf x) := PerSub.get_upd_same ..
  unfold State.withRelax
  dsimp only
  rw [after]
  exact if_congr (by simp [PscSub.relaxesAnew]) rfl rfl

/-- The period in force is that of the relaxation as it stands (R91). -/
theorem State.measurePeriod_eq (s : State) (x : Sub) : s.measurePeriod x =
    if 0 < (s.pscOf x).thr ∧ (s.pscOf x).relaxCount = (s.pscOf x).thr then (s.mobOf x).params.period * (s.pscOf x).factor
    else (s.mobOf x).params.period := by
  unfold State.measurePeriod
  exact if_congr (by simp [PscSub.relaxed]) rfl rfl

theorem State.withRelax_per (x : Sub) (f : PscSub → PscSub) (s : State) : (s.withRelax x f).psc.per = s.psc.per.upd x f := by
  classical
  rw [State.withRelax_eq]
  split
  · simp [State.onPscOf]
  · simp [State.onPscOf]

theorem State.withRelax_replaces (x : Sub) (f : PscSub → PscSub) (s : State) :
    State.Replaces x .measure ((s.pscOf x).relaxesAnew (f (s.pscOf x))) 15 1 ((s.onPscOf x f).measurePeriod x) s (s.withRelax x f) := by
  classical
  rw [State.withRelax_eq]
  split
  next changed =>
    obtain ⟨rta, placed, kept, others, same⟩ := (s.onPscOf x f).replaceMeasure_replaces changed x
    exact ⟨rta, placed, kept, others, same⟩
  next no => exact .none rfl fun _ _ _ yes => absurd yes no

/-- What the owner's occasion to place MEASURE again leaves of a claim that nothing else touches. -/
theorem State.Replaces.measured {s t u : State} {x : Sub} {p q : PscSub} {period : Nat}
    (h : State.Replaces x .measure (p.relaxesAnew q) 15 1 period s t)
    (stays : ∀ i c, s.claimOf x .measure = some (i, c) → entryAt u.rta.claims i = entryAt t.rta.claims i) {i : Nat} {c : Claim}
    (hc : s.claimOf x .measure = some (i, c)) :
    (c.withdrawing = false → p.relaxed ≠ q.relaxed ∨ (q.relaxed = true ∧ p.factor ≠ q.factor) →
      ∃ g, entryAt u.rta.claims i = some g ∧ c.placedAgain g 15 1 period) ∧
    (c.withdrawing = true ∨ (p.relaxed = q.relaxed ∧ (q.relaxed = false ∨ p.factor = q.factor)) → entryAt u.rta.claims i = some c) := by
  rw [stays i c hc]
  exact ⟨h.placed i c hc, fun no => h.kept i c hc (no.imp_right (PscSub.not_relaxesAnew p q).2)⟩

/-! ### SET_SLEEP (R78) -/

/-- The relaxation settings of a subscription, the count lowered to a new threshold. -/
def PscSub.withSettings (thr factor margin : Nat) (p : PscSub) : PscSub :=
  { p with thr := thr, factor := factor, margin := margin, relaxCount := min p.relaxCount thr }

/-- The state in which SET_SLEEP has set the settle time and the settings of A, and then those of B. -/
def State.sleepSetA (v : SleepValues) (s : State) : State :=
  (s.onPsc fun p => { p with settleS := v.settle }).withRelax .a (PscSub.withSettings v.thrA v.factorA v.marginA)

def State.sleepSet (v : SleepValues) (s : State) : State :=
  (s.sleepSetA v).withRelax .b (PscSub.withSettings v.thrB v.factorB v.marginB)

theorem doSleep_badParam {v : SleepValues} (h : v.ok = false) (s : State) : s.doSleep v = refuse .badParam s := by
  simp [State.doSleep, h]

theorem doSleep_accepted {v : SleepValues} (h : v.ok = true) (s : State) : s.doSleep v = (.ok, [], s.sleepSet v) := by
  unfold State.doSleep
  rw [h]
  rfl

theorem State.sleepSet_per (v : SleepValues) (s : State) : (s.sleepSet v).psc.per =
    ⟨s.psc.per.a.withSettings v.thrA v.factorA v.marginA, s.psc.per.b.withSettings v.thrB v.factorB v.marginB⟩ := by
  rw [State.sleepSet, State.withRelax_per, State.sleepSetA, State.withRelax_per]
  rfl

theorem State.sleepSet_rest (v : SleepValues) (s : State) : (s.sleepSet v).psc.settleS = v.settle ∧ (s.sleepSet v).sge = s.sge ∧
    (s.sleepSet v).sbs = s.sbs ∧ (s.sleepSet v).mob = s.mob ∧ (s.sleepSet v).cal = s.cal ∧ (s.sleepSet v).vcp = s.vcp ∧
    (s.sleepSet v).dlc = s.dlc ∧ (s.sleepSet v).rpt = s.rpt ∧ (s.sleepSet v).hlc = s.hlc := by
  simp [State.sleepSet, State.sleepSetA]

/-- The two MEASURE claims are placed again where the relaxation of their subscriptions asks for it, and nothing else of RTA changes. -/
theorem State.sleepSet_claims (v : SleepValues) (s : State) :
    (s.sleepSet v).rta = { s.rta with claims := (s.sleepSet v).rta.claims } ∧
    (∀ x i c, s.claimOf x .measure = some (i, c) →
      (c.withdrawing = false → (s.pscOf x).relaxed ≠ ((s.sleepSet v).pscOf x).relaxed ∨
          (((s.sleepSet v).pscOf x).relaxed = true ∧ (s.pscOf x).factor ≠ ((s.sleepSet v).pscOf x).factor) →
        ∃ g, entryAt (s.sleepSet v).rta.claims i = some g ∧ c.placedAgain g 15 1 ((s.sleepSet v).measurePeriod x)) ∧
      (c.withdrawing = true ∨ ((s.pscOf x).relaxed = ((s.sleepSet v).pscOf x).relaxed ∧
          (((s.sleepSet v).pscOf x).relaxed = false ∨ (s.pscOf x).factor = ((s.sleepSet v).pscOf x).factor)) →
        entryAt (s.sleepSet v).rta.claims i = some c)) ∧
    ∀ j, (∀ x c, s.claimOf x .measure ≠ some (j, c)) → entryAt (s.sleepSet v).rta.claims j = entryAt s.rta.claims j := by
  have ha := (s.onPsc fun p => { p with settleS := v.settle }).withRelax_replaces .a (PscSub.withSettings v.thrA v.factorA v.marginA)
  have hb := (s.sleepSetA v).withRelax_replaces .b (PscSub.withSettings v.thrB v.factorB v.marginB)
  obtain ⟨rta, stays, later, others⟩ := State.Replaces.then ha hb (.inl (by decide))
  have perA : (s.sleepSetA v).psc.per = s.psc.per.upd .a (PscSub.withSettings v.thrA v.factorA v.marginA) := State.withRelax_per ..
  have ofB : (s.sleepSetA v).pscOf .b = s.pscOf .b := by rw [State.pscOf, perA]; rfl
  have after (x : Sub) : (s.sleepSet v).pscOf x =
      (⟨s.psc.per.a.withSettings v.thrA v.factorA v.marginA, s.psc.per.b.withSettings v.thrB v.factorB v.marginB⟩ : PerSub PscSub).get x := by
    rw [State.pscOf, State.sleepSet_per]
  refine ⟨rta, fun x i c hc => ?_, fun j hj => others j (hj .a) (hj .b)⟩
  rw [State.measurePeriod_eq, State.mobOf, (s.sleepSet_rest v).2.2.2.1, after]
  cases x with
  | a =>
    have period := (((s.onPsc fun p => { p with settleS := v.settle })).onPscOf .a
      (PscSub.withSettings v.thrA v.factorA v.marginA)).measurePeriod_eq .a
    rw [period] at ha
    exact ha.measured stays hc
  | b =>
    have period := ((s.sleepSetA v).onPscOf .b (PscSub.withSettings v.thrB v.factorB v.marginB)).measurePeriod_eq .b
    have own : ((s.sleepSetA v).onPscOf .b (PscSub.withSettings v.thrB v.factorB v.marginB)).pscOf .b =
        (s.pscOf .b).withSettings v.thrB v.factorB v.marginB := by
      rw [← ofB]; exact PerSub.get_upd_same (s.sleepSetA v).psc.per .b _
    have mob : ((s.sleepSetA v).onPscOf .b (PscSub.withSettings v.thrB v.factorB v.marginB)).mobOf .b = s.mobOf .b := by
      simp [State.mobOf, State.sleepSetA]
    rw [period, own, mob, ofB] at hb
    exact hb.measured (fun _ _ _ => rfl) (later.trans hc)

/-! ### SET_MOBILITY (R86) -/

/-- The new parameters of `x`, before anything is placed again. -/
def State.withParams (x : Sub) (p : MobParams) (s : State) : State := s.onMobOf x fun m => { m with params := p }

/-- Then MEASURE placed again where its period changes, and SEARCH where the interval changes. -/
def State.mobilityMeasured (x : Sub) (p : MobParams) (s : State) : State :=
  if (s.mobOf x).params.period = p.period then s.withParams x p else (s.withParams x p).replaceMeasure x

def State.mobilitySet (x : Sub) (p : MobParams) (s : State) : State :=
  if (s.mobOf x).params.searchInterval = p.searchInterval then s.mobilityMeasured x p else (s.mobilityMeasured x p).replaceSearch x

theorem doMobility_badParam {p : MobParams} (h : p.ok = false) (x : Sub) (s : State) : s.doMobility x p = refuse .badParam s := by
  simp [State.doMobility, h]

theorem doMobility_accepted {p : MobParams} (h : p.ok = true) (x : Sub) (s : State) :
    s.doMobility x p = (.ok, [], s.mobilitySet x p) := by
  simp [State.doMobility, h, State.mobilitySet, State.mobilityMeasured, State.withParams]

section MobilitySet
variable (x : Sub) (p : MobParams) (s : State)

theorem State.mobilityMeasured_mob : (s.mobilityMeasured x p).mob = (s.withParams x p).mob := by
  unfold State.mobilityMeasured
  split <;> simp

theorem State.mobilitySet_rest : (s.mobilitySet x p).mob = (s.withParams x p).mob ∧ (s.mobilitySet x p).sge = s.sge ∧
    (s.mobilitySet x p).sbs = s.sbs ∧ (s.mobilitySet x p).cal = s.cal ∧ (s.mobilitySet x p).vcp = s.vcp ∧
    (s.mobilitySet x p).dlc = s.dlc ∧ (s.mobilitySet x p).rpt = s.rpt ∧ (s.mobilitySet x p).psc.per = s.psc.per ∧
    (s.mobilitySet x p).hlc = s.hlc := by
  unfold State.mobilitySet State.mobilityMeasured
  (repeat' split) <;> simp [State.withParams]

theorem State.withParams_mobOf : (s.withParams x p).mobOf x = { s.mobOf x with params := p } := PerSub.get_upd_same ..

theorem State.mobilityMeasured_replaces : State.Replaces x .measure (p.period ≠ (s.mobOf x).params.period) 15 1
    ((s.withParams x p).measurePeriod x) s (s.mobilityMeasured x p) := by
  unfold State.mobilityMeasured
  split
  next same => exact .none rfl fun _ _ _ changed => absurd same.symm changed
  next changed =>
    obtain ⟨rta, placed, kept, others, same⟩ := (s.withParams x p).replaceMeasure_replaces (fun e => changed e.symm :
      p.period ≠ (s.mobOf x).params.period) x
    exact ⟨rta, placed, kept, others, same⟩

theorem State.mobilitySet_replaces : State.Replaces x .search (p.searchInterval ≠ (s.mobOf x).params.searchInterval) 15 4 p.searchInterval
    (s.mobilityMeasured x p) (s.mobilitySet x p) := by
  unfold State.mobilitySet
  split
  next same => exact .none rfl fun _ _ _ changed => absurd same.symm changed
  next changed =>
    have interval : ((s.mobilityMeasured x p).mobOf x).params.searchInterval = p.searchInterval := by
      rw [State.mobOf, State.mobilityMeasured_mob]
      exact congrArg (·.params.searchInterval) (s.withParams_mobOf x p)
    have placed := (s.mobilityMeasured x p).replaceSearch_replaces (fun e => changed e.symm :
      p.searchInterval ≠ (s.mobOf x).params.searchInterval) x
    rwa [interval] at placed

end MobilitySet

/-- The MEASURE and the SEARCH claim are placed again where their period changes, and nothing else of RTA changes. -/
theorem State.mobilitySet_claims (x : Sub) (p : MobParams) (s : State) :
    (s.mobilitySet x p).rta = { s.rta with claims := (s.mobilitySet x p).rta.claims } ∧
    (∀ i c, s.claimOf x .measure = some (i, c) →
      (c.withdrawing = false → p.period ≠ (s.mobOf x).params.period → ∃ g, entryAt (s.mobilitySet x p).rta.claims i = some g ∧
        c.placedAgain g 15 1 (if 0 < (s.pscOf x).thr ∧ (s.pscOf x).relaxCount = (s.pscOf x).thr then p.period * (s.pscOf x).factor
          else p.period)) ∧
      (c.withdrawing = true ∨ p.period = (s.mobOf x).params.period → entryAt (s.mobilitySet x p).rta.claims i = some c)) ∧
    (∀ i c, s.claimOf x .search = some (i, c) →
      (c.withdrawing = false → p.searchInterval ≠ (s.mobOf x).params.searchInterval →
        ∃ g, entryAt (s.mobilitySet x p).rta.claims i = some g ∧ c.placedAgain g 15 4 p.searchInterval) ∧
      (c.withdrawing = true ∨ p.searchInterval = (s.mobOf x).params.searchInterval →
        entryAt (s.mobilitySet x p).rta.claims i = some c)) ∧
    ∀ j, (∀ k c, (k = .measure ∨ k = .search) → s.claimOf x k ≠ some (j, c)) →
      entryAt (s.mobilitySet x p).rta.claims j = entryAt s.rta.claims j := by
  have measure := s.mobilityMeasured_replaces x p
  have search := s.mobilitySet_replaces x p
  obtain ⟨rta, stays, later, others⟩ := measure.then search (.inr (by decide))
  rw [State.measurePeriod_eq, State.withParams_mobOf] at measure
  refine ⟨rta, fun i c hc => ⟨?_, fun no => ?_⟩, fun i c hc => ⟨?_, fun no => ?_⟩,
    fun j hj => others j (fun c => hj _ c (.inl rfl)) fun c => hj _ c (.inr rfl)⟩
  · rw [stays i c hc]
    exact measure.placed i c hc
  · rw [stays i c hc]
    exact measure.kept i c hc (no.imp_right not_not.2)
  · exact search.placed i c (later.trans hc)
  · exact search.kept i c (later.trans hc) (no.imp_right not_not.2)

/-! ### The three requests -/

theorem setArbitration_replaces {s : State} {f : HostFrame} {rest : List HostFrame} {body : List Byte} (asked : s.asks f rest 6 body) :
    (∀ v, f.sub = 0xFF → readAll readArbitration body = some v → ∃ t, exec .setArbitration s = .next t ∧
      ({ s.acted rest (f.result 6 .ok []) with
          rta := { s.rta with policies := v.1, tuneAway := ⟨v.2.1, v.2.2⟩ } } : State).agreesButSleep t) ∧
    (f.sub ≠ 0xFF ∨ readAll readArbitration body = none → Refuses .setArbitration 6 .badParam s f rest) := by
  have row : exec .setArbitration s = s.answer (s.serve 6 (withoutSub readArbitration State.doArbitration)) := rfl
  exact ⟨fun v hf hv => served_rta asked row (withoutSub_read hf hv _), fun malformed => served_refuses asked row (withoutSub_malformed malformed _)⟩

/-- The claims that an owner finds after taking a frame from the hold are those of before. -/
theorem State.heard_claimOf (s : State) (rest : List HostFrame) (x : Sub) (k : ClaimKind) : (s.heard rest).claimOf x k = s.claimOf x k := by
  rw [State.claimOf, (s.heard_keeps rest).1, State.claimOf]

theorem State.heard_pscOf (s : State) (rest : List HostFrame) (x : Sub) : (s.heard rest).pscOf x = s.pscOf x := by
  rw [State.pscOf, (s.heard_rest rest).2.2.1, State.pscOf]

theorem State.heard_mobOf (s : State) (rest : List HostFrame) (x : Sub) : (s.heard rest).mobOf x = s.mobOf x := by
  rw [State.mobOf, (s.heard_keeps rest).2.2.2.1, State.mobOf]

theorem State.heard_rpt (s : State) (rest : List HostFrame) : (s.heard rest).rpt = s.rpt := by
  unfold State.heard
  dsimp only
  split <;> simp

/-- Settles O10: the settings by `sleepSet_rest` and `mobilitySet_rest`, the claims by `sleepSet_claims` and `mobilitySet_claims`, each
in the state `heard` gives. -/
theorem settingsAreReplacedWhole : Obligations.SettingsAreReplacedWhole := by
  unfold Obligations.SettingsAreReplacedWhole
  refine ⟨fun s f rest body asked => setArbitration_replaces asked, fun s f rest body asked => ?sleep, fun s f rest body asked => ?mobility⟩
  case sleep =>
    have row : exec .setSleep s = s.answer (s.serve 7 (withoutSub readSleep State.doSleep)) := rfl
    refine ⟨fun v hf hv ok => ?_, fun malformed => ?_⟩
    · obtain ⟨rta, sge, sbs, mob, cal, -, results, -⟩ := s.heard_keeps rest
      obtain ⟨-, dlc, psc, vcp⟩ := s.heard_rest rest
      obtain ⟨settles, vsge, vsbs, vmob, vcal, vvcp, vdlc, vrpt, vhlc⟩ := (s.heard rest).sleepSet_rest v
      obtain ⟨vrta, claims, others⟩ := (s.heard rest).sleepSet_claims v
      have per := (s.heard rest).sleepSet_per v
      simp only [State.heard_claimOf, State.heard_pscOf, rta, psc] at vrta claims others per
      have done := (withoutSub_read (act := State.doSleep) hf hv (s.heard rest)).trans (doSleep_accepted ok _)
      obtain ⟨t, e, -, -, -, trpt, trta, tdlc, tsge, tsbs, tper, tsettle, tmob, tcal, tvcp, -, -, -, -, -, tresults, -, tqueue, -⟩ :=
        served_row asked row done
      have tper : t.psc.per = ((s.heard rest).sleepSet v).psc.per := tper.trans (by simp)
      have trta : t.rta = ((s.heard rest).sleepSet v).rta := trta.trans (by simp)
      have tpsc (x : Sub) : ((s.heard rest).sleepSet v).pscOf x = t.pscOf x := by rw [State.pscOf, ← tper, State.pscOf]
      refine ⟨t, e, ?_, ?_, ?_, ?_, ?_, ?_, ?_, ?_, ?_, ?_, ?_, ?_, fun x i c hc => ?_, fun j hj => ?_, ?_⟩
      · rw [tresults]; simp [vhlc, results]
      · rw [tsettle]; simp [settles]
      · rw [tper, per]; rfl
      · rw [tper, per]; rfl
      · rw [tsge]; simp [vsge, sge]
      · rw [tsbs]; simp [vsbs, sbs]
      · rw [tmob]; simp [vmob, mob]
      · rw [tcal]; simp [vcal, cal]
      · rw [tvcp]; simp [vvcp, vcp]
      · rw [tdlc]; simp [vdlc, dlc]
      · rw [trpt]; simp [vrpt, s.heard_rpt rest]
      · rw [tqueue]; simp [vhlc]
      · have placed := claims x i c hc
        rw [State.measurePeriod_eq, tpsc, State.mobOf, vmob, mob] at placed
        rw [trta]
        exact placed
      · rw [trta]
        exact others j hj
      · rw [trta]
        exact vrta
    · refine served_refuses asked row ?_
      by_cases hf : f.sub = 0xFF
      · cases hv : readAll readSleep body with
        | none => exact withoutSub_malformed (.inr hv) _
        | some v =>
          have bad : v.ok = false := by simpa [hf, hv] using malformed
          exact (withoutSub_read hf hv _).trans (doSleep_badParam bad _)
      · exact withoutSub_malformed (.inl hf) _
  case mobility =>
    have row : exec .setMobility s = s.answer (s.serve 5 (withSub readMobility State.doMobility)) := rfl
    refine ⟨fun x p hx hp ok => ?_, fun malformed => ?_⟩
    · obtain ⟨rta, sge, sbs, mob, cal, -, results, -⟩ := s.heard_keeps rest
      obtain ⟨-, dlc, psc, vcp⟩ := s.heard_rest rest
      obtain ⟨vmob, vsge, vsbs, vcal, vvcp, vdlc, vrpt, vper, vhlc⟩ := (s.heard rest).mobilitySet_rest x p
      have claims := (s.heard rest).mobilitySet_claims x p
      simp only [State.heard_claimOf, State.heard_pscOf, State.heard_mobOf, rta] at claims
      have done := (withSub_read (act := State.doMobility) hx hp (s.heard rest)).trans (doMobility_accepted ok x _)
      obtain ⟨t, e, -, -, -, trpt, trta, tdlc, tsge, tsbs, tper, -, tmob, tcal, tvcp, -, -, -, -, -, tresults, -, tqueue, -⟩ :=
        served_row asked row done
      have trta : t.rta = ((s.heard rest).mobilitySet x p).rta := trta.trans (by simp)
      have tmob : t.mob = s.mob.upd x fun m => { m with params := p } := tmob.trans (by simp [vmob, State.withParams, State.onMobOf, mob])
      rw [← trta] at claims
      refine ⟨t, e, ?_, ?_, ?_, ?_, ?_, ?_, ?_, ?_, ?_, ?_, ?_, claims.2.1, claims.2.2.1, claims.2.2.2, claims.1⟩
      · rw [tresults]; simp [vhlc, results]
      · rw [State.mobOf, tmob, PerSub.get_upd_same]; rfl
      · rw [State.mobOf, tmob, PerSub.get_upd_other]; rfl
      · rw [tsge]; simp [vsge, sge]
      · rw [tsbs]; simp [vsbs, sbs]
      · rw [tcal]; simp [vcal, cal]
      · rw [tvcp]; simp [vvcp, vcp]
      · rw [tdlc]; simp [vdlc, dlc]
      · rw [trpt]; simp [vrpt, s.heard_rpt rest]
      · rw [tper]; simp [vper, psc]
      · rw [tqueue]; simp [vhlc]
    · refine served_refuses asked row ?_
      cases hx : headerSub f.sub with
      | none => exact withSub_malformed (.inr (.inl hx)) _
      | some o =>
        cases o with
        | none => exact withSub_malformed (.inl hx) _
        | some x =>
          cases hp : readAll readMobility body with
          | none => exact withSub_malformed (.inr (.inr hp)) _
          | some p =>
            have bad : p.ok = false := by simpa [hx, hp] using malformed
            exact (withSub_read hx hp _).trans (doMobility_badParam bad x _)

end Sys2Proof.Machine
end

section
/-! Sitting 3: the gap frames of a connected pattern, and which claims are eligible for a frame (O6). -/

namespace Sys2Proof.Machine

/-! ### The connected pattern (R38) -/

theorem CellCopy.demands_eq_false_iff (c : CellCopy) (r : Frame) : c.demands r = false ↔
    14 ≤ (r - frameOf c.offset).toNat % 16 ∧ (0 < c.phase → 14 ≤ (r - frameOf c.offset - 1).toNat % 16) := by
  simp [CellCopy.demands, Bool.or_eq_false_iff]

/-- The cell frame before one of residue 15 is of residue 14, and the one before one of residue 14 is demanded. -/
theorem frame_pred_mod (n : Frame) (h : 14 ≤ n.toNat % 16) : 14 ≤ (n - 1).toNat % 16 ↔ n.toNat % 16 = 15 := by
  have pred : (n - 1).toNat = (4096 - 1 + n.toNat) % 4096 := by rw [BitVec.toNat_sub]; rfl
  have := n.isLt
  omega

theorem CellCopy.gap_of_phase_zero {c : CellCopy} (h : c.phase = 0) (r : Frame) : c.demands r = false ↔
    (r - frameOf c.offset).toNat % 16 = 14 ∨ (r - frameOf c.offset).toNat % 16 = 15 := by
  rw [CellCopy.demands_eq_false_iff, h]
  omega

theorem CellCopy.gap_of_phase_pos {c : CellCopy} (h : 0 < c.phase) (r : Frame) :
    c.demands r = false ↔ (r - frameOf c.offset).toNat % 16 = 15 := by
  rw [CellCopy.demands_eq_false_iff]
  constructor
  · exact fun ⟨own, before⟩ => (frame_pred_mod _ own).1 (before h)
  · intro last
    have own : 14 ≤ (r - frameOf c.offset).toNat % 16 := by omega
    exact ⟨own, fun _ => (frame_pred_mod _ own).2 last⟩

/-! ### Eligible claims (R40) -/

theorem State.demanded_iff (s : State) (x : Sub) (r : Frame) :
    s.demanded x r = true ↔ ∃ copy, s.rta.copies.get x = some copy ∧ copy.demands r = true := by
  unfold State.demanded
  split
  next absent => simp [absent]
  next c there => simp [there]

/-- A frame is kept for the standing claims of `x` that are not HELD_OUT. -/
theorem State.standingDemands_eq_false_iff (s : State) (x : Sub) (r : Frame) : s.standingDemands x r = false ↔
    ∀ copy, s.rta.copies.get x = some copy → copy.demands r = true →
      ∀ i g, entryAt s.rta.claims i = some g → g.sub = x → g.perFrame = true → g.state = .heldOut := by
  rw [← Bool.not_eq_true, State.standingDemands, Bool.and_eq_true, State.demanded_iff, List.any_eq_true]
  constructor
  · intro no copy there demanded i g hg hx standing
    by_contra held
    exact no ⟨⟨copy, there, demanded⟩, (i, g), (mem_taken ..).2 hg, by simp [hx, standing, held]⟩
  · rintro held ⟨⟨copy, there, demanded⟩, ⟨i, g⟩, hg, keeps⟩
    simp only [Bool.and_eq_true, beq_iff_eq, bne_iff_ne] at keeps
    obtain ⟨⟨hx, standing⟩, out⟩ := keeps
    exact out (held copy there demanded i g ((mem_taken ..).1 hg) hx standing)

theorem State.eligible_standing_iff {c : Claim} (h : c.perFrame = true) (s : State) (r : Frame) :
    s.eligible r c = true ↔ c.state = .waiting ∧ ∃ copy, s.rta.copies.get c.sub = some copy ∧ copy.demands r = true := by
  rw [State.eligible, if_pos h, Bool.and_eq_true, beq_iff_eq, State.demanded_iff]

theorem State.eligible_window_iff {c : Claim} (h : c.perFrame = false) (s : State) (r : Frame) : s.eligible r c = true ↔
    c.state = .waiting ∧ c.later = false ∧ frameDist c.first r ≤ c.slack ∧ (c.kind = .measure → s.standingDemands c.sub r = false) := by
  simp [State.eligible, h, inWindow, and_assoc, imp_iff_not_or]

/-- Settles O6: the pattern by residues modulo 16, the claims by what `eligible` asks of each sort. -/
theorem gapFramesOfConnectedPattern : Obligations.GapFramesOfConnectedPattern := by
  unfold Obligations.GapFramesOfConnectedPattern
  refine ⟨fun c r => ⟨fun h => CellCopy.gap_of_phase_zero h r, fun h => CellCopy.gap_of_phase_pos h r⟩,
    fun s r c => ⟨fun h => State.eligible_standing_iff h s r, fun h => ?_⟩⟩
  simp only [State.eligible_window_iff h, State.standingDemands_eq_false_iff]

end Sys2Proof.Machine
end

section
/-! Sitting 3: what the part's other work leaves of the unit in progress, its holders and the Radio Port. -/

namespace Sys2Proof.Machine

/-! ### The relation -/

/-- A unit but for its withdrawn mark, which a withdrawal sets (R37). -/
def RadioUnit.unmarked (u : RadioUnit) : RadioUnit := { u with withdrawn := false }

/-- The holder that a unit is recorded as (R42). -/
def RadioUnit.holder (u : RadioUnit) : Holder := ⟨u.sub, u.kind, u.first, u.withdrawn⟩

/-- The Radio Port but for what its order carries, which a message that leaves otherwise takes back (R8). -/
def Rpt.unheaded (r : Rpt) : Rpt := { r with order := r.order.map fun o => { o with carriesHead := false } }

/-- The unit in progress is the latest holder on record (R42). -/
def State.holderRecorded (s : State) : Prop := s.rta.holders.head? = some (s.rta.unit.map RadioUnit.holder)

/-- The part's other work neither starts nor ends a unit, and sends no order; nor does it begin an access. -/
structure State.Attends (s t : State) : Prop where
  rpt : t.rpt.unheaded = s.rpt.unheaded
  unit : t.rta.unit.map RadioUnit.unmarked = s.rta.unit.map RadioUnit.unmarked
  held : s.holderRecorded → t.holderRecorded
  noReturn : ∀ x, (s.mobOf x).returnRec = none → (t.mobOf x).returnRec = none

@[simp] theorem State.Attends.refl (s : State) : s.Attends s := ⟨rfl, rfl, id, fun _ => id⟩

theorem State.Attends.trans {s t u : State} (h : s.Attends t) (k : t.Attends u) : s.Attends u where
  rpt := k.rpt.trans h.rpt
  unit := k.unit.trans h.unit
  held := k.held ∘ h.held
  noReturn x := k.noReturn x ∘ h.noReturn x

theorem State.Attends.foldl {α : Type} {f : State → α → State} (hf : ∀ (t : State) (a : α), t.Attends (f t a)) (l : List α) {s t : State}
    (h : s.Attends t) : s.Attends (l.foldl f t) := by
  induction l generalizing t with
  | nil => exact h
  | cons a l ih => exact ih (h.trans (hf t a))

/-! ### One block changed -/

section Blocks
variable {s t : State}

@[simp] theorem State.onDlc_attends {f : Dlc → Dlc} (h : s.Attends t) : s.Attends (t.onDlc f) := { h with }
@[simp] theorem State.onSge_attends {f : Sge → Sge} (h : s.Attends t) : s.Attends (t.onSge f) := { h with }
@[simp] theorem State.onRecord_attends {x : Sub} {f : SubRecord → SubRecord} (h : s.Attends t) : s.Attends (t.onRecord x f) := { h with }
@[simp] theorem State.onPsc_attends {f : Psc → Psc} (h : s.Attends t) : s.Attends (t.onPsc f) := { h with }
@[simp] theorem State.onPscOf_attends {x : Sub} {f : PscSub → PscSub} (h : s.Attends t) : s.Attends (t.onPscOf x f) := { h with }
@[simp] theorem State.onCal_attends {f : Cal → Cal} (h : s.Attends t) : s.Attends (t.onCal f) := { h with }
@[simp] theorem State.onCtx_attends {i : Nat} {f : CallContext → CallContext} (h : s.Attends t) : s.Attends (t.onCtx i f) := { h with }
@[simp] theorem State.onVcp_attends {f : Vcp → Vcp} (h : s.Attends t) : s.Attends (t.onVcp f) := { h with }
@[simp] theorem State.onTxt_attends {f : Txt → Txt} (h : s.Attends t) : s.Attends (t.onTxt f) := { h with }
@[simp] theorem State.onHlc_attends {f : Hlc → Hlc} (h : s.Attends t) : s.Attends (t.onHlc f) := { h with }

@[simp] theorem State.onRta_attends {f : Rta → Rta} (h : s.Attends t) (hf : (f t.rta).unit = t.rta.unit ∧ (f t.rta).holders = t.rta.holders) :
    s.Attends (t.onRta f) where
  rpt := h.rpt
  unit := (congrArg _ hf.1).trans h.unit
  held k := by
    have recorded := h.held k
    unfold State.holderRecorded at recorded ⊢
    rw [State.onRta_rta, hf.1, hf.2, recorded]
  noReturn := h.noReturn

@[simp] theorem State.onMobOf_attends {x : Sub} {f : MobSub → MobSub} (h : s.Attends t)
    (hf : (t.mobOf x).returnRec = none → (f (t.mobOf x)).returnRec = none) : s.Attends (t.onMobOf x f) where
  rpt := h.rpt
  unit := h.unit
  held := h.held
  noReturn y k := by
    have before := h.noReturn y k
    rw [State.onMobOf_mobOf]
    split
    next e => subst e; exact hf before
    next => exact before

@[simp] theorem State.onClaim_attends (i : Nat) (f : Claim → Claim) (h : s.Attends t) : s.Attends (t.onClaim i f) :=
  State.onRta_attends h ⟨rfl, rfl⟩

@[simp] theorem State.freeClaim_attends (i : Nat) (h : s.Attends t) : s.Attends (t.freeClaim i) := State.onRta_attends h ⟨rfl, rfl⟩

@[simp] theorem State.settleClaim_attends (i : Nat) (code : EndCode) (h : s.Attends t) : s.Attends (t.settleClaim i code) :=
  State.onRta_attends h ⟨rfl, rfl⟩

@[simp] theorem State.unask_attends (x : Sub) (k : ClaimKind) (h : s.Attends t) : s.Attends (t.unask x k) :=
  State.onRta_attends h ⟨rfl, rfl⟩

@[simp] theorem State.setAsked_attends (l : Option (List (ClaimKind × Sub))) (h : s.Attends t) : s.Attends (t.setAsked l) :=
  State.onRta_attends h ⟨rfl, rfl⟩

/-- An operation that leaves RPT, RTA and MOB alone. -/
theorem State.Attends.keep {u : State} (h : s.Attends t) (rpt : u.rpt = t.rpt := by simp) (rta : u.rta = t.rta := by simp)
    (mob : u.mob = t.mob := by simp) : s.Attends u where
  rpt := by rw [rpt]; exact h.rpt
  unit := by rw [rta]; exact h.unit
  held k := by unfold State.holderRecorded; rw [rta]; exact h.held k
  noReturn x k := by unfold State.mobOf; rw [mob]; exact h.noReturn x k

@[simp] theorem State.recomputeWake_attends (h : s.Attends t) : s.Attends t.recomputeWake := h.keep
@[simp] theorem State.report_attends (r : Report) (h : s.Attends t) : s.Attends (t.report r) := h.keep
@[simp] theorem State.reportWake_attends (r : Report) (h : s.Attends t) : s.Attends (t.reportWake r) := h.keep
@[simp] theorem State.setFilter_attends (x : Sub) (isOpen : Bool) (h : s.Attends t) : s.Attends (t.setFilter x isOpen) := h.keep

@[simp] theorem State.place_attends (x : Sub) (k : ClaimKind) (w : Window) (h : s.Attends t) : s.Attends (t.place x k w).2 := by
  unfold State.place
  dsimp only
  (repeat' split) <;> simp [h]

@[simp] theorem State.ask_attends {x : Sub} {k : ClaimKind} {now : State → State} (h : s.Attends t) (hn : s.Attends (now t)) :
    s.Attends (t.ask x k now) := by
  unfold State.ask
  split
  next => exact hn
  next =>
    split
    · exact h
    · exact State.onRta_attends h ⟨rfl, rfl⟩

end Blocks

section Tables

@[simp] theorem MobSub.rerank_returnRec (m : MobSub) : m.rerank.returnRec = m.returnRec := by unfold MobSub.rerank; split <;> rfl

@[simp] theorem MobSub.applyEntry_returnRec (m : MobSub) (e : ListedCell × Option Int) : (m.applyEntry e).returnRec = m.returnRec := by
  unfold MobSub.applyEntry; (repeat' split) <;> rfl

@[simp] theorem MobSub.applyEntries_returnRec (l : List (ListedCell × Option Int)) (m : MobSub) :
    (l.foldl MobSub.applyEntry m).returnRec = m.returnRec := by
  induction l generalizing m with
  | nil => rfl
  | cons e l ih => simp [ih]

@[simp] theorem MobSub.advanceRotation_returnRec (cells : List ListedCell) (m : MobSub) :
    (m.advanceRotation cells).returnRec = m.returnRec := by
  unfold MobSub.advanceRotation; split <;> rfl

@[simp] theorem MobSub.trigger_returnRec (m : MobSub) : m.trigger.2.returnRec = m.returnRec := by
  unfold MobSub.trigger; dsimp only; (repeat' split) <;> rfl

end Tables

section Operations
variable {s t : State}

@[simp] theorem State.markUnitWithdrawn_attends (h : s.Attends t) : s.Attends t.markUnitWithdrawn := by
  unfold State.markUnitWithdrawn
  split
  next => exact h
  next u hu =>
    refine h.trans ⟨rfl, by simp [hu, RadioUnit.unmarked], fun recorded => ?_, fun _ => id⟩
    unfold State.holderRecorded at recorded ⊢
    simp [recorded, hu, RadioUnit.holder]

@[simp] theorem State.dropPurpose_attends (x : Sub) (k : ClaimKind) (h : s.Attends t) :
    s.Attends (t.dropPurpose x k) := by
  unfold State.dropPurpose; split <;> simp [h]

@[simp] theorem State.withdraw_attends (x : Sub) (k : ClaimKind) (h : s.Attends t) :
    s.Attends (t.withdraw x k) := by
  unfold State.withdraw; dsimp only; (repeat' split) <;> simp (maxDischargeDepth := 20) [h]

@[simp] theorem State.suspendClaim_attends (x : Sub) (k : ClaimKind) (h : s.Attends t) : s.Attends (t.suspendClaim x k) := by
  unfold State.suspendClaim; split <;> simp [h]

@[simp] theorem State.resumeClaim_attends (x : Sub) (k : ClaimKind) (h : s.Attends t) : s.Attends (t.resumeClaim x k) := by
  unfold State.resumeClaim; split <;> simp [h]

@[simp] theorem State.replaceMeasure_attends (x : Sub) (h : s.Attends t) :
    s.Attends (t.replaceMeasure x) := by
  unfold State.replaceMeasure; (repeat' split) <;> simp [h]

@[simp] theorem State.withRelax_attends (x : Sub) (f : PscSub → PscSub) (h : s.Attends t) : s.Attends (t.withRelax x f) := by
  unfold State.withRelax; dsimp only; split <;> simp [h]

@[simp] theorem State.clearRelax_attends (x : Sub) (h : s.Attends t) :
    s.Attends (t.clearRelax x) := by
  simp [State.clearRelax, h]

@[simp] theorem State.giveLevel_attends (x : Sub) (level : Option Int) (qmin : Int) (h : s.Attends t) :
    s.Attends (t.giveLevel x level qmin) := by
  exact State.withRelax_attends x _ h

@[simp] theorem State.giveServingLevel_attends (x : Sub) (h : s.Attends t) :
    s.Attends (t.giveServingLevel x) := by
  unfold State.giveServingLevel; split <;> simp [h]

@[simp] theorem State.clearRun_attends (x : Sub) (h : s.Attends t) :
    s.Attends (t.clearRun x) := by
  simp [State.clearRun, h]

@[simp] theorem State.lostOccasion_attends (x : Sub) (wasMissed : Bool) (h : s.Attends t) :
    s.Attends (t.lostOccasion x wasMissed) := by
  unfold State.lostOccasion; dsimp only; (repeat' split) <;> simp [h]

@[simp] theorem State.tryPaging_attends (x : Sub) (h : s.Attends t) :
    s.Attends (t.tryPaging x) := by
  unfold State.tryPaging; split
  · exact h
  · split <;> (have k := congrArg Prod.snd ‹_ = (_, _)›; dsimp only at k; subst k; simp (maxDischargeDepth := 20) [h])

@[simp] theorem State.placePaging_attends (x : Sub) (h : s.Attends t) :
    s.Attends (t.placePaging x) := by
  unfold State.placePaging; split <;> simp [h]

@[simp] theorem State.withdrawPaging_attends (x : Sub) (h : s.Attends t) :
    s.Attends (t.withdrawPaging x) := by
  simp [State.withdrawPaging, h]

@[simp] theorem State.replacePaging_attends (x : Sub) (h : s.Attends t) :
    s.Attends (t.replacePaging x) := by
  unfold State.replacePaging; (repeat' split) <;> simp [h]

@[simp] theorem State.recomputeSchedule_attends (x : Sub) (h : s.Attends t) :
    s.Attends (t.recomputeSchedule x) := by
  unfold State.recomputeSchedule; dsimp only; (repeat' split) <;> simp [h]

@[simp] theorem State.quietListen_attends (x : Sub) (l : Listen) (h : s.Attends t) :
    s.Attends (t.quietListen x l) := by
  unfold State.quietListen; split <;> simp [h]

@[simp] theorem State.listenEnded_attends (x : Sub) (code : EndCode) (first : Option Frame) (h : s.Attends t) :
    s.Attends (t.listenEnded x code first) := by
  unfold State.listenEnded; (repeat' split) <;> simp [h]

@[simp] theorem State.enqueue_attends (x : Sub) (m : Msg) (h : s.Attends t) : s.Attends (t.enqueue x m) := by
  unfold State.enqueue; split <;> simp [h]

@[simp] theorem State.offer_attends (x : Sub) (o : Offer) (h : s.Attends t) : s.Attends (t.offer x o).2 := by
  unfold State.offer; (repeat' split) <;> simp [h]

@[simp] theorem State.offerPlain_attends (x : Sub) (owner : Option Owner) (echo : Ident) (body : UpBody) (h : s.Attends t) :
    s.Attends (t.offerPlain x owner echo body) := by
  simp [State.offerPlain, h]

@[simp] theorem State.beginWait_attends (w : WaitKind) (x : Sub) (h : s.Attends t) :
    s.Attends (t.beginWait w x) := by
  unfold State.beginWait; split <;> simp [h]

@[simp] theorem State.endWait_attends (w : WaitKind) (x : Sub) (h : s.Attends t) :
    s.Attends (t.endWait w x) := by
  simp [State.endWait, h]

@[simp] theorem State.markWaiters_attends (p : Waiter → Bool) (h : s.Attends t) :
    s.Attends (t.markWaiters p) := by
  simp [State.markWaiters, h]

@[simp] theorem State.clearDue_attends (w : WaitKind) (x : Sub) (h : s.Attends t) :
    s.Attends (t.clearDue w x) := by
  simp [State.clearDue, h]

@[simp] theorem State.forgetHead_attends (x : Sub) (h : s.Attends t) : s.Attends (t.forgetHead x) := by
  refine h.trans { rpt := ?_, unit := rfl, held := id, noReturn := fun _ => id }
  unfold State.forgetHead Rpt.unheaded
  simp only [State.onRpt_rpt, Option.map_map]
  congr 2
  funext o
  simp only [Function.comp]
  split <;> rfl

@[simp] theorem State.dropQueued_attends (x : Sub) (pos : Nat) (h : s.Attends t) : s.Attends (t.dropQueued x pos) := by
  unfold State.dropQueued; dsimp only; (repeat' split) <;> simp (maxDischargeDepth := 20) [State.markWaiters, h]

@[simp] theorem State.removeMessage_attends (x : Sub) (ident : Ident) (h : s.Attends t) :
    s.Attends (t.removeMessage x ident) := by
  unfold State.removeMessage; split <;> simp [h]

@[simp] theorem State.freeTxn_attends (i : Nat) (h : s.Attends t) : s.Attends (t.freeTxn i) := by
  unfold State.freeTxn; split <;> simp (maxDischargeDepth := 20) [h]

@[simp] theorem State.emptyUplink_attends (x : Sub) (h : s.Attends t) : s.Attends (t.emptyUplink x) :=
  State.onSge_attends (State.forgetHead_attends x h)

@[simp] theorem State.placeSignalling_attends (x : Sub) (h : s.Attends t) :
    s.Attends (t.placeSignalling x) := by
  simp [State.placeSignalling, h]

@[simp] theorem State.reexamine_attends (x : Sub) (h : s.Attends t) :
    s.Attends (t.reexamine x) := by
  unfold State.reexamine; (repeat' split) <;> simp [h]

@[simp] theorem State.updateStanding_attends (x : Sub) (h : s.Attends t) :
    s.Attends (t.updateStanding x) := by
  unfold State.updateStanding; dsimp only; (repeat' split) <;> simp [h]

@[simp] theorem State.pendUpdate_attends (x : Sub) (byPage : Bool) (h : s.Attends t) :
    s.Attends (t.pendUpdate x byPage) := by
  simp [State.pendUpdate, h]

@[simp] theorem State.dropUpdate_attends (x : Sub) (h : s.Attends t) :
    s.Attends (t.dropUpdate x) := by
  simp [State.dropUpdate, h]

@[simp] theorem State.openUpdate_attends (x : Sub) (byPage : Bool) (h : s.Attends t) :
    s.Attends (t.openUpdate x byPage) := by
  unfold State.openUpdate; split
  · exact h
  · split
    · simp [h]
    · split <;> (have k := congrArg Prod.snd ‹_ = (_, _)›; dsimp only at k; subst k; simp (maxDischargeDepth := 20) [h])

@[simp] theorem State.areaPassed_attends (x : Sub) (h : s.Attends t) :
    s.Attends (t.areaPassed x) := by
  unfold State.areaPassed; (repeat' split) <;> simp [h]

@[simp] theorem State.retryUpdate_attends (x : Sub) (h : s.Attends t) :
    s.Attends (t.retryUpdate x) := by
  unfold State.retryUpdate; (repeat' split) <;> simp [h]

@[simp] theorem State.reject_attends (x : Sub) (item : RejectItem) (h : s.Attends t) :
    s.Attends (t.reject x item) := by
  simp [State.reject, h]

@[simp] theorem State.areaAccepted_attends (x : Sub) (area : Nat) (newAlias : Option AliasValue) (h : s.Attends t) :
    s.Attends (t.areaAccepted x area newAlias) := by
  unfold State.areaAccepted; dsimp only; (repeat' split) <;> simp [h]

@[simp] theorem State.areaEnded_attends (x : Sub) (outcome : TxnOutcome) (accept : Option (Nat × Option AliasValue)) (h : s.Attends t) :
    s.Attends (t.areaEnded x outcome accept) := by
  unfold State.areaEnded; split <;> simp (maxDischargeDepth := 20) [h]

@[simp] theorem State.voiceStart_attends (x : Sub) (i : Nat) (h : s.Attends t) :
    s.Attends (t.voiceStart x i) := by
  simp [State.voiceStart, h]

@[simp] theorem State.voiceStop_attends (h : s.Attends t) :
    s.Attends t.voiceStop := by
  simp [State.voiceStop, h]

@[simp] theorem State.trafficEnded_attends (code : EndCode) (h : s.Attends t) : s.Attends (t.trafficEnded code) := by
  cases code <;> simp [State.trafficEnded, h]

@[simp] theorem State.voiceHandoverEnded_attends (h : s.Attends t) :
    s.Attends t.voiceHandoverEnded := by
  simp [State.voiceHandoverEnded, h]

@[simp] theorem State.moveCtx_attends (i : Nat) (st : CallState) (h : s.Attends t) :
    s.Attends (t.moveCtx i st) := by
  unfold State.moveCtx; dsimp only; (repeat' split) <;> simp (maxDischargeDepth := 20) [h]

@[simp] theorem State.recordCause_attends (i : Nat) (new : Cause) (h : s.Attends t) :
    s.Attends (t.recordCause i new) := by
  simp [State.recordCause, h]

@[simp] theorem State.reportEnded_attends (i : Nat) (item : Option ErrorItem) (h : s.Attends t) :
    s.Attends (t.reportEnded i item) := by
  unfold State.reportEnded; dsimp only; (repeat' split) <;> simp [h]

@[simp] theorem State.dropTraffic_attends (x : Sub) (h : s.Attends t) : s.Attends (t.dropTraffic x) := by
  unfold State.dropTraffic; dsimp only; split
  · exact h
  · exact State.onMobOf_attends (by simp [h]) (by split <;> exact id)

@[simp] theorem State.endCtx_attends (i : Nat) (item : Option ErrorItem) (h : s.Attends t) :
    s.Attends (t.endCtx i item) := by
  simp (maxDischargeDepth := 20) [State.endCtx, h]

@[simp] theorem State.answerPending_attends (code : ResultCode) (h : s.Attends t) : s.Attends (t.answerPending code) := by
  unfold State.answerPending; split
  · exact h
  · exact State.onCal_attends h.keep

@[simp] theorem State.failPending_attends (x : Sub) (h : s.Attends t) :
    s.Attends (t.failPending x) := by
  unfold State.failPending; (repeat' split) <;> simp [h]

@[simp] theorem State.endAllCtxs_attends (x : Sub) (cause : Cause) (h : s.Attends t) :
    s.Attends (t.endAllCtxs x cause) := by
  unfold State.endAllCtxs; dsimp only
  refine State.Attends.foldl (fun u i => by simp) _ ?_
  split <;> simp [h]

@[simp] theorem State.placeTraffic_attends (x : Sub) (h : s.Attends t) :
    s.Attends (t.placeTraffic x) := by
  unfold State.placeTraffic; split
  · exact h
  · split <;> (have k := congrArg Prod.snd ‹_ = (_, _)›; dsimp only at k; subst k)
    · dsimp only; split <;> simp (maxDischargeDepth := 20) [h]
    · simp [h]

@[simp] theorem State.setOutgoing_attends (x : Sub) (o : Option Outgoing) (h : s.Attends t) :
    s.Attends (t.setOutgoing x o) := by
  simp [State.setOutgoing, h]

@[simp] theorem State.offerSegment_attends (x : Sub) (h : s.Attends t) :
    s.Attends (t.offerSegment x).2 := by
  unfold State.offerSegment; split
  · exact h
  · dsimp only; split <;> (have k := congrArg Prod.snd ‹_ = (_, _)›; dsimp only at k; subst k; simp (maxDischargeDepth := 20) [h])

@[simp] theorem State.sendSegment_attends (x : Sub) (h : s.Attends t) :
    s.Attends (t.sendSegment x) := by
  unfold State.sendSegment; split <;>
    (have k := congrArg Prod.snd ‹_ = (_, _)›; dsimp only at k; subst k) <;> (try split) <;> simp (maxDischargeDepth := 20) [h]

@[simp] theorem State.dropOutgoing_attends (x : Sub) (h : s.Attends t) :
    s.Attends (t.dropOutgoing x) := by
  unfold State.dropOutgoing; split <;> simp (maxDischargeDepth := 20) [h]

@[simp] theorem State.failText_attends (x : Sub) (cause : TextFailCause) (h : s.Attends t) :
    s.Attends (t.failText x cause) := by
  unfold State.failText; split <;> simp [h]

@[simp] theorem State.segmentAcked_attends (x : Sub) (h : s.Attends t) :
    s.Attends (t.segmentAcked x) := by
  unfold State.segmentAcked; dsimp only; (repeat' split) <;> simp (maxDischargeDepth := 20) [h]

@[simp] theorem State.textOutEnded_attends (x : Sub) (outcome : TxnOutcome) (h : s.Attends t) :
    s.Attends (t.textOutEnded x outcome) := by
  unfold State.textOutEnded; split <;> simp [h]

@[simp] theorem State.onServing_attends (x : Sub) (f : Serving → Serving) (h : s.Attends t) :
    s.Attends (t.onServing x f) := by
  simp [State.onServing, h]

@[simp] theorem State.setCopy_attends (x : Sub) (h : s.Attends t) :
    s.Attends (t.setCopy x) := by
  unfold State.setCopy; split <;> simp [h]

@[simp] theorem State.servingSet_attends (x : Sub) (h : s.Attends t) :
    s.Attends (t.servingSet x) := by
  simp (maxDischargeDepth := 20) [State.servingSet, h]

@[simp] theorem State.tryMeasure_attends (x : Sub) (h : s.Attends t) :
    s.Attends (t.tryMeasure x) := by
  unfold State.tryMeasure; dsimp only; split <;> (have k := congrArg Prod.snd ‹_ = (_, _)›; dsimp only at k; subst k; simp [h])

@[simp] theorem State.trySearch_attends (x : Sub) (h : s.Attends t) :
    s.Attends (t.trySearch x) := by
  unfold State.trySearch; dsimp only; split <;> (have k := congrArg Prod.snd ‹_ = (_, _)›; dsimp only at k; subst k; simp [h])

@[simp] theorem State.placeMeasure_attends (x : Sub) (h : s.Attends t) :
    s.Attends (t.placeMeasure x) := by
  simp [State.placeMeasure, h]

@[simp] theorem State.placeSearch_attends (x : Sub) (h : s.Attends t) :
    s.Attends (t.placeSearch x) := by
  simp [State.placeSearch, h]

@[simp] theorem State.readFailed_attends (x : Sub) (i cellId : Nat) (h : s.Attends t) : s.Attends (t.readFailed x i cellId) :=
  State.onMobOf_attends h (by split <;> exact id)

@[simp] theorem State.readRefused_attends (x : Sub) (h : s.Attends t) :
    s.Attends (t.readRefused x) := by
  unfold State.readRefused; dsimp only; (repeat' split) <;> simp [h]

@[simp] theorem State.tryRead_attends (x : Sub) (h : s.Attends t) :
    s.Attends (t.tryRead x) := by
  unfold State.tryRead; split <;> (have k := congrArg Prod.snd ‹_ = (_, _)›; dsimp only at k; subst k; simp [h])

@[simp] theorem State.placeRead_attends (x : Sub) (purpose : ReadPurpose) (h : s.Attends t) :
    s.Attends (t.placeRead x purpose) := by
  simp (maxDischargeDepth := 20) [State.placeRead, h]

@[simp] theorem State.refreshRead_attends (x : Sub) (h : s.Attends t) :
    s.Attends (t.refreshRead x) := by
  unfold State.refreshRead; (repeat' split) <;> simp [h]

@[simp] theorem State.passOutcome_attends (p : Txn) (o : TxnOutcome) (h : s.Attends t) :
    s.Attends (t.passOutcome p o) := by
  unfold State.passOutcome; split <;> simp [h]

@[simp] theorem State.teardownOutcome_attends (p : Txn) (o : TxnOutcome) (h : s.Attends t) :
    s.Attends (t.teardownOutcome p o) := by
  unfold State.teardownOutcome; split <;> simp [h]

@[simp] theorem State.teardownSge_attends (x : Sub) (o : TxnOutcome) (h : s.Attends t) :
    s.Attends (t.teardownSge x o) := by
  exact State.emptyUplink_attends x (State.Attends.foldl (fun _ _ => by simp) _ h)

@[simp] theorem State.writeActivity_attends (x : Sub) (a : Activity) (h : s.Attends t) :
    s.Attends (t.writeActivity x a) := by
  unfold State.writeActivity; dsimp only; (repeat' split) <;> simp [h]

@[simp] theorem State.loseService_attends (x : Sub) (h : s.Attends t) :
    s.Attends (t.loseService x) := by
  unfold State.loseService; split
  · exact h
  · simp (maxDischargeDepth := 20) [h, MobSub.afterLoss]

@[simp] theorem State.enterCamped_attends (x : Sub) (h : s.Attends t) :
    s.Attends (t.enterCamped x) := by
  unfold State.enterCamped; dsimp only; (repeat' split) <;> simp (maxDischargeDepth := 20) [h]

@[simp] theorem State.enterBusy_attends (x : Sub) (h : s.Attends t) :
    s.Attends (t.enterBusy x) := by
  simp (maxDischargeDepth := 20) [State.enterBusy, h]

@[simp] theorem State.derive_attends (x : Sub) (h : s.Attends t) :
    s.Attends (t.derive x) := by
  unfold State.derive; dsimp only; (repeat' split) <;> simp (maxDischargeDepth := 20) [h]

@[simp] theorem State.settleAlone_attends (x : Sub) (h : s.Attends t) :
    s.Attends (t.settleAlone x) := by
  simp [State.settleAlone, h]

@[simp] theorem State.tryOnce_attends (w : WaitKind) (x : Sub) (h : s.Attends t) :
    s.Attends (t.tryOnce w x) := by
  unfold State.tryOnce; (repeat' split) <;> simp [h]

@[simp] theorem State.tryWaiter_attends (hold : Option Sub) (e : Waiter) (h : s.Attends t) : s.Attends (State.tryWaiter hold t e) := by
  unfold State.tryWaiter; dsimp only; split <;> simp (maxDischargeDepth := 20) [h]

@[simp] theorem State.tryWaiters_attends (hold : Option Sub) (h : s.Attends t) :
    s.Attends (t.tryWaiters hold) := by
  exact State.Attends.foldl (fun _ _ => by simp) _ h

@[simp] theorem State.settle_attends (x : Sub) (h : s.Attends t) :
    s.Attends (t.settle x) := by
  unfold State.settle; dsimp only; (repeat' split) <;> simp [h]

@[simp] theorem State.lose_attends (x : Sub) (h : s.Attends t) :
    s.Attends (t.lose x) := by
  simp [State.lose, h]

@[simp] theorem State.notActedOn_attends (x : Sub) (h : s.Attends t) :
    s.Attends (t.notActedOn x) := by
  simp [State.notActedOn, h]

@[simp] theorem State.offerReport_attends (x : Sub) (h : s.Attends t) :
    s.Attends (t.offerReport x) := by
  unfold State.offerReport; split <;> (have k := congrArg Prod.snd ‹_ = (_, _)›; dsimp only at k; subst k; simp [h])

@[simp] theorem State.actOnFiring_attends (x : Sub) (i : Nat) (h : s.Attends t) :
    s.Attends (t.actOnFiring x i) := by
  unfold State.actOnFiring; (repeat' split) <;> simp [h]

@[simp] theorem State.afterResult_attends (x : Sub) (fires : Option Nat) (h : s.Attends t) :
    s.Attends (t.afterResult x fires) := by
  unfold State.afterResult; dsimp only; (repeat' split) <;> simp (maxDischargeDepth := 20) [h]

@[simp] theorem State.processResult_attends (x : Sub) (cells : List ListedCell) (result : List (Option Int)) (h : s.Attends t) :
    s.Attends (t.processResult x cells result) := by
  unfold State.processResult; dsimp only; split <;> simp (maxDischargeDepth := 20) [h]

@[simp] theorem State.measureEnded_attends (x : Sub) (code : EndCode) (cells : List ListedCell) (result : Option (List (Option Int))) (h : s.Attends t) :
    s.Attends (t.measureEnded x code cells result) := by
  unfold State.measureEnded; split <;> simp [h]

@[simp] theorem State.reselect_attends (x : Sub) (i : Nat) (v : Serving) (n : Neighbour) (b : BeaconBlock) (h : s.Attends t) :
    s.Attends (t.reselect x i v n b) := by
  simp (maxDischargeDepth := 20) [State.reselect, h, MobSub.swap]

@[simp] theorem State.readEnded_attends (x : Sub) (code : EndCode) (kept : Option BeaconBlock) (h : s.Attends t) :
    s.Attends (t.readEnded x code kept) := by
  unfold State.readEnded; dsimp only; (repeat' split) <;> simp [h]

@[simp] theorem State.searchEnded_attends (x : Sub) (code : EndCode) (freq : Nat) (kept : Option BeaconBlock) (h : s.Attends t) :
    s.Attends (t.searchEnded x code freq kept) := by
  unfold State.searchEnded; (repeat' split) <;> simp (maxDischargeDepth := 20) [h, MobSub.camp]

@[simp] theorem State.accessOver_attends (x : Sub) (h : s.Attends t) :
    s.Attends (t.accessOver x) := by
  simp [State.accessOver, h]

@[simp] theorem State.accessSucceeded_attends (x : Sub) (r : ReturnRecord) (cmd : HoCommand) (h : s.Attends t) :
    s.Attends (t.accessSucceeded x r cmd) := by
  simp (maxDischargeDepth := 20) [State.accessSucceeded, h]

@[simp] theorem State.accessFailed_attends (x : Sub) (r : ReturnRecord) (cmd : HoCommand) (h : s.Attends t) :
    s.Attends (t.accessFailed x r cmd) := by
  simp (maxDischargeDepth := 20) [State.accessFailed, h]

@[simp] theorem State.accessEnded_attends (x : Sub) (code : EndCode) (goodNotice : Bool) (h : s.Attends t) :
    s.Attends (t.accessEnded x code goodNotice) := by
  unfold State.accessEnded; (repeat' split) <;> simp [h]

@[simp] theorem State.placeNow_attends (k : ClaimKind) (x : Sub) (h : s.Attends t) :
    s.Attends (t.placeNow k x) := by
  unfold State.placeNow; split <;> simp [h]

@[simp] theorem State.takeTurn_attends (e : ClaimKind × Sub) (h : s.Attends t) : s.Attends (t.takeTurn e) := by
  unfold State.takeTurn; (repeat' split) <;> simp [h]

@[simp] theorem State.takeStanding_attends (h : s.Attends t) :
    s.Attends t.takeStanding := by
  exact State.Attends.foldl (fun _ _ => by simp) _ h

@[simp] theorem State.tellClaimOwner_attends (x : Sub) (k : ClaimKind) (code : EndCode) (u : Option RadioUnit) (h : s.Attends t) :
    s.Attends (t.tellClaimOwner x k code u) := by
  unfold State.tellClaimOwner; split <;> simp [h]

@[simp] theorem State.passOver_attends (code : EndCode) (e : Nat × Claim) (h : s.Attends t) : s.Attends (t.passOver code e) := by
  unfold State.passOver; split <;> simp [h]

@[simp] theorem State.expireWindow_attends (e : Nat × Claim) (h : s.Attends t) : s.Attends (t.expireWindow e) := by
  unfold State.expireWindow; (repeat' split) <;> simp [h]

@[simp] theorem State.expireWindows_attends (h : s.Attends t) : s.Attends t.expireWindows :=
  State.Attends.foldl (fun _ _ => by simp) _ h

theorem State.takeTurns_attends (l : List (ClaimKind × Sub)) (h : s.Attends t) : s.Attends (l.foldl State.takeTurn t) :=
  State.Attends.foldl (fun _ _ => by simp) _ h

@[simp] theorem State.playoutBoundary_attends (h : s.Attends t) : s.Attends t.playoutBoundary := h.keep

@[simp] theorem State.openWindows_attends (h : s.Attends t) : s.Attends t.openWindows := State.onRta_attends h ⟨rfl, rfl⟩

@[simp] theorem State.evaluate_attends (h : s.Attends t) : s.Attends t.evaluate := h.keep

@[simp] theorem State.finish_attends (before : State) (h : s.Attends t) : s.Attends (before.finish t) := h.keep

/-- A step at a boundary leaves what its action leaves. -/
theorem State.inRankOrder_attends {act : State → State} (h : s.Attends (act (t.setAsked (some [])))) : s.Attends (t.inRankOrder act) :=
  State.setAsked_attends _ (State.takeTurns_attends _ h)

end Operations

/-! ### What the relation says of the order and the unit -/

section Reading
variable {s t : State}

theorem State.Attends.order_none (h : s.Attends t) (k : s.rpt.order = none) : t.rpt.order = none := by
  have same := congrArg Rpt.order h.rpt
  simpa [Rpt.unheaded, k] using same

theorem State.Attends.nextTag (h : s.Attends t) : t.rpt.nextTag = s.rpt.nextTag := congrArg (·.nextTag) h.rpt

theorem State.Attends.faultCount (h : s.Attends t) : t.rpt.faultCount = s.rpt.faultCount := congrArg (·.faultCount) h.rpt

theorem State.Attends.recoveryNext (h : s.Attends t) : t.rpt.recoveryNext = s.rpt.recoveryNext := congrArg (·.recoveryNext) h.rpt

theorem State.Attends.unit_none (h : s.Attends t) (k : s.rta.unit = none) : t.rta.unit = none := by
  have same := h.unit
  simpa [k] using same

theorem State.Attends.unit_some (h : s.Attends t) {u : RadioUnit} (k : s.rta.unit = some u) :
    ∃ v, t.rta.unit = some v ∧ v.unmarked = u.unmarked := by
  have same := h.unit
  simpa [k] using same

end Reading

/-! ### The end of a unit (R43) and the fault of an order (R50, R51) -/

/-- The unit in progress is gone (R43). -/
def State.unitGone (s : State) : State := s.onRta fun r => { r with unit := none }

theorem State.endUnit_idle {s : State} (h : s.rta.unit = none) (faulted : Bool) : s.endUnit faulted = s := by
  unfold State.endUnit; rw [h]

/-- A unit ends in two steps: its claim is settled, then its owner told (R43; log 7). -/
theorem State.endUnit_claimed {s : State} {u : RadioUnit} (h : s.rta.unit = some u) {i : Nat} {c : Claim}
    (hc : s.claimOf u.sub u.kind = some (i, c)) (faulted : Bool) :
    s.endUnit faulted = (s.unitGone.settleClaim i (u.endCode faulted)).tellClaimOwner u.sub u.kind (u.endCode faulted) (some u) := by
  have same : (s.onRta fun r => { r with unit := none }).claimOf u.sub u.kind = some (i, c) := hc
  unfold State.endUnit
  rw [h]
  simp only [same]
  rfl

/-- A unit without a claim ends with its owner told (R43). -/
theorem State.endUnit_unclaimed {s : State} {u : RadioUnit} (h : s.rta.unit = some u) (hc : s.claimOf u.sub u.kind = none) (faulted : Bool) :
    s.endUnit faulted = s.unitGone.tellClaimOwner u.sub u.kind (u.endCode faulted) (some u) := by
  have same : (s.onRta fun r => { r with unit := none }).claimOf u.sub u.kind = none := hc
  unfold State.endUnit
  rw [h]
  simp only [same]
  rfl

/-- What follows the end of a unit leaves no unit in progress and sends no order. -/
theorem State.endUnit_attends (s : State) (faulted : Bool) : s.unitGone.Attends (s.endUnit faulted) := by
  cases hu : s.rta.unit with
  | none =>
    have same : s.unitGone = s := by unfold State.unitGone State.onRta; rw [← hu]
    rw [State.endUnit_idle hu, same]
    exact .refl s
  | some u =>
    cases hc : s.claimOf u.sub u.kind with
    | none => rw [State.endUnit_unclaimed hu hc]; simp
    | some e => rw [State.endUnit_claimed hu hc]; simp

theorem State.endUnit_unit (s : State) (faulted : Bool) : (s.endUnit faulted).rta.unit = none :=
  (s.endUnit_attends faulted).unit_none rfl

/-- RPT as the fault of an order leaves it (R50, R51). -/
def State.faulted (s : State) (o : Order) (errors : List OrderError) : State :=
  let n := s.rpt.faultCount + 1
  let s := s.onRpt fun r => { r with order := none, faultCount := if 4 ≤ n then 0 else n, recoveryNext := true }
  if 4 ≤ n then s.reportWake (.radioFault o.sub o.claimKind o.kind o.freq errors) else s

theorem State.faultOrder_idle {s : State} (h : s.rpt.order = none) (errors : List OrderError) : s.faultOrder errors = s := by
  unfold State.faultOrder; rw [h]

theorem State.faultOrder_eq {s : State} {o : Order} (h : s.rpt.order = some o) (errors : List OrderError) :
    s.faultOrder errors = (s.faulted o errors).endUnit true := by
  unfold State.faultOrder; rw [h]; rfl

theorem State.faulted_rpt (s : State) (o : Order) (errors : List OrderError) : (s.faulted o errors).rpt =
    { s.rpt with order := none, faultCount := if 4 ≤ s.rpt.faultCount + 1 then 0 else s.rpt.faultCount + 1, recoveryNext := true } := by
  unfold State.faulted; dsimp only; split <;> simp

theorem State.faulted_keeps (s : State) (o : Order) (errors : List OrderError) :
    (s.faulted o errors).rta = s.rta ∧ (s.faulted o errors).mob = s.mob ∧ (s.faulted o errors).psc = s.psc ∧
      (s.faulted o errors).vcp = s.vcp ∧ (s.faulted o errors).clock = s.clock := by
  unfold State.faulted; dsimp only; split <;> simp

/-- After the fault of an order: no order, no unit, a recovery frame next, and the fault counted (R50, R51). -/
structure State.AfterFault (s t : State) : Prop where
  order : t.rpt.order = none
  recoveryNext : t.rpt.recoveryNext = true
  nextTag : t.rpt.nextTag = s.rpt.nextTag
  faultCount : t.rpt.faultCount = if 4 ≤ s.rpt.faultCount + 1 then 0 else s.rpt.faultCount + 1
  unit : t.rta.unit = none

theorem State.AfterFault.attends {s t u : State} (h : s.AfterFault t) (k : t.Attends u) : s.AfterFault u where
  order := k.order_none h.order
  recoveryNext := k.recoveryNext.trans h.recoveryNext
  nextTag := k.nextTag.trans h.nextTag
  faultCount := k.faultCount.trans h.faultCount
  unit := k.unit_none h.unit

theorem State.faultOrder_afterFault {s : State} {o : Order} (h : s.rpt.order = some o) (errors : List OrderError) :
    s.AfterFault (s.faultOrder errors) := by
  rw [State.faultOrder_eq h]
  have port : (s.faulted o errors).unitGone.rpt = _ := s.faulted_rpt o errors
  have gone : s.AfterFault (s.faulted o errors).unitGone :=
    ⟨by rw [port], by rw [port], by rw [port], by rw [port], rfl⟩
  exact gone.attends (State.endUnit_attends _ _)

end Sys2Proof.Machine
end

section
/-! Sitting 3: the fault of an order (O8). -/

namespace Sys2Proof.Machine

/-! ### What a fault leaves -/

section Fault
variable {s : State} {o : Order}

/-- The fourth fault in a row is reported, with its wake class (R51). -/
theorem State.faulted_reports (fourth : 4 ≤ s.rpt.faultCount + 1) (room : s.hlc.queue.length < 32) (errors : List OrderError) :
    ⟨.report (.radioFault o.sub o.claimKind o.kind o.freq errors), true, false⟩ ∈ (s.faulted o errors).hlc.queue := by
  unfold State.faulted
  dsimp only
  rw [if_pos fourth]
  exact State.reportWake_mem room _

/-- The owner of a TRAFFIC unit takes its end as a frame lost, unless the unit was withdrawn (R44, R142). -/
theorem State.endUnit_traffic {u : RadioUnit} (hu : s.rta.unit = some u) (hk : u.kind = .traffic) :
    (s.endUnit true).vcp = if u.withdrawn = true then s.vcp else s.vcp.countLost := by
  have told (t : State) : (t.tellClaimOwner u.sub .traffic (u.endCode true) (some u)).vcp =
      if u.withdrawn = true then t.vcp else t.vcp.countLost := by
    unfold State.tellClaimOwner State.trafficEnded RadioUnit.endCode
    cases u.withdrawn <;> rfl
  cases hc : s.claimOf u.sub u.kind with
  | none => rw [State.endUnit_unclaimed hu hc, hk, told]; rfl
  | some e => rw [State.endUnit_claimed hu hc, hk, told]; rfl

theorem Vcp.countLost_eq (v : Vcp) : v.countLost = { v with lost := if v.lost < 255 then v.lost + 1 else 255 } := by
  unfold Vcp.countLost
  rw [satInc_255]

/-- A TRAFFIC unit that a faulted order ends is a frame lost, unless it was withdrawn (R44, R142). -/
theorem State.faultOrder_vcp (h : s.rpt.order = some o) {u : RadioUnit} (hu : s.rta.unit = some u) (hk : u.kind = .traffic)
    (errors : List OrderError) : (s.faultOrder errors).vcp = if u.withdrawn = true then s.vcp else
      { s.vcp with lost := if s.vcp.lost < 255 then s.vcp.lost + 1 else 255 } := by
  obtain ⟨rta, -, -, vcp, -⟩ := s.faulted_keeps o errors
  rw [State.faultOrder_eq h, State.endUnit_traffic (rta ▸ hu) hk, vcp, Vcp.countLost_eq]

/-- The report of a fourth fault stays in the queue as the unit ends. -/
theorem State.faultOrder_reports (h : s.rpt.order = some o) (fourth : 4 ≤ s.rpt.faultCount + 1) (room : s.hlc.queue.length < 32)
    (errors : List OrderError) :
    ⟨.report (.radioFault o.sub o.claimKind o.kind o.freq errors), true, false⟩ ∈ (s.faultOrder errors).hlc.queue := by
  rw [State.faultOrder_eq h]
  exact (State.endUnit_evolves true (.refl _)).mem_queue (State.faulted_reports fourth room errors)

end Fault

/-! ### The rows -/

/-- What a step makes of the fault of an order: RPT and VCP as the fault leaves them, no unit started, no entry of the queue taken back. -/
structure State.KeepsFault (f t : State) : Prop where
  rpt : t.rpt = f.rpt
  vcp : t.vcp = f.vcp
  queue : ∀ e ∈ f.hlc.queue, e ∈ t.hlc.queue
  unit : f.rta.unit = none → t.rta.unit = none

theorem State.KeepsFault.finish {f t : State} (h : f.KeepsFault t) (before : State) : f.KeepsFault (before.finish t) where
  rpt := by simp [h.rpt]
  vcp := by simp [h.vcp]
  queue e k := (State.finish_evolves before (.refl t)).mem_queue (h.queue e k)
  unit k := by simp [h.unit k]

/-- The passing of a deadline is a fault with an empty error list, and the placements it asks for (R50). -/
theorem State.deadlinePasses_keepsFault (s : State) : ((s.setAsked (some [])).faultOrder []).KeepsFault s.deadlinePasses where
  rpt := by
    obtain ⟨-, -, -, -, rpt, -⟩ := State.inRankOrder_keeps (State.faultOrder []) s
    exact rpt
  vcp := by
    obtain ⟨-, -, -, -, -, -, -, -, vcp, -⟩ := State.inRankOrder_keeps (State.faultOrder []) s
    exact vcp
  queue e k := (State.inRankOrder_link (State.faultOrder []) s).1 e k
  unit k := (State.inRankOrder_attends (.refl _)).unit_none k

theorem State.orderAck_faults {s : State} {o : Order} (h : s.rpt.order = some o) {errors : List OrderError} (he : errors ≠ []) :
    s.orderAck o.tag errors = s.faultOrder errors := by
  unfold State.orderAck
  simp [h, he]

/-- The row of an acknowledgement with errors, and that of a deadline, are the fault of the order with what a step does besides. -/
theorem exec_orderFault {s : State} {o : Order} {c : Instr} {errors : List OrderError} (ho : s.rpt.order = some o)
    (hc : (c = .orderAck o.tag errors ∧ errors ≠ []) ∨ (c = .orderDeadline ∧ errors = [])) :
    ∃ asked t, exec c s = .next t ∧ ((s.setAsked asked).faultOrder errors).KeepsFault t := by
  obtain ⟨rfl, errs⟩ | ⟨rfl, rfl⟩ := hc
  · have row : exec (.orderAck o.tag errors) s = .next (s.finish (s.faultOrder errors)) := by
      rw [← State.orderAck_faults ho errs]; rfl
    exact ⟨s.rta.asked, _, row, State.KeepsFault.finish ⟨rfl, rfl, fun _ => id, id⟩ s⟩
  · exact ⟨some [], _, rfl, s.deadlinePasses_keepsFault.finish s⟩

/-- Settles O8: the order that faults is gone, its unit with it, and what falls in the step besides starts no unit and takes no report back. -/
theorem orderFaultEndsUnit : Obligations.OrderFaultEndsUnit := by
  unfold Obligations.OrderFaultEndsUnit
  intro s o c errors ho hc
  obtain ⟨asked, t, row, keeps⟩ := exec_orderFault ho hc
  have outstanding : (s.setAsked asked).rpt.order = some o := ho
  have after := State.faultOrder_afterFault outstanding errors
  have port := keeps.rpt
  refine ⟨t, row, port ▸ after.order, port ▸ after.recoveryNext, port ▸ after.nextTag, keeps.unit after.unit, port ▸ after.faultCount,
    fun fourth room => ?_, fun u hu hk => ?_⟩
  · exact keeps.queue _ (State.faultOrder_reports outstanding fourth room errors)
  · rw [keeps.vcp]
    exact State.faultOrder_vcp outstanding hu hk errors

end Sys2Proof.Machine
end

section
/-! Sitting 3: the parts of a receiver frame boundary (R42), and the boundary at which the receiver is unavailable (O4). -/

namespace Sys2Proof.Machine

/-! ### The parts of a boundary -/

/-- The state in which the decision of a boundary begins: the timers counted, nothing asked for. -/
def State.entered (s : State) : State := s.counted.setAsked (some [])

/-- Playout has fallen, where the boundary is one of an even frame (R141). -/
def State.played (s : State) : State := if s.clock.now.toNat % 2 = 0 then s.playoutBoundary else s

/-- The recovery frame, if the one that begins is one, is taken note of (R51). -/
def State.noted (s : State) : State := s.onRpt fun r => { r with recoveryNext := false }

/-- Steps 1 and 2 of R42. -/
def State.freed (s : State) : State := (if s.unitOver then s.endUnit false else s).takeStanding

/-- Steps 3 to 6 of R42. -/
def State.awarded (recovery : Bool) (s : State) : State := (s.grant recovery).recordHolder.expireWindows

/-- The state that the claims for a frame are weighed in (R42 step 3). -/
def State.weighed (s : State) : State := (s.faultOrder []).played.noted.freed

/-- The frame that begins is a recovery frame (R51). -/
def State.recovering (s : State) : Bool := (s.faultOrder []).rpt.recoveryNext

theorem State.weighed_idle {s : State} (h : s.rpt.order = none) : s.weighed = s.played.noted.freed := by
  unfold State.weighed; rw [State.faultOrder_idle h]

theorem State.recovering_idle {s : State} (h : s.rpt.order = none) : s.recovering = s.rpt.recoveryNext := by
  unfold State.recovering; rw [State.faultOrder_idle h]

@[simp] theorem State.played_keeps (s : State) : s.played.clock = s.clock ∧ s.played.rpt = s.rpt ∧ s.played.rta = s.rta ∧
    s.played.dlc = s.dlc ∧ s.played.sge = s.sge ∧ s.played.sbs = s.sbs ∧ s.played.psc = s.psc ∧ s.played.mob = s.mob := by
  unfold State.played; split <;> simp

theorem State.arbitrate_eq (s : State) : s.arbitrate = s.weighed.awarded s.recovering := by
  have recovery : s.recovering = (s.faultOrder []).played.rpt.recoveryNext := by simp [State.recovering]
  rw [recovery]; rfl

/-- A boundary is the decision, with the placements asked for in it, but for what sleep and the outputs make of it. -/
theorem exec_frameBoundary (s : State) : ∃ t, exec .frameBoundary s = .next t ∧
    ((placementOrder.foldl State.takeTurn s.entered.arbitrate).setAsked s.rta.asked).agreesButSleep t := by
  refine ⟨s.finish s.boundary, rfl, State.agreesButSleep_trans ?_ (State.finish_agreesButSleep s s.boundary)⟩
  have asked : s.counted.rta.asked = s.rta.asked := by simp [State.counted, State.openWindows, State.nextFrame]
  have step : s.counted.inRankOrder State.arbitrate =
      (placementOrder.foldl State.takeTurn s.entered.arbitrate).setAsked s.rta.asked := by rw [← asked]; rfl
  rw [← step]
  change (s.counted.inRankOrder State.arbitrate).agreesButSleep
    (if (s.counted.inRankOrder State.arbitrate).rta.unit.isNone then (s.counted.inRankOrder State.arbitrate).evaluate
      else s.counted.inRankOrder State.arbitrate)
  split
  · exact State.evaluate_agrees _
  · simp [State.agreesButSleep, sameLink_refl]

theorem State.entered_rta (s : State) : s.entered.rta =
    { s.rta with claims := s.rta.claims.map (Option.map (Claim.reached (s.clock.now + 1))), asked := some [] } := by
  simp [State.entered, State.setAsked, State.counted, State.openWindows, State.countTimers, State.nextFrame]

theorem State.entered_keeps (s : State) : s.entered.clock = ⟨s.clock.now + 1, 0⟩ ∧ s.entered.psc.power = s.psc.power ∧
    s.entered.rpt = s.rpt ∧ s.entered.dlc = s.dlc ∧ s.entered.sbs = s.sbs ∧ s.entered.vcp = s.vcp := by
  obtain ⟨clock, -, -, power, rpt, -, dlc, sbs, vcp, -⟩ := s.counted_keeps
  exact ⟨clock, power, rpt, dlc, sbs, vcp⟩

theorem State.unitOver_iff (s : State) :
    s.unitOver = true ↔ ∃ u, s.rta.unit = some u ∧ u.length ≤ frameDist u.first s.clock.now := by
  simp [State.unitOver, Option.any_eq_true]

theorem State.unitOver_eq_false_iff (s : State) :
    s.unitOver = false ↔ ∀ u, s.rta.unit = some u → frameDist u.first s.clock.now < u.length := by
  unfold State.unitOver
  cases s.rta.unit <;> simp

theorem State.freed_idle {s : State} (stays : s.unitOver = false) (asked : s.rta.asked = some []) : s.freed = s := by
  unfold State.freed
  rw [stays]
  exact State.takeTurns_idle asked _

/-- Steps 1 and 2 of R42 leave a unit in progress that is not over, and end one that is. -/
theorem State.freed_attends (s : State) : (if s.unitOver then s.unitGone else s).Attends s.freed := by
  unfold State.freed
  split
  · exact State.takeStanding_attends (s.endUnit_attends false)
  · exact State.takeStanding_attends (.refl s)

/-! ### Steps 3 to 6 -/

theorem State.recordHolder_records (s : State) : s.recordHolder.holderRecorded := rfl

theorem State.grant_unavailable {s : State} {recovery : Bool} (h : s.unavailable recovery = true) :
    s.grant recovery = s.eligibles.foldl (State.passOver .missed) s := by
  unfold State.grant
  simp only [h, if_true]

theorem State.grant_busy {s : State} {recovery : Bool} (h : s.unavailable recovery = false) (hu : s.rta.unit ≠ none) :
    s.grant recovery = s.eligibles.foldl (State.passOver .denied) s := by
  unfold State.grant
  simp only [h, Option.isSome_iff_ne_none.2 hu, if_true]
  rfl

theorem State.passOvers_attends (code : EndCode) (l : List (Nat × Claim)) {s t : State} (h : s.Attends t) :
    s.Attends (l.foldl (State.passOver code) t) :=
  State.Attends.foldl (fun _ _ => by simp) l h

/-- Passing every eligible claim over starts nothing. -/
theorem State.grant_attends {s : State} {recovery : Bool} (h : s.unavailable recovery = true ∨ s.rta.unit ≠ none) :
    s.Attends (s.grant recovery) := by
  cases free : s.unavailable recovery with
  | true => rw [State.grant_unavailable free]; exact State.passOvers_attends _ _ (.refl s)
  | false =>
    have busy : s.rta.unit ≠ none := h.resolve_left (by simp [free])
    rw [State.grant_busy free busy]; exact State.passOvers_attends _ _ (.refl s)

theorem State.sendOrder_rpt (o : Order) (s : State) : (s.sendOrder o).rpt =
    { s.rpt with order := some { o with tag := s.rpt.nextTag }, nextTag := s.rpt.nextTag + 1 } := rfl

theorem State.startUnit_rpt (i : Nat) (c : Claim) (s : State) : ∃ o : Order, o.tag = s.rpt.nextTag ∧
    (s.startUnit i c).rpt = { s.rpt with order := some o, nextTag := s.rpt.nextTag + 1 } := by
  unfold State.startUnit
  dsimp only
  rw [State.sendOrder_rpt]
  simp only [State.onRta_rpt, State.beginListen_keeps, State.onClaim_keeps, State.orderContent_keeps, State.orderCell_keeps]
  exact ⟨_, rfl, rfl⟩

/-- The other eligible claims are outranked, the contest's mark moved, when the claim of this index wins a free frame (R41, R42). -/
def State.outranked (i : Nat) (s : State) : State :=
  (s.eligibles.filter fun f => f.1 != i).foldl (State.passOver .denied) (s.onRta fun _ => (s.rta.best s.eligibles).2)

/-- The claim that a frame goes to, `e` having the rank or the contest (R40). -/
def State.winner (s : State) (e : Nat × Claim) : Nat × Claim := (s.rta.best s.eligibles).2.yieldTo s.eligibles e

theorem State.grant_free {s : State} {recovery : Bool} (h : s.unavailable recovery = false) (hu : s.rta.unit = none) {e : Nat × Claim}
    (he : (s.rta.best s.eligibles).1 = some e) :
    s.grant recovery = (s.outranked (s.winner e).1).startUnit (s.winner e).1 (s.winner e).2 := by
  unfold State.grant
  simp only [h, hu, Option.isSome_none, Bool.false_eq_true, if_false, he]
  rfl

theorem State.grant_unclaimed {s : State} {recovery : Bool} (h : s.unavailable recovery = false) (hu : s.rta.unit = none)
    (he : (s.rta.best s.eligibles).1 = none) : s.grant recovery = s.onRta fun _ => (s.rta.best s.eligibles).2 := by
  unfold State.grant
  simp only [h, hu, Option.isSome_none, Bool.false_eq_true, if_false, he]

theorem State.outranked_rpt (i : Nat) (s : State) : (s.outranked i).rpt.unheaded = s.rpt.unheaded :=
  (State.passOvers_attends .denied _ (.refl (s.onRta fun _ => (s.rta.best s.eligibles).2))).rpt

/-- A decision to grant a frame neither counts a fault nor makes a recovery frame. -/
theorem State.grant_counts (s : State) (recovery : Bool) :
    (s.grant recovery).rpt.recoveryNext = s.rpt.recoveryNext ∧ (s.grant recovery).rpt.faultCount = s.rpt.faultCount := by
  by_cases h : s.unavailable recovery = true ∨ s.rta.unit ≠ none
  · have attends := State.grant_attends h
    exact ⟨attends.recoveryNext, attends.faultCount⟩
  · rw [not_or, Bool.not_eq_true, not_not] at h
    obtain ⟨free, idle⟩ := h
    cases he : (s.rta.best s.eligibles).1 with
    | none => rw [State.grant_unclaimed free idle he]; exact ⟨rfl, rfl⟩
    | some e =>
      have passed := s.outranked_rpt (s.winner e).1
      obtain ⟨o, -, started⟩ := State.startUnit_rpt (s.winner e).1 (s.winner e).2 (s.outranked (s.winner e).1)
      rw [State.grant_free free idle he, started]
      exact ⟨congrArg (·.recoveryNext) passed, congrArg (·.faultCount) passed⟩

/-- What follows the grant in a step: the holder recorded, the windows that end, the placements asked for (R42, R36). -/
theorem State.attends_after_grant (s : State) (asked : Option (List (ClaimKind × Sub))) :
    s.recordHolder.Attends ((placementOrder.foldl State.takeTurn s.recordHolder.expireWindows).setAsked asked) :=
  State.setAsked_attends _ (State.takeTurns_attends _ (State.expireWindows_attends (.refl _)))

/-! ### A boundary at which the receiver is unavailable -/

theorem Rpt.eq_of_unheaded {q r : Rpt} (h : q.unheaded = r.unheaded) (k : r.order = none) : q = r := by
  obtain ⟨order, nextTag, faultCount, recoveryNext⟩ := q
  obtain ⟨order', nextTag', faultCount', recoveryNext'⟩ := r
  simpa [Rpt.unheaded, show order' = none from k] using h

/-- Steps 1 and 2 of R42 leave the Radio Port as it is, where no order is outstanding. -/
theorem State.freed_rpt (s : State) : s.freed.rpt.unheaded = s.rpt.unheaded := by
  have attends := s.freed_attends.rpt
  split at attends <;> exact attends

theorem State.freed_unit {s : State} (h : s.rta.unit = none ∨ s.unitOver = true) : s.freed.rta.unit = none := by
  refine s.freed_attends.unit_none ?_
  split
  · rfl
  · next stays => exact h.resolve_right stays

theorem State.freed_holdCount (s : State) : s.freed.rta.holdCount = s.rta.holdCount := by
  have evolves : s.Evolves s.freed := by
    unfold State.freed
    split <;> simp
  obtain ⟨-, -, hold, -⟩ := evolves.rta
  exact hold

theorem State.unavailable_iff (s : State) (recovery : Bool) :
    s.unavailable recovery = true ↔ s.psc.power ≠ .awake ∨ 0 < s.rta.holdCount ∨ recovery = true := by
  simp [State.unavailable, or_assoc]

/-- The next frame is a recovery frame no longer, and the passing of an order's deadline counts as a fault (R50, R51). -/
theorem State.weighed_counts (s : State) : s.weighed.rpt.recoveryNext = false ∧ s.weighed.rpt.faultCount =
    if s.rpt.order = none then s.rpt.faultCount else if 4 ≤ s.rpt.faultCount + 1 then 0 else s.rpt.faultCount + 1 := by
  have port := (s.faultOrder []).played.noted.freed_rpt
  have recovery : s.weighed.rpt.recoveryNext = false := congrArg (·.recoveryNext) port
  have faults : s.weighed.rpt.faultCount = (s.faultOrder []).rpt.faultCount := by
    have same : (s.faultOrder []).played.noted.rpt.faultCount = (s.faultOrder []).rpt.faultCount := by simp [State.noted]
    exact (congrArg (·.faultCount) port).trans same
  refine ⟨recovery, faults.trans ?_⟩
  cases ho : s.rpt.order with
  | none => rw [State.faultOrder_idle ho, if_pos rfl]
  | some o => rw [(State.faultOrder_afterFault ho []).faultCount, if_neg (Option.some_ne_none o)]

/-- Where the deadline of an order passes, or the receiver is not to be had and no unit goes on, the claims are weighed with no order and no
unit, and the receiver unavailable (R42, R48, R50, R51). -/
theorem State.weighed_unavailable {s : State} (asked : s.rta.asked = some [])
    (h : s.rpt.order ≠ none ∨ (s.psc.power ≠ .awake ∧ s.rta.unit = none) ∨
      ((0 < s.rta.holdCount ∨ s.rpt.recoveryNext = true) ∧ (s.rta.unit = none ∨ s.unitOver = true))) :
    s.weighed.unavailable s.recovering = true ∧ s.weighed.rta.unit = none ∧
      s.weighed.rpt.order = none ∧ s.weighed.rpt.nextTag = s.rpt.nextTag := by
  cases ho : s.rpt.order with
  | some o =>
    have after := State.faultOrder_afterFault ho []
    have port : s.weighed.rpt = _ := Rpt.eq_of_unheaded (State.freed_rpt _) (by simp [State.noted, after.order])
    refine ⟨(State.unavailable_iff _ _).2 (.inr (.inr ?_)), State.freed_unit (.inl ?_), ?_, ?_⟩
    · exact after.recoveryNext
    · simp [State.noted, after.unit]
    · rw [port]; simp [State.noted, after.order]
    · rw [port]; simp [State.noted, after.nextTag]
  | none =>
    have port : s.weighed.rpt = s.played.noted.rpt := by
      rw [State.weighed_idle ho]
      exact Rpt.eq_of_unheaded (State.freed_rpt _) (by simp [State.noted, ho])
    have idle (k : s.rta.unit = none) : s.weighed = s.played.noted := by
      rw [State.weighed_idle ho]
      exact State.freed_idle (by simp [State.noted, State.unitOver, k]) (by simp [State.noted, asked])
    refine ⟨(State.unavailable_iff _ _).2 ?_, ?_, by rw [port]; simp [State.noted, ho], by rw [port]; simp [State.noted]⟩
    · obtain ordered | ⟨power, unit⟩ | ⟨hold | recovery, -⟩ := h
      · exact absurd ho ordered
      · rw [idle unit]
        exact .inl (by simpa [State.noted] using power)
      · rw [State.weighed_idle ho, State.freed_holdCount]
        exact .inr (.inl (by simpa [State.noted] using hold))
      · exact .inr (.inr ((State.recovering_idle ho).trans recovery))
    · rw [State.weighed_idle ho]
      apply State.freed_unit
      have same : s.played.noted.rta = s.rta ∧ s.played.noted.clock = s.clock := by simp [State.noted]
      obtain ⟨rta, clock⟩ := same
      rw [State.unitOver, rta, clock]
      obtain ordered | ⟨-, unit⟩ | ⟨-, ends⟩ := h
      · exact absurd ho ordered
      · exact .inl unit
      · exact ends

/-- Settles O4: the claims are weighed with no order and no unit, and from then on the boundary starts and sends nothing. -/
theorem noUnitStartsWhileUnavailable : Obligations.NoUnitStartsWhileUnavailable := by
  unfold Obligations.NoUnitStartsWhileUnavailable
  intro s
  obtain ⟨t, row, agrees⟩ := exec_frameBoundary s
  obtain ⟨-, -, -, rpt, rta, -⟩ := agrees
  obtain ⟨clock, power, port, -⟩ := s.entered_keeps
  have table := s.entered_rta
  have ends := (s.entered.weighed.grant s.entered.recovering).attends_after_grant s.rta.asked
  rw [State.arbitrate_eq] at rpt rta
  obtain ⟨recovery, faults⟩ := s.entered.weighed_counts
  obtain ⟨recovery', faults'⟩ := s.entered.weighed.grant_counts s.entered.recovering
  have recovered : t.rpt.recoveryNext = false := by
    rw [rpt]; exact ends.recoveryNext.trans (recovery'.trans recovery)
  have faulted : t.rpt.faultCount = if s.rpt.order = none then s.rpt.faultCount
      else if 4 ≤ s.rpt.faultCount + 1 then 0 else s.rpt.faultCount + 1 := by
    rw [rpt, ← port]; exact ends.faultCount.trans (faults'.trans faults)
  refine ⟨t, row, recovered, fun h => ?_, fun ordered => by rw [faulted, if_neg ordered], fun idle => by rw [faulted, if_pos idle]⟩
  have unitSame : s.entered.rta.unit = s.rta.unit := by rw [table]
  have enters : s.entered.rpt.order ≠ none ∨ (s.entered.psc.power ≠ .awake ∧ s.entered.rta.unit = none) ∨
      ((0 < s.entered.rta.holdCount ∨ s.entered.rpt.recoveryNext = true) ∧
        (s.entered.rta.unit = none ∨ s.entered.unitOver = true)) := by
    have over_iff : s.entered.unitOver = true ↔ ∃ u, s.rta.unit = some u ∧ u.length ≤ frameDist u.first (s.clock.now + 1) := by
      rw [State.unitOver_iff, unitSame, clock]
    rw [over_iff, power, port, unitSame, show s.entered.rta.holdCount = s.rta.holdCount by rw [table]]
    exact h
  obtain ⟨unavailable, unit, order, tag⟩ := State.weighed_unavailable (by rw [table]) enters
  have passes := State.grant_attends (.inl unavailable)
  rw [rpt, rta]
  refine ⟨ends.unit_none (passes.unit_none unit), ends.order_none (passes.order_none order), ?_⟩
  exact ends.nextTag.trans (passes.nextTag.trans (tag.trans (congrArg (·.nextTag) port)))

end Sys2Proof.Machine
end

section
/-! Sitting 3: passing claims over, and the claim that a free frame goes to (R40 to R42, R44; O5). -/

namespace Sys2Proof.Machine

/-! ### Claims passed over (R42, R44) -/

/-- A claim passed over in a frame with a code: a standing one's frame ends with it, another is marked. -/
def Claim.passed (code : EndCode) (c : Claim) : Claim :=
  if c.perFrame then { c with lastEnd := some code }
  else { c with outranked := c.outranked || code == .denied, unavailable := c.unavailable || code == .missed }

/-- `k` is `s` with the claims `l` passed over with the code, the lost TRAFFIC frames among them counted. -/
structure State.PassesOver (code : EndCode) (l : List (Nat × Claim)) (s k : State) : Prop where
  rest : k = { s with rta := { s.rta with claims := k.rta.claims }, vcp := k.vcp }
  passed : ∀ e ∈ l, entryAt s.rta.claims e.1 = some e.2 → entryAt k.rta.claims e.1 = some (e.2.passed code)
  other : ∀ i, (∀ e ∈ l, e.1 ≠ i) → entryAt k.rta.claims i = entryAt s.rta.claims i
  vcp : s.vcp.lost ≤ 255 →
    k.vcp = { s.vcp with lost := min 255 (s.vcp.lost + (l.filter fun e => e.2.kind == .traffic).length) }

/-- One claim passed over: its entry, and VCP's count for a TRAFFIC frame. -/
theorem State.passOver_eq {code : EndCode} (hc : code = .missed ∨ code = .denied) {e : Nat × Claim} (he : e.2.perFrame = e.2.kind.standing)
    (s : State) : s.passOver code e =
      { s with rta := { s.rta with claims := (s.passOver code e).rta.claims }
               vcp := if e.2.kind = .traffic then s.vcp.countLost else s.vcp } := by
  have lost (t : State) : t.trafficEnded code = t.onVcp Vcp.countLost := by obtain rfl | rfl := hc <;> rfl
  unfold State.passOver
  split
  next standing =>
    rw [he] at standing
    cases hk : e.2.kind <;> simp [hk, ClaimKind.standing] at standing
    case traffic => unfold State.tellClaimOwner; dsimp only; rw [lost]; rfl
    case signalling => rfl
  next oneShot =>
    have other : e.2.kind ≠ .traffic := fun hk => oneShot (by rw [he, hk]; rfl)
    rw [if_neg other]
    rfl

theorem State.onClaim_entry (i j : Nat) (f : Claim → Claim) (s : State) :
    entryAt (s.onClaim i f).rta.claims j = if i = j then (entryAt s.rta.claims j).map f else entryAt s.rta.claims j :=
  entryAt_modify_map f s.rta.claims i j

theorem State.passOver_claims {e : Nat × Claim} (he : e.2.perFrame = e.2.kind.standing) (code : EndCode) (s : State) :
    (s.passOver code e).rta.claims = (s.onClaim e.1 fun c =>
      if e.2.perFrame then { c with lastEnd := some code }
      else { c with outranked := c.outranked || code == .denied, unavailable := c.unavailable || code == .missed }).rta.claims := by
  unfold State.passOver
  split
  next standing =>
    rw [he] at standing
    cases hk : e.2.kind <;> simp [hk, ClaimKind.standing] at standing
    case traffic => unfold State.tellClaimOwner; simp
    case signalling => rfl
  next => rfl

/-- Two claims of the list are of different entries, and each says rightly whether it is standing. -/
def ListedApart (l : List (Nat × Claim)) : Prop :=
  l.Pairwise (fun e f => e.1 ≠ f.1) ∧ ∀ e ∈ l, e.2.perFrame = e.2.kind.standing

theorem Vcp.countLost_min {v : Vcp} (h : v.lost ≤ 255) : v.countLost = { v with lost := min 255 (v.lost + 1) } := by
  unfold Vcp.countLost
  rw [satInc_255]
  congr 1
  split <;> omega

/-- Claims passed over one after another. -/
theorem State.passOvers_passesOver {code : EndCode} (hc : code = .missed ∨ code = .denied) {l : List (Nat × Claim)} (hl : ListedApart l) (s : State) :
    s.PassesOver code l (l.foldl (State.passOver code) s) := by
  induction l generalizing s with
  | nil => exact ⟨rfl, by simp, fun _ _ => rfl, fun h => by simp [Nat.min_eq_right h]⟩
  | cons e l ih =>
    obtain ⟨apart, standing⟩ := hl
    rw [List.pairwise_cons] at apart
    obtain ⟨distinct, apart⟩ := apart
    have he := standing e List.mem_cons_self
    obtain ⟨rest, passed, other, vcp⟩ := ih ⟨apart, fun f hf => standing f (List.mem_cons_of_mem e hf)⟩ (s.passOver code e)
    have claims := State.passOver_claims he code s
    have first := State.passOver_eq hc he s
    refine ⟨?_, fun f hf => ?_, fun i hi => ?_, fun h => ?_⟩
    · rw [List.foldl_cons, rest, first]
    · rw [List.foldl_cons]
      intro entry
      rw [List.mem_cons] at hf
      by_cases mem : f ∈ l
      · refine passed f mem ?_
        rw [claims, State.onClaim_entry, if_neg (distinct f mem), entry]
      · obtain rfl : f = e := hf.resolve_right mem
        rw [other _ (fun g hg => (distinct g hg).symm), claims, State.onClaim_entry, if_pos rfl, entry]
        unfold Claim.passed
        rfl
    · rw [List.foldl_cons, other i (fun f hf => hi f (List.mem_cons_of_mem e hf)), claims, State.onClaim_entry,
        if_neg (hi e List.mem_cons_self)]
    · have counted : (s.passOver code e).vcp = { s.vcp with lost := min 255 (s.vcp.lost + if e.2.kind = .traffic then 1 else 0) } := by
        rw [first]
        split
        · rw [Vcp.countLost_min h]
        · simp [Nat.min_eq_right h]
      rw [List.foldl_cons, vcp (by rw [counted]; exact Nat.min_le_left ..), counted]
      by_cases hk : e.2.kind = .traffic
      · simp [hk]; omega
      · simp [hk]; omega

/-- The claims eligible for a frame are of different entries, each standing as its kind is. -/
theorem State.eligibles_apart {s : State} (h : s.claimsOk) (p : Nat × Claim → Bool) : ListedApart (s.eligibles.filter p) := by
  obtain ⟨-, standing⟩ := h
  refine ⟨?_, fun e he => standing e (List.mem_of_mem_filter (List.mem_of_mem_filter he))⟩
  exact ((taken_sorted s.rta.claims).imp fun lt => Nat.ne_of_lt lt).filter _ |>.filter _

theorem State.mem_eligibles (s : State) (e : Nat × Claim) :
    e ∈ s.eligibles ↔ entryAt s.rta.claims e.1 = some e.2 ∧ s.eligible s.clock.now e.2 = true := by
  rw [State.eligibles, List.mem_filter, mem_taken]

theorem State.eligible_waiting {s : State} {r : Frame} {c : Claim} (h : s.eligible r c = true) : c.state = .waiting := by
  unfold State.eligible at h
  rw [Bool.and_eq_true, beq_iff_eq] at h
  exact h.1

end Sys2Proof.Machine
end

section
/-! Sitting 3: the claim that a free frame goes to, and the unit that starts for it (O5). -/

namespace Sys2Proof.Machine

/-! ### The highest rank (R40) -/

theorem ClaimKind.rank_lt (k : ClaimKind) : k.rank < 7 := by cases k <;> decide

theorem ClaimKind.rank_inj {j k : ClaimKind} : j.rank = k.rank ↔ j = k := by
  refine ⟨?_, congrArg _⟩
  cases j <;> cases k <;> decide

/-- The least rank found from a start `n`: it is at most `n` and each rank, and it is one of them. -/
theorem foldl_rank_spec (l : List (Nat × Claim)) (n : Nat) :
    (l.foldl (fun n e => min n e.2.kind.rank) n ≤ n ∧ ∀ e ∈ l, l.foldl (fun n e => min n e.2.kind.rank) n ≤ e.2.kind.rank) ∧
      (l.foldl (fun n e => min n e.2.kind.rank) n = n ∨ ∃ e ∈ l, e.2.kind.rank = l.foldl (fun n e => min n e.2.kind.rank) n) := by
  induction l generalizing n with
  | nil => simp
  | cons e l ih =>
    obtain ⟨⟨start, least⟩, found⟩ := ih (min n e.2.kind.rank)
    simp only [List.foldl_cons, List.mem_cons, forall_eq_or_imp, exists_eq_or_imp]
    refine ⟨⟨start.trans (Nat.min_le_left ..), start.trans (Nat.min_le_right ..), least⟩, ?_⟩
    obtain same | later := found
    · rw [same]; omega
    · exact .inr (.inr later)

theorem topRank_le {l : List (Nat × Claim)} {e : Nat × Claim} (h : e ∈ l) : topRank l ≤ e.2.kind.rank := (foldl_rank_spec l 7).1.2 e h

theorem exists_topRank {l : List (Nat × Claim)} (h : l ≠ []) : ∃ e ∈ l, e.2.kind.rank = topRank l := by
  refine (foldl_rank_spec l 7).2.resolve_left fun all => ?_
  obtain ⟨e, he⟩ := List.exists_mem_of_ne_nil l h
  have low := (foldl_rank_spec l 7).1.2 e he
  have := e.2.kind.rank_lt
  omega

/-! ### The contest (R41) -/

theorem Rta.contest_marks (r : Rta) (k : Nat) : (r.contest k).2 = { r with marks := (r.contest k).2.marks } := by
  unfold Rta.contest; dsimp only; split <;> rfl

/-- Claims of a table: one entry each, and one for each subscription and kind (R35). -/
structure ClaimsKeyed (l : List (Nat × Claim)) : Prop where
  nodup : l.Nodup
  index : ∀ e ∈ l, ∀ f ∈ l, e.1 = f.1 → e = f
  key : ∀ e ∈ l, ∀ f ∈ l, e.2.sub = f.2.sub → e.2.kind = f.2.kind → e = f

theorem State.eligibles_keyed {s : State} (h : s.claimsOk) : ClaimsKeyed s.eligibles := by
  have entry {e : Nat × Claim} (he : e ∈ s.eligibles) : entryAt s.rta.claims e.1 = some e.2 := ((s.mem_eligibles e).1 he).1
  have index (e f : Nat × Claim) (he : e ∈ s.eligibles) (hf : f ∈ s.eligibles) (hi : e.1 = f.1) : e = f :=
    Prod.ext hi (Option.some.inj ((entry he).symm.trans (hi ▸ entry hf)))
  obtain ⟨apart, -⟩ := (State.claimsOk_iff s).1 h
  exact {
    nodup := ((taken_sorted s.rta.claims).imp fun lt e => Nat.ne_of_lt lt (congrArg Prod.fst e)).filter _
    index := fun e he f hf => index e f he hf
    key := fun e he f hf hs hk => index e f he hf (apart e.1 f.1 e.2 f.2 (entry he) (entry hf) (Prod.ext hs hk)) }

/-- The eligible claim of the highest rank, alone of its kind or the winner of the contest (R40, R41). -/
structure Rta.Best (r : Rta) (l : List (Nat × Claim)) (e : Nat × Claim) : Prop where
  mem : e ∈ l
  best : (r.best l).1 = some e
  rank : ∀ f ∈ l, e.2.kind.rank ≤ f.2.kind.rank
  alone : (∀ f ∈ l, f.2.kind = e.2.kind → f.1 = e.1) → (r.best l).2 = r
  contest : ∀ f ∈ l, f.2.kind = e.2.kind → f.1 ≠ e.1 →
    e.2.sub = (r.contest e.2.kind.rank).1 ∧ (r.best l).2 = (r.contest e.2.kind.rank).2

/-- The claims of the highest rank. -/
def topClaims (l : List (Nat × Claim)) : List (Nat × Claim) := l.filter fun e => e.2.kind.rank == topRank l

theorem Rta.best_of_one {l : List (Nat × Claim)} {e : Nat × Claim} (h : topClaims l = [e]) (r : Rta) : r.best l = (some e, r) := by
  unfold topClaims at h
  unfold Rta.best
  simp only [h]

theorem Rta.best_of_more {l rest : List (Nat × Claim)} {e f : Nat × Claim} (h : topClaims l = e :: f :: rest) (r : Rta) :
    r.best l = ((topClaims l).find? fun e => e.2.sub == (r.contest (topRank l)).1, (r.contest (topRank l)).2) := by
  unfold topClaims at h ⊢
  unfold Rta.best
  simp only [h]

theorem Sub.eq_or_eq_of_ne {x y : Sub} (h : x ≠ y) (z : Sub) : z = x ∨ z = y := by
  cases x <;> cases y <;> cases z <;> simp_all

theorem Rta.exists_best (r : Rta) {l : List (Nat × Claim)} (h : ClaimsKeyed l) (ne : l ≠ []) : ∃ e, r.Best l e := by
  obtain ⟨top, topMem, topEq⟩ := exists_topRank ne
  have mem_top (f : Nat × Claim) : f ∈ topClaims l ↔ f ∈ l ∧ f.2.kind = top.2.kind := by
    simp [topClaims, ← topEq, ClaimKind.rank_inj]
  have least {f : Nat × Claim} (hf : f.2.kind = top.2.kind) : ∀ g ∈ l, f.2.kind.rank ≤ g.2.kind.rank := fun g hg => by
    rw [hf, topEq]; exact topRank_le hg
  cases ht : topClaims l with
  | nil => exact absurd ((mem_top top).2 ⟨topMem, rfl⟩) (by simp [ht])
  | cons e others =>
    obtain ⟨he, hek⟩ := (mem_top e).1 (by simp [ht])
    cases others with
    | nil =>
      have one := Rta.best_of_one ht r
      refine ⟨e, he, by rw [one], least hek, fun _ => by rw [one], fun f hf kind other => ?_⟩
      have : f ∈ topClaims l := (mem_top f).2 ⟨hf, kind.trans hek⟩
      rw [ht, List.mem_singleton] at this
      exact absurd (congrArg Prod.fst this) other
    | cons f rest =>
      have more := Rta.best_of_more ht r
      obtain ⟨hf, hfk⟩ := (mem_top f).1 (by simp [ht])
      have apart : e ≠ f := by
        have distinct : (e :: f :: rest).Nodup := ht ▸ h.nodup.filter _
        rw [List.nodup_cons] at distinct
        exact fun same => distinct.1 (same ▸ List.mem_cons_self)
      have subs : e.2.sub ≠ f.2.sub := fun same => apart (h.key e he f hf same (hek.trans hfk.symm))
      cases won : (topClaims l).find? fun e => e.2.sub == (r.contest (topRank l)).1 with
      | none =>
        have lost := List.find?_eq_none.1 won
        have eLost : e.2.sub ≠ _ := fun same => lost e (by simp [ht]) (beq_iff_eq.2 same)
        have fLost : f.2.sub ≠ _ := fun same => lost f (by simp [ht]) (beq_iff_eq.2 same)
        obtain same | same := Sub.eq_or_eq_of_ne subs (r.contest (topRank l)).1
        · exact absurd same.symm eLost
        · exact absurd same.symm fLost
      | some w =>
        obtain ⟨hw, hwk⟩ := (mem_top w).1 (List.mem_of_find?_eq_some won)
        have winner : w.2.sub = (r.contest (topRank l)).1 := by simpa using List.find?_some won
        have rank : w.2.kind.rank = topRank l := by rw [hwk, topEq]
        refine ⟨w, hw, by rw [more, won], least hwk, fun all => ?_, fun _ _ _ _ => ⟨by rw [rank, winner], by rw [more, rank]⟩⟩
        have eSame := h.index e he w hw (all e he (hek.trans hwk.symm))
        have fSame := h.index f hf w hw (all f hf (hfk.trans hwk.symm))
        exact absurd (eSame.trans fSame.symm) apart

/-! ### Tune-away (R40) -/

/-- Who wins the frame that the claim `e` would have: the other subscription's PAGING_LISTEN where `e` yields to it, else `e`. -/
theorem Rta.yieldTo_spec (r : Rta) {l : List (Nat × Claim)} (h : ClaimsKeyed l) {e : Nat × Claim} (he : e ∈ l)
    (standing : e.2.perFrame = e.2.kind.standing) :
    r.yieldTo l e ∈ l ∧
      (∀ f ∈ l, (e.2.kind = .traffic ∨ e.2.kind = .signalling) → r.tuneAway.get e.2.sub = true →
        f.2.isFor e.2.sub.other .pagingListen = true → r.yieldTo l e = f) ∧
      (((e.2.kind ≠ .traffic ∧ e.2.kind ≠ .signalling) ∨ r.tuneAway.get e.2.sub = false ∨
        ∀ f ∈ l, f.2.isFor e.2.sub.other .pagingListen = false) → r.yieldTo l e = e) := by
  have standing_iff : e.2.perFrame = true ↔ e.2.kind = .traffic ∨ e.2.kind = .signalling := by
    rw [standing]; cases e.2.kind <;> simp [ClaimKind.standing]
  unfold Rta.yieldTo
  by_cases yields : (e.2.perFrame && r.tuneAway.get e.2.sub) = true
  · obtain ⟨frame, tuned⟩ := Bool.and_eq_true _ _ ▸ yields
    rw [if_pos yields]
    cases found : l.find? fun f => f.2.isFor e.2.sub.other .pagingListen with
    | none =>
      have none_for := List.find?_eq_none.1 found
      exact ⟨he, fun f hf _ _ paged => absurd paged (none_for f hf), fun _ => rfl⟩
    | some p =>
      have hp := List.mem_of_find?_eq_some found
      have paging := List.find?_some found
      refine ⟨hp, fun f hf _ _ paged => ?_, fun free => ?_⟩
      · simp only [Claim.isFor, Bool.and_eq_true, beq_iff_eq] at paging paged
        exact h.key p hp f hf (paging.1.trans paged.1.symm) (paging.2.trans paged.2.symm)
      · obtain ⟨noTraffic, noSignalling⟩ | untuned | nobody := free
        · exact absurd (standing_iff.1 frame) (not_or.2 ⟨noTraffic, noSignalling⟩)
        · simp [untuned] at tuned
        · simp [nobody p hp] at paging
  · rw [if_neg yields]
    refine ⟨he, fun f _ frame tuned _ => absurd ?_ yields, fun _ => rfl⟩
    rw [standing_iff.2 frame, tuned]; rfl

/-! ### The unit that starts (R42 step 5, R49) -/

/-- The claim of a unit that starts is RUNNING. -/
def Claim.started (c : Claim) : Claim := { c with state := .running }

theorem State.startUnit_rta (i : Nat) (c : Claim) (s : State) : (s.startUnit i c).rta =
    { s.rta with claims := (s.onClaim i Claim.started).rta.claims, unit := (s.startUnit i c).rta.unit } := by
  unfold State.startUnit State.sendOrder State.onClaim
  simp
  rfl

theorem State.startUnit_unit (i : Nat) (c : Claim) (s : State) : ∃ u : RadioUnit, (s.startUnit i c).rta.unit = some u ∧
    u.sub = c.sub ∧ u.kind = c.kind ∧ u.length = c.length ∧ u.first = s.clock.now :=
  ⟨_, rfl, rfl, rfl, rfl, by simp⟩

theorem State.startUnit_order (i : Nat) (c : Claim) (s : State) : (s.startUnit i c).rpt.order = some
    { tag := s.rpt.nextTag, sub := c.sub, claimKind := c.kind, kind := c.kind.orderKind, freq := (s.orderCell c.sub c.kind).1.freq,
      offset := (s.orderCell c.sub c.kind).1.offset, phase := (s.orderCell c.sub c.kind).1.phase, length := c.length,
      content := ((s.orderCell c.sub c.kind).2.orderContent c.sub c.kind).1,
      carriesHead := ((s.orderCell c.sub c.kind).2.orderContent c.sub c.kind).2.1 } := by
  unfold State.startUnit State.sendOrder
  simp

theorem State.startUnit_nextTag (i : Nat) (c : Claim) (s : State) : (s.startUnit i c).rpt.nextTag = s.rpt.nextTag + 1 := by
  obtain ⟨o, -, port⟩ := s.startUnit_rpt i c
  rw [port]

theorem State.startUnit_mob (i : Nat) (c : Claim) (s : State) : (s.startUnit i c).mob = (s.orderCell c.sub c.kind).2.mob := by
  unfold State.startUnit State.sendOrder
  simp

/-- A speech frame taken for a TRAFFIC frame, or stolen from it, is no frame lost (R144). -/
theorem State.startUnit_lost (i : Nat) (c : Claim) (s : State) : (s.startUnit i c).vcp.lost = s.vcp.lost := by
  have stolen (v : Vcp) : v.steal.lost = v.lost := by unfold Vcp.steal; split <;> rfl
  have taken (v : Vcp) : v.takeSpeech.2.lost = v.lost := by unfold Vcp.takeSpeech; split <;> rfl
  have block (x : Sub) (k : ClaimKind) (u : State) : (u.uplinkBlock x k).2.2.vcp.lost = u.vcp.lost := by
    unfold State.uplinkBlock; dsimp only; (repeat' split) <;> simp [stolen, taken]
  have content (u : State) : (u.orderContent c.sub c.kind).2.2.vcp.lost = u.vcp.lost := by
    unfold State.orderContent; split <;> simp only [block]
  unfold State.startUnit State.sendOrder
  simp [content]

end Sys2Proof.Machine
end

section
/-! Sitting 3: the grant of a frame, and the boundary of a lone standing claim (O5). -/

namespace Sys2Proof.Machine

/-! ### A free receiver (R40, R41, R42) -/

theorem Rta.best_marks (r : Rta) (l : List (Nat × Claim)) : (r.best l).2 = { r with marks := (r.best l).2.marks } := by
  unfold Rta.best Rta.contest; dsimp only; (repeat' split) <;> rfl

/-- The contest settled, and nothing else (R41). -/
def State.contested (s : State) : State := s.onRta fun _ => (s.rta.best s.eligibles).2

theorem State.contested_rta (s : State) : s.contested.rta = { s.rta with marks := (s.rta.best s.eligibles).2.marks } :=
  Rta.best_marks s.rta s.eligibles

theorem State.outranked_passesOver {s : State} (h : s.claimsOk) (i : Nat) :
    s.contested.PassesOver .denied (s.eligibles.filter fun f => f.1 != i) (s.outranked i) :=
  State.passOvers_passesOver (.inr rfl) (State.eligibles_apart h _) _

theorem State.startUnit_entry (i j : Nat) (c : Claim) (s : State) : entryAt (s.startUnit i c).rta.claims j =
    if i = j then (entryAt s.rta.claims j).map Claim.started else entryAt s.rta.claims j := by
  rw [State.startUnit_rta]
  exact State.onClaim_entry i j Claim.started s

section Free
variable {s : State} {recovery : Bool} {e : Nat × Claim}

/-- The claim that wins is RUNNING; every other eligible one is passed over. -/
theorem State.grant_entries (ok : s.claimsOk) (free : s.unavailable recovery = false) (idle : s.rta.unit = none)
    (he : s.rta.Best s.eligibles e) {f : Nat × Claim} (hf : f ∈ s.eligibles) : entryAt (s.grant recovery).rta.claims f.1 =
      some (if (s.winner e).1 = f.1 then f.2.started else f.2.passed .denied) := by
  obtain ⟨-, passed, other, -⟩ := State.outranked_passesOver ok (s.winner e).1
  have entry : entryAt s.contested.rta.claims f.1 = some f.2 := by
    rw [State.contested_rta]; exact ((s.mem_eligibles f).1 hf).1
  rw [State.grant_free free idle he.best, State.startUnit_entry]
  split
  next won =>
    rw [other f.1 fun g hg => ?_, entry]; rfl
    have := List.of_mem_filter hg
    rw [bne_iff_ne, won] at this
    exact this
  next lost =>
    refine passed f (List.mem_filter.2 ⟨hf, ?_⟩) entry
    rw [bne_iff_ne]; exact Ne.symm lost

theorem State.grant_marks (ok : s.claimsOk) (free : s.unavailable recovery = false) (idle : s.rta.unit = none)
    (he : s.rta.Best s.eligibles e) : (s.grant recovery).rta.marks = (s.rta.best s.eligibles).2.marks := by
  obtain ⟨rest, -⟩ := State.outranked_passesOver ok (s.winner e).1
  rw [State.grant_free free idle he.best, State.startUnit_rta, rest, State.contested_rta]

theorem State.grant_lost (ok : s.claimsOk) (free : s.unavailable recovery = false) (idle : s.rta.unit = none)
    (he : s.rta.Best s.eligibles e) (few : s.vcp.lost ≤ 255) : (s.grant recovery).vcp.lost =
      min 255 (s.vcp.lost + (s.eligibles.filter fun f => f.1 != (s.winner e).1 && f.2.kind == .traffic).length) := by
  obtain ⟨-, -, -, vcp⟩ := State.outranked_passesOver ok (s.winner e).1
  rw [State.grant_free free idle he.best, State.startUnit_lost, vcp few, List.filter_filter]
  simp only [Bool.and_comm]
  rfl

/-- What the winner's unit starts from: the decision so far has moved the mark, marked claims and counted lost frames alone. -/
theorem State.outranked_keeps (ok : s.claimsOk) (i : Nat) : (s.outranked i).mob = s.mob ∧ (s.outranked i).sge = s.sge ∧
    (s.outranked i).rpt = s.rpt ∧ (s.outranked i).clock = s.clock ∧ (s.outranked i).rta.copies = s.rta.copies := by
  obtain ⟨rest, -⟩ := State.outranked_passesOver ok i
  rw [rest]
  refine ⟨rfl, rfl, rfl, rfl, ?_⟩
  exact congrArg (·.copies) s.contested_rta

end Free

/-! ### A receiver that is not free (R42, R44) -/

theorem State.grant_passesOver {s : State} {recovery : Bool} {code : EndCode} (ok : s.claimsOk)
    (h : (s.unavailable recovery = true ∧ code = .missed) ∨ (s.unavailable recovery = false ∧ s.rta.unit ≠ none ∧ code = .denied)) :
    s.PassesOver code s.eligibles (s.grant recovery) := by
  have apart : ListedApart s.eligibles := by
    have := State.eligibles_apart ok fun _ => true
    rwa [List.filter_true] at this
  obtain ⟨gone, rfl⟩ | ⟨free, busy, rfl⟩ := h
  · rw [State.grant_unavailable gone]; exact State.passOvers_passesOver (.inl rfl) apart s
  · rw [State.grant_busy free busy]; exact State.passOvers_passesOver (.inr rfl) apart s

/-! ### The order of a unit (R49, R102, R105, R108) -/

theorem State.startUnit_mobOf_search {s : State} {c : Claim} (h : c.kind = .search) (i : Nat) :
    (s.startUnit i c).mobOf c.sub = (s.mobOf c.sub).takeSearchFreq.2 := by
  unfold State.mobOf
  rw [State.startUnit_mob, h]
  exact (State.onMobOf_mobOf c.sub c.sub _ s).trans (if_pos rfl)

theorem State.startUnit_mob_other {s : State} {c : Claim} (h : c.kind ≠ .search) (i : Nat) : (s.startUnit i c).mob = s.mob := by
  rw [State.startUnit_mob]
  unfold State.orderCell
  cases hk : c.kind with
  | search => exact absurd hk h
  | _ => rfl

/-! ### A standing claim alone (R42, R44) -/

/-- A window ends at its latest start alone (R45): not that of a standing claim, nor of a claim that runs or waits for its number to come again. -/
theorem State.expireWindow_stays {s : State} {i : Nat} {c : Claim} (hc : entryAt s.rta.claims i = some c)
    (h : c.perFrame = true ∨ c.state ≠ .waiting ∨ c.later = true ∨ frameDist c.first s.clock.now ≠ c.slack) :
    s.expireWindow (i, c) = s := by
  unfold State.expireWindow
  rw [hc]
  refine if_neg fun ends => ?_
  simp only [Bool.and_eq_true, Bool.not_eq_true', beq_iff_eq] at ends
  obtain ⟨⟨⟨⟨-, oneShot⟩, waits⟩, soon⟩, last⟩ := ends
  obtain standing | runs | later | early := h
  · simp [oneShot] at standing
  · exact runs waits
  · simp [soon] at later
  · exact early last

theorem taken_map (f : Claim → Claim) {l : List (Option Claim)} {i : Nat} {c : Claim} (h : taken l = [(i, c)]) :
    taken (l.map (Option.map f)) = [(i, f c)] := by
  have from_map (n : Nat) (l : List (Option Claim)) : takenFrom n (l.map (Option.map f)) = (takenFrom n l).map fun e => (e.1, f e.2) := by
    induction l generalizing n with
    | nil => rfl
    | cons o l ih => cases o <;> simp [takenFrom, ih]
  unfold taken at h ⊢
  rw [from_map, h]
  rfl

/-- A claim reached by the frame that begins stands as it stood, its window aside (R36). -/
theorem State.eligible_reached {s t : State} {c : Claim} (standing : c.perFrame = true) (copies : t.rta.copies = s.rta.copies)
    (now r : Frame) : t.eligible r (c.reached now) = s.eligible r c := by
  have same : (c.reached now).perFrame = true := standing
  unfold State.eligible
  rw [if_pos same, if_pos standing, State.demanded, copies]
  rfl

theorem State.playoutBoundary_lost (s : State) : s.playoutBoundary.vcp.lost = s.vcp.lost := by
  have hole (x : Sub) (i : Nat) (n : Seq) (t : State) : (t.fillHole x i n).vcp.lost = t.vcp.lost := by
    unfold State.fillHole; split <;> simp
  unfold State.playoutBoundary
  dsimp only
  (repeat' split) <;> simp [hole]

/-- The claims are weighed at once, where no order is outstanding and no unit ends (R42). -/
theorem State.weighed_at_once {s : State} (order : s.rpt.order = none) (asked : s.rta.asked = some []) (stays : s.unitOver = false) :
    s.weighed = s.played.noted := by
  rw [State.weighed_idle order]
  refine State.freed_idle ?_ (by simp [State.noted, asked])
  have same : s.played.noted.unitOver = s.unitOver := by simp [State.noted, State.unitOver]
  rw [same, stays]

/-- No window ends where none has its latest start in the frame that begins (R45). -/
theorem State.expireWindows_stays {s : State} (h : ∀ e ∈ taken s.rta.claims,
    e.2.perFrame = true ∨ e.2.state ≠ .waiting ∨ e.2.later = true ∨ frameDist e.2.first s.clock.now ≠ e.2.slack) : s.expireWindows = s := by
  have all (l : List (Nat × Claim)) (sub : ∀ e ∈ l, e ∈ taken s.rta.claims) : l.foldl State.expireWindow s = s := by
    induction l with
    | nil => rfl
    | cons e l ih =>
      have he := sub e List.mem_cons_self
      rw [List.foldl_cons, State.expireWindow_stays ((mem_taken ..).1 he) (h e he)]
      exact ih fun f hf => sub f (List.mem_cons_of_mem e hf)
  exact all _ fun _ => id

/-- The placements of a boundary that asks for none change nothing. -/
theorem State.turns_idle {s : State} (h : s.rta.asked = some []) : placementOrder.foldl State.takeTurn s = s := State.takeTurns_idle h _

/-! ### The decision at a boundary without an order -/

/-- The state in which a boundary without an outstanding order decides: the timers counted, playout fallen, the recovery frame noted. -/
def State.opened (s : State) : State := s.entered.played.noted

theorem State.opened_keeps (s : State) : s.opened.clock = ⟨s.clock.now + 1, 0⟩ ∧ s.opened.rta = s.entered.rta ∧
    s.opened.psc.power = s.psc.power ∧ s.opened.rpt = { s.rpt with recoveryNext := false } ∧ s.opened.sbs = s.sbs ∧
    s.opened.dlc = s.dlc ∧ s.opened.vcp.lost = s.vcp.lost := by
  obtain ⟨clock, power, port, dlc, sbs, voice⟩ := s.entered_keeps
  have lost : s.entered.played.vcp.lost = s.vcp.lost := by
    rw [← voice]; unfold State.played; split <;> simp [State.playoutBoundary_lost]
  exact ⟨by simp [State.opened, State.noted, clock], by simp [State.opened, State.noted], by simp [State.opened, State.noted, power],
    by simp [State.opened, State.noted, port], by simp [State.opened, State.noted, sbs], by simp [State.opened, State.noted, dlc], lost⟩

section NoOrder
variable {s : State}

theorem State.entered_recovering (order : s.rpt.order = none) : s.entered.recovering = s.rpt.recoveryNext := by
  obtain ⟨-, -, port, -⟩ := s.entered_keeps
  rw [State.recovering_idle (by rw [port, order]), port]

theorem State.entered_weighed (order : s.rpt.order = none) : s.entered.weighed = s.opened.freed := by
  obtain ⟨-, -, port, -⟩ := s.entered_keeps
  exact State.weighed_idle (by rw [port, order])

/-- Where no unit ends, the claims are weighed at once (R42). -/
theorem State.opened_freed (stays : ∀ u, s.rta.unit = some u → frameDist u.first (s.clock.now + 1) < u.length) :
    s.opened.freed = s.opened := by
  obtain ⟨clock, rta, -⟩ := s.opened_keeps
  refine State.freed_idle ((State.unitOver_eq_false_iff _).2 fun u hu => ?_) (by rw [rta, State.entered_rta])
  rw [rta, State.entered_rta] at hu
  rw [clock]
  exact stays u hu

/-- The decision of a boundary without an order. -/
theorem exec_frameBoundary_decides (order : s.rpt.order = none) : ∃ t, exec .frameBoundary s = .next t ∧
    ((placementOrder.foldl State.takeTurn (s.opened.freed.awarded s.rpt.recoveryNext)).setAsked s.rta.asked).agreesButSleep t := by
  obtain ⟨t, row, agrees⟩ := exec_frameBoundary s
  rw [State.arbitrate_eq, State.entered_weighed order, State.entered_recovering order] at agrees
  exact ⟨t, row, agrees⟩

theorem State.opened_unavailable (gone : s.psc.power ≠ .awake ∨ 0 < s.rta.holdCount ∨ s.rpt.recoveryNext = true) :
    s.opened.unavailable s.rpt.recoveryNext = true := by
  obtain ⟨-, rta, power, -⟩ := s.opened_keeps
  rw [State.unavailable_iff, rta, power, State.entered_rta]
  exact gone

end NoOrder

section Lone
variable {s : State} {i : Nat} {c : Claim}

theorem State.opened_taken (h : taken s.rta.claims = [(i, c)]) : taken s.opened.rta.claims = [(i, c.reached (s.clock.now + 1))] := by
  obtain ⟨-, rta, -⟩ := s.opened_keeps
  rw [rta, State.entered_rta]
  exact taken_map _ h

/-- The one claim in the table, eligible, is passed over in a frame for which the receiver is unavailable. -/
theorem State.grant_lone {recovery : Bool} (unavailable : s.unavailable recovery = true) (one : taken s.rta.claims = [(i, c)])
    (eligible : s.eligible s.clock.now c = true) : s.grant recovery = s.passOver .missed (i, c) := by
  have only : s.eligibles = [(i, c)] := by
    unfold State.eligibles; rw [one]; simp [eligible]
  rw [State.grant_unavailable unavailable, only]
  rfl

theorem State.passOver_passesOver (own : c.perFrame = c.kind.standing) : s.PassesOver .missed [(i, c)] (s.passOver .missed (i, c)) :=
  State.passOvers_passesOver (.inl rfl) ⟨List.pairwise_singleton .., by simpa using own⟩ s

theorem Claim.passed_standing (h : c.perFrame = true) (code : EndCode) : c.passed code = { c with lastEnd := some code } := if_pos h

/-- No window ends with it: the one claim in the table is standing. -/
theorem State.awarded_lone {recovery : Bool} (passes : s.PassesOver .missed [(i, c)] (s.grant recovery))
    (one : taken s.rta.claims = [(i, c)]) (standing : c.perFrame = true) : s.awarded recovery = (s.grant recovery).recordHolder := by
  refine State.expireWindows_stays fun e he => .inl ?_
  have entry : entryAt (s.grant recovery).rta.claims e.1 = some e.2 := (mem_taken ..).1 he
  have held : entryAt s.rta.claims i = some c := (mem_taken ..).1 (by simp [one])
  by_cases same : i = e.1
  · rw [← same, passes.passed (i, c) List.mem_cons_self held] at entry
    rw [← Option.some.inj entry, Claim.passed_standing standing]
    exact standing
  · rw [passes.other e.1 (by simpa using same)] at entry
    have member : e ∈ taken s.rta.claims := (mem_taken ..).2 entry
    rw [one, List.mem_singleton] at member
    exact absurd (by rw [member]) same

/-- A standing claim alone in the table ends its frame MISSED at a boundary with the receiver unavailable (R42, R44, R142). -/
theorem frameBoundary_lone (order : s.rpt.order = none) (idle : s.rta.unit = none)
    (gone : s.psc.power ≠ .awake ∨ 0 < s.rta.holdCount ∨ s.rpt.recoveryNext = true) (one : taken s.rta.claims = [(i, c)])
    (own : c.perFrame = c.kind.standing) (standing : c.kind.standing = true) (eligible : s.eligible (s.clock.now + 1) c = true) :
    ∃ t g, exec .frameBoundary s = .next t ∧ entryAt t.rta.claims i = some g ∧ g.state = .waiting ∧ g.lastEnd = some .missed ∧
      t.vcp.lost = (if c.kind = .traffic then (if s.vcp.lost < 255 then s.vcp.lost + 1 else 255) else s.vcp.lost) := by
  obtain ⟨clock, rta, -, -, -, -, lost⟩ := s.opened_keeps
  have frame : (c.reached (s.clock.now + 1)).perFrame = true := own.trans standing
  have lone := State.opened_taken one
  have weighs : s.opened.eligible s.opened.clock.now (c.reached (s.clock.now + 1)) = true := by
    rw [clock, State.eligible_reached (s := s) (own.trans standing) (by rw [rta, State.entered_rta])]; exact eligible
  have granted := State.grant_lone (State.opened_unavailable gone) lone weighs
  have passes : s.opened.PassesOver .missed _ _ := State.passOver_passesOver (i := i) (c := c.reached (s.clock.now + 1)) own
  have awarded := State.awarded_lone (granted ▸ passes) lone frame
  rw [granted] at awarded
  have asked : (s.opened.awarded s.rpt.recoveryNext).rta.asked = some [] := by
    rw [awarded]
    change (s.opened.passOver .missed _).rta.asked = some []
    rw [passes.rest, rta, State.entered_rta]
  obtain ⟨t, row, agrees⟩ := exec_frameBoundary_decides order
  rw [State.opened_freed (by simp [idle]), State.turns_idle asked, awarded] at agrees
  obtain ⟨-, -, -, -, tRta, -, -, -, -, -, -, -, tVcp, -⟩ := agrees
  refine ⟨t, (c.reached (s.clock.now + 1)).passed .missed, row, ?_, ?_, ?_, ?_⟩
  · rw [tRta]
    exact passes.passed _ List.mem_cons_self ((mem_taken ..).1 (by simp [lone]))
  · rw [Claim.passed_standing frame]
    exact State.eligible_waiting weighs
  · rw [Claim.passed_standing frame]
  · rw [tVcp]
    change (s.opened.passOver .missed _).vcp.lost = _
    rw [State.passOver_eq (.inl rfl) own]
    change (if c.kind = .traffic then s.opened.vcp.countLost else s.opened.vcp).lost = _
    rw [Vcp.countLost_eq, apply_ite Vcp.lost, lost]

end Lone

end Sys2Proof.Machine
end

section
/-! Sitting 3: the grant and the contest, assembled (O5). -/

namespace Sys2Proof.Machine

/-- A frame of a free receiver for which a claim is eligible (R40 to R42, R44, R49). -/
theorem grantsFreeFrame (s : State) (recovery : Bool) (ok : s.claimsOk) (free : s.unavailable recovery = false) (idle : s.rta.unit = none)
    (some_eligible : s.eligibles ≠ []) :
    ∃ e ∈ s.eligibles, ∃ w ∈ s.eligibles, ∃ u,
      (∀ f ∈ s.eligibles, e.2.kind.rank ≤ f.2.kind.rank) ∧
      (∀ f ∈ s.eligibles, f.2.kind = e.2.kind → f.1 ≠ e.1 →
        e.2.sub = (s.rta.contest e.2.kind.rank).1 ∧ (s.grant recovery).rta.marks = (s.rta.contest e.2.kind.rank).2.marks) ∧
      ((∀ f ∈ s.eligibles, f.2.kind = e.2.kind → f.1 = e.1) → (s.grant recovery).rta.marks = s.rta.marks) ∧
      (∀ f ∈ s.eligibles, (e.2.kind = .traffic ∨ e.2.kind = .signalling) → s.rta.tuneAway.get e.2.sub = true →
        f.2.isFor e.2.sub.other .pagingListen = true → w = f) ∧
      (((e.2.kind ≠ .traffic ∧ e.2.kind ≠ .signalling) ∨ s.rta.tuneAway.get e.2.sub = false ∨
        ∀ f ∈ s.eligibles, f.2.isFor e.2.sub.other .pagingListen = false) → w = e) ∧
      (∃ g : State, s.grant recovery = g.startUnit w.1 w.2 ∧ g.mob = s.mob ∧ g.sge = s.sge ∧ g.rpt = s.rpt ∧ g.clock = s.clock ∧
        g.rta.copies = s.rta.copies) ∧
      (s.grant recovery).rta.unit = some u ∧ u.sub = w.2.sub ∧ u.kind = w.2.kind ∧ u.length = w.2.length ∧ u.first = s.clock.now ∧
      ((s.grant recovery).rpt.order.map fun o => (o.tag, o.sub, o.claimKind)) = some (s.rpt.nextTag, u.sub, u.kind) ∧
      (∃ c, entryAt (s.grant recovery).rta.claims w.1 = some c ∧ c.state = .running) ∧
      (s.vcp.lost ≤ 255 → (s.grant recovery).vcp.lost =
        min 255 (s.vcp.lost + (s.eligibles.filter fun f => f.1 != w.1 && f.2.kind == .traffic).length)) ∧
      ∀ f ∈ s.eligibles, f.1 ≠ w.1 → ∃ c, entryAt (s.grant recovery).rta.claims f.1 = some c ∧ c.state = .waiting ∧
        (f.2.kind.standing = true → c.lastEnd = some .denied) ∧ (f.2.kind.standing = false → c.outranked = true) := by
  have keyed := State.eligibles_keyed ok
  have standing : ∀ f ∈ s.eligibles, f.2.perFrame = f.2.kind.standing := fun f hf => ok.2 f (List.mem_of_mem_filter hf)
  obtain ⟨e, he⟩ := s.rta.exists_best keyed some_eligible
  have tuned : (s.rta.best s.eligibles).2.tuneAway = s.rta.tuneAway := by rw [Rta.best_marks]
  obtain ⟨mem, toPaging, own⟩ := (s.rta.best s.eligibles).2.yieldTo_spec keyed he.mem (standing e he.mem)
  rw [tuned] at toPaging own
  have marks := State.grant_marks ok free idle he
  have granted := State.grant_free free idle he.best
  obtain ⟨mob, sge, rpt, clock, copies⟩ := State.outranked_keeps ok (s.winner e).1
  obtain ⟨u, unit, sub, kind, length, first⟩ := State.startUnit_unit (s.winner e).1 (s.winner e).2 (s.outranked (s.winner e).1)
  refine ⟨e, he.mem, s.winner e, mem, u, he.rank, fun f hf hk other => ?_, fun all => by rw [marks, he.alone all], toPaging, own,
    ⟨_, granted, mob, sge, rpt, clock, copies⟩, granted ▸ unit, sub, kind, length, clock ▸ first, ?_, ?_,
    State.grant_lost ok free idle he, fun f hf lost => ?_⟩
  · obtain ⟨winner, contested⟩ := he.contest f hf hk other
    exact ⟨winner, by rw [marks, contested]⟩
  · rw [granted, State.startUnit_order, rpt, sub, kind]
    rfl
  · have winner : s.winner e ∈ s.eligibles := mem
    have entry := State.grant_entries ok free idle he winner
    rw [if_pos rfl] at entry
    exact ⟨_, entry, rfl⟩
  · have waits := State.eligible_waiting ((s.mem_eligibles f).1 hf).2
    have entry := State.grant_entries ok free idle he hf
    rw [if_neg (Ne.symm lost)] at entry
    refine ⟨_, entry, ?_, fun frame => ?_, fun window => ?_⟩
    · unfold Claim.passed; split <;> exact waits
    · rw [Claim.passed_standing (by rw [standing f hf, frame])]
    · unfold Claim.passed
      rw [if_neg (by rw [standing f hf, window]; exact Bool.false_ne_true)]
      exact Bool.or_true _

/-- The policies of a contest (R41). -/
theorem Rta.contest_policies (r : Rta) (k : Nat) (p : Policy) (m : Sub) (hp : r.policies[k]? = some p) (hm : r.marks[k]? = some m) :
    (p = .fixedA → r.contest k = (.a, r)) ∧ (p = .fixedB → r.contest k = (.b, r)) ∧
      (p = .rotate → (r.contest k).1 = m ∧ (r.contest k).2 = { r with marks := r.marks.set k m.other }) := by
  unfold Rta.contest
  refine ⟨?_, ?_, ?_⟩ <;> rintro rfl <;> simp [hp, hm, contestWinner]

/-- What an order says of its unit, and what its start leaves of MOB (R49, R102, R105, R108). -/
theorem State.startUnit_orders (s : State) (i : Nat) (c : Claim) (m : MobSub) (hm : m = s.mobOf c.sub) :
    ∃ o, (s.startUnit i c).rpt.order = some o ∧
    o.tag = s.rpt.nextTag ∧ (s.startUnit i c).rpt.nextTag = s.rpt.nextTag + 1 ∧ o.sub = c.sub ∧ o.claimKind = c.kind ∧ o.length = c.length ∧
    (c.kind = .pagingListen → ∀ v, m.serving = some v →
      o.kind = .listen ∧ o.freq = v.freq ∧ o.offset = v.offset ∧ o.phase = v.phase ∧ o.content = .none) ∧
    (c.kind = .beaconRead → o.kind = .listen ∧ o.offset = 0 ∧ o.phase = 0 ∧ o.content = .none ∧
      (∀ j id n, m.readPurpose = some (.reselect j id) → entryAt m.neighbours j = some n → n.cellId = id → o.freq = n.freq) ∧
      (∀ v, m.readPurpose = some .refresh → m.serving = some v → o.freq = v.freq)) ∧
    (c.kind = .measure → ∀ v, m.serving = some v →
      o.kind = .measure ∧ o.freq = v.freq ∧ o.offset = v.offset ∧ o.phase = v.phase ∧ o.content = .cells m.measureCells) ∧
    (c.kind = .search → o.kind = .search ∧ o.freq = m.takeSearchFreq.1 ∧ o.offset = 0 ∧ o.phase = 0 ∧ o.content = .none ∧
      (s.startUnit i c).mobOf c.sub = m.takeSearchFreq.2) ∧
    ((c.kind = .traffic ∨ c.kind = .signalling) → ∀ v, s.rta.copies.get c.sub = some v →
      o.kind = .connectedFrame ∧ o.freq = v.freq ∧ o.offset = v.offset ∧ o.phase = v.phase) ∧
    (c.kind ≠ .search → (s.startUnit i c).mob = s.mob) := by
  subst hm
  refine ⟨_, s.startUnit_order i c, rfl, s.startUnit_nextTag i c, rfl, rfl, rfl, fun hk v hv => ?_, fun hk => ?_, fun hk v hv => ?_,
    fun hk => ?_, fun hk v hv => ?_, fun hk => State.startUnit_mob_other hk i⟩
  · have serving : s.serving c.sub = some v := hv
    simp [hk, State.orderCell, State.orderContent, State.servingCell, serving, ClaimKind.orderKind]
  · simp only [hk, State.orderCell, State.orderContent, ClaimKind.orderKind, true_and]
    refine ⟨fun j id n read entry _ => ?_, fun v read serving => ?_⟩
    · simp [MobSub.readFreq, read, entry]
    · simp [MobSub.readFreq, read, serving]
  · have serving : s.serving c.sub = some v := hv
    simp [hk, State.orderCell, State.orderContent, State.servingCell, serving, ClaimKind.orderKind]
  · refine ⟨?_, ?_, ?_, ?_, ?_, State.startUnit_mobOf_search hk i⟩ <;> simp [hk, State.orderCell, State.orderContent, ClaimKind.orderKind]
  · obtain hk | hk := hk <;> simp [hk, State.orderCell, hv, ClaimKind.orderKind]

/-- A receiver that is not free passes every eligible claim over (R42, R44). -/
theorem passesOverAll (s : State) (recovery : Bool) (code : EndCode) (ok : s.claimsOk)
    (h : (s.unavailable recovery = true ∧ code = .missed) ∨ (s.unavailable recovery = false ∧ s.rta.unit ≠ none ∧ code = .denied)) :
    ∃ k, k = s.grant recovery ∧ k = { s with rta := { s.rta with claims := k.rta.claims }, vcp := k.vcp } ∧
      (∀ e ∈ s.eligibles, entryAt k.rta.claims e.1 = some
        (if e.2.kind.standing = true then { e.2 with lastEnd := some code }
        else if code = .denied then { e.2 with outranked := true } else { e.2 with unavailable := true })) ∧
      (∀ i, (∀ e ∈ s.eligibles, e.1 ≠ i) → entryAt k.rta.claims i = entryAt s.rta.claims i) ∧
      (s.vcp.lost ≤ 255 → k.vcp = { s.vcp with
        lost := min 255 (s.vcp.lost + (s.eligibles.filter fun e => e.2.kind == .traffic).length) }) := by
  have passes := State.grant_passesOver ok h
  refine ⟨_, rfl, passes.rest, fun e he => ?_, passes.other, passes.vcp⟩
  rw [passes.passed e he ((s.mem_eligibles e).1 he).1]
  have own : e.2.perFrame = e.2.kind.standing := ok.2 e (List.mem_of_mem_filter he)
  unfold Claim.passed
  rw [← own]
  obtain ⟨-, rfl⟩ | ⟨-, -, rfl⟩ := h
  · simp [show (EndCode.missed == EndCode.denied) = false from rfl]
  · simp [show (EndCode.denied == EndCode.missed) = false from rfl]

/-- The decision of a boundary within a unit, or with none in progress (R42): the grant, the holder, the windows. -/
theorem State.arbitrate_at_once (s q : State) (order : s.rpt.order = none) (asked : s.rta.asked = some [])
    (stays : ∀ u, s.rta.unit = some u → frameDist u.first s.clock.now < u.length)
    (hq : q = (if s.clock.now.toNat % 2 = 0 then s.playoutBoundary else s)) :
    s.arbitrate = (State.grant s.rpt.recoveryNext { q with rpt := { q.rpt with recoveryNext := false } }).recordHolder.expireWindows := by
  rw [State.arbitrate_eq, State.weighed_at_once order asked ((State.unitOver_eq_false_iff s).2 stays), State.recovering_idle order, hq]
  rfl

/-- Settles O5: `grantsFreeFrame` and `passesOverAll` for the decision, `startUnit_orders` for the order, `frameBoundary_lone` for the boundary. -/
theorem grantAndContest : Obligations.GrantAndContest := by
  unfold Obligations.GrantAndContest
  refine ⟨grantsFreeFrame, Rta.contest_policies, State.startUnit_orders, passesOverAll, fun s recovery => ?_, State.arbitrate_at_once,
    fun s i c order idle gone one own standing eligible => frameBoundary_lone order idle gone one own standing eligible⟩
  exact ⟨s.unavailable_iff recovery, s.mem_eligibles⟩

end Sys2Proof.Machine
end

section
/-! Sitting 3: a claim at the end of its unit, frame or window (O55). -/

namespace Sys2Proof.Machine

/-! ### The next occurrence of a repeating claim (R47) -/

/-- Periods are skipped while the window they lead to is past, and no further. -/
theorem skipPast_eq {first t : Frame} {slack period : Nat} {k : Nat} {n fuel : Nat} (enough : k < fuel)
    (past : ∀ m, m < k → latestBefore (first + frameOf (n + m * period)) slack t = true)
    (open_ : latestBefore (first + frameOf (n + k * period)) slack t = false) : skipPast first slack period t fuel n = n + k * period := by
  induction k generalizing n fuel with
  | zero =>
    obtain ⟨fuel, rfl⟩ : ∃ f, fuel = f + 1 := ⟨fuel - 1, by omega⟩
    rw [Nat.zero_mul, Nat.add_zero] at open_ ⊢
    rw [skipPast, open_]
    rfl
  | succ k ih =>
    obtain ⟨fuel, rfl⟩ : ∃ f, fuel = f + 1 := ⟨fuel - 1, by omega⟩
    have shift (m : Nat) : n + period + m * period = n + (m + 1) * period := by rw [Nat.succ_mul]; omega
    have now : latestBefore (first + frameOf n) slack t = true := by simpa using past 0 (by omega)
    have rest := ih (n := n + period) (fuel := fuel) (by omega) (fun m hm => by rw [shift]; exact past (m + 1) (by omega))
      (by rw [shift]; exact open_)
    rw [skipPast, if_pos now, rest, shift]

theorem Claim.advance_eq {c : Claim} {t : Frame} {k : Nat} (enough : k ≤ 4095)
    (past : ∀ m, 1 ≤ m → m ≤ k → latestBefore (c.first + frameOf (m * c.period)) c.slack t = true)
    (open_ : latestBefore (c.first + frameOf ((k + 1) * c.period)) c.slack t = false) : c.advance t = (k + 1) * c.period := by
  have shift (m : Nat) : c.period + m * c.period = (m + 1) * c.period := by rw [Nat.succ_mul]; omega
  have skipped := skipPast_eq (n := c.period) (fuel := 4096) (Nat.lt_succ_of_le enough)
    (fun m hm => by rw [shift]; exact past (m + 1) (by omega) (by omega)) (by rw [shift]; exact open_)
  unfold Claim.advance
  rw [skipped, shift]

theorem Claim.advance_once {c : Claim} {t : Frame} (open_ : latestBefore (c.first + frameOf c.period) c.slack t = false) :
    c.advance t = c.period := by
  have once := Claim.advance_eq (c := c) (t := t) (k := 0) (by omega) (fun m low high => by omega) (by simpa using open_)
  simpa using once

theorem Claim.laterAfter_iff (c : Claim) (n : Nat) (t : Frame) : c.laterAfter n t = true ↔
    c.first + frameOf n ≠ t ∧ frameDist (c.first + frameOf n) t ≤ c.slack ∧ frameDist c.first t < n := by
  simp [Claim.laterAfter, inWindow, and_assoc]

/-! ### A claim that ends (R35 to R37, R39, R43, R47) -/

section Settled
variable {c : Claim} {code : EndCode} {t : Frame}

theorem Claim.settled_placed {w : Window} (h : c.placement = some w) :
    c.settled code t = some (({ c with withdrawing := false }.takeWindow w).frameOver code) := by
  unfold Claim.settled; rw [h]

theorem Claim.settled_withdrawn (h : c.placement = none) (k : c.withdrawing = true) : c.settled code t = none := by
  unfold Claim.settled; rw [h]; exact if_pos k

theorem Claim.settled_standing (h : c.placement = none) (k : c.withdrawing = false) (l : c.perFrame = true) :
    c.settled code t = some (c.frameOver code) := by
  simp [Claim.settled, h, k, l]

theorem Claim.settled_once (h : c.placement = none) (k : c.withdrawing = false) (l : c.perFrame = false) (p : c.period = 0) :
    c.settled code t = none := by
  simp [Claim.settled, h, k, l, p]

theorem Claim.settled_repeats (h : c.placement = none) (k : c.withdrawing = false) (l : c.perFrame = false) (p : c.period ≠ 0) :
    c.settled code t = some (c.rearm code t) := by
  simp [Claim.settled, h, k, l, p]

/-- A claim re-armed ahead of the frame that begins is not eligible for it, however the numbers wrap (R47). -/
theorem Claim.rearm_not_eligible (l : c.perFrame = false) (ahead : frameDist c.first t < c.advance t) (apart : (c.rearm code t).first ≠ t)
    (s : State) : s.eligible t (c.rearm code t) = false := by
  have window : (c.rearm code t).perFrame = false := l
  rw [← Bool.not_eq_true, State.eligible_window_iff window]
  rintro ⟨-, soon, reached, -⟩
  have later : (c.rearm code t).later = true := (c.laterAfter_iff _ _).2 ⟨apart, reached, ahead⟩
  rw [soon] at later
  cases later

end Settled

/-! ### A window that ends (R42 step 6, R45) -/

theorem Claim.expiryCode_eq (c : Claim) : c.expiryCode = if c.unavailable = false ∧ c.outranked = true then .denied else .missed := by
  unfold Claim.expiryCode
  cases c.unavailable <;> cases c.outranked <;> rfl

theorem State.expireWindow_ends {s : State} {i : Nat} {c : Claim} (hc : entryAt s.rta.claims i = some c) (window : c.perFrame = false)
    (waits : c.state = .waiting) (soon : c.later = false) (last : frameDist c.first s.clock.now = c.slack) :
    s.expireWindow (i, c) = (s.settleClaim i c.expiryCode).tellClaimOwner c.sub c.kind c.expiryCode none := by
  unfold State.expireWindow
  rw [hc]
  exact if_pos (by simp [Claim.isFor, window, waits, soon, last])

/-! ### The settled entry, and the owner told (R43) -/

theorem State.settleClaim_entry (i j : Nat) (code : EndCode) (s : State) : entryAt (s.settleClaim i code).rta.claims j =
    if i = j then (entryAt s.rta.claims j).bind fun c => c.settled code (s.clock.now + 1) else entryAt s.rta.claims j :=
  entryAt_modify _ rfl s.rta.claims i j

theorem State.trafficEnded_eq (s : State) (code : EndCode) : s.trafficEnded code = if code = .done ∨ code = .withdrawn then s
    else { s with vcp := { s.vcp with lost := if s.vcp.lost < 255 then s.vcp.lost + 1 else 255 } } := by
  have lost : s.onVcp Vcp.countLost = { s with vcp := { s.vcp with lost := if s.vcp.lost < 255 then s.vcp.lost + 1 else 255 } } := by
    unfold State.onVcp; rw [Vcp.countLost_eq]
  rw [← lost]
  cases code <;> rfl

/-- A MEASURE occurrence that lapses brings no result (R93). -/
theorem State.measureEnded_lapsed {code : EndCode} (h : code ≠ .done) (s : State) (x : Sub) (cells : List ListedCell)
    (result : Option (List (Option Int))) : s.measureEnded x code cells result = s := by
  unfold State.measureEnded
  rw [if_neg]
  simp [h]

/-! ### A repeating MEASURE claim under a radio hold -/

/-- The one claim of a table, by its entries. -/
theorem taken_lone_iff {l : List (Option Claim)} {i : Nat} {c : Claim} :
    taken l = [(i, c)] ↔ ∀ j d, entryAt l j = some d ↔ j = i ∧ d = c := by
  have nodup : (taken l).Nodup := (taken_sorted l).imp fun lt e => Nat.ne_of_lt lt (congrArg Prod.fst e)
  constructor
  · intro h j d
    rw [← mem_taken, h, List.mem_singleton, Prod.mk.injEq]
  · intro h
    refine List.perm_singleton.1 ((List.perm_ext_iff_of_nodup nodup (List.nodup_singleton _)).2 fun e => ?_)
    rw [mem_taken, h, List.mem_singleton, Prod.ext_iff]

theorem State.onClaim_lone {s : State} {i : Nat} {c : Claim} (h : taken s.rta.claims = [(i, c)]) (f : Claim → Claim) :
    taken (s.onClaim i f).rta.claims = [(i, f c)] := by
  rw [taken_lone_iff] at h ⊢
  intro j d
  rw [State.onClaim_entry]
  by_cases same : i = j
  · subst same
    simp [(h i c).2 ⟨rfl, rfl⟩, eq_comm]
  · rw [if_neg same, h]
    simp [Ne.symm same]

theorem Claim.reached_open {c : Claim} (soon : c.later = false) (placed : c.placement = none) (now : Frame) : c.reached now = c := by
  cases c
  simp only at soon placed
  simp [Claim.reached, soon, placed]

/-- A claim marked as one that the receiver was unavailable to (R42). -/
def Claim.unserved (c : Claim) : Claim := { c with unavailable := true }

theorem State.passOver_window {c : Claim} (window : c.perFrame = false) (i : Nat) (s : State) :
    s.passOver .missed (i, c) = s.onClaim i Claim.unserved := by
  have mark : (fun c : Claim =>
      { c with outranked := c.outranked || EndCode.missed == .denied, unavailable := c.unavailable || EndCode.missed == .missed }) =
        Claim.unserved := by
    funext c
    simp [Claim.unserved, show (EndCode.missed == EndCode.denied) = false from rfl]
  unfold State.passOver
  rw [if_neg (by simp [window]), mark]

/-- A claim passed over at its latest start, and the window that ends there, where the receiver was unavailable (R42, R45). -/
theorem State.awarded_lapses {s : State} {i : Nat} {c : Claim} {recovery : Bool} (unavailable : s.unavailable recovery = true)
    (one : taken s.rta.claims = [(i, c)]) (eligible : s.eligible s.clock.now c = true) (window : c.perFrame = false)
    (last : frameDist c.first s.clock.now = c.slack) : s.awarded recovery =
      ((s.onClaim i Claim.unserved).recordHolder.settleClaim i .missed).tellClaimOwner c.sub c.kind .missed none := by
  obtain ⟨waits, soon, -⟩ := (State.eligible_window_iff window s s.clock.now).1 eligible
  have lone : taken (s.onClaim i Claim.unserved).recordHolder.rta.claims = [(i, c.unserved)] := State.onClaim_lone one _
  unfold State.awarded
  rw [State.grant_lone unavailable one eligible, State.passOver_window window, State.expireWindows, lone, List.foldl_cons, List.foldl_nil]
  exact State.expireWindow_ends ((taken_lone_iff.1 lone i _).2 ⟨rfl, rfl⟩) window waits soon last

/-- A repeating claim that lapsed for want of the receiver is re-armed a period on, both marks no (R45, R47). -/
theorem Claim.unserved_settled {c : Claim} {t : Frame} (window : c.perFrame = false) (placed : c.placement = none)
    (kept : c.withdrawing = false) (period : c.period ≠ 0) (open_ : latestBefore (c.first + frameOf c.period) c.slack t = false) :
    c.unserved.settled .missed t = some { c with
      first := c.first + frameOf c.period, later := c.laterAfter c.period t, state := .waiting, outranked := false, unavailable := false,
      lastEnd := some .missed } := by
  have once : c.unserved.advance t = c.period := Claim.advance_once (c := c.unserved) open_
  rw [Claim.settled_repeats (c := c.unserved) placed kept window period, Claim.rearm, once]
  rfl

/-- A MEASURE claim alone in the table, at its latest start under a radio hold, ends MISSED and is re-armed a period on (R45, R47, R48). -/
theorem frameBoundary_loneMeasure (s : State) (i : Nat) (c : Claim) (order : s.rpt.order = none) (idle : s.rta.unit = none)
    (hold : 0 < s.rta.holdCount) (one : taken s.rta.claims = [(i, c)]) (kind : c.kind = .measure) (window : c.perFrame = false)
    (waits : c.state = .waiting) (soon : c.later = false) (placed : c.placement = none) (kept : c.withdrawing = false) (period : c.period ≠ 0)
    (last : frameDist c.first (s.clock.now + 1) = c.slack)
    (open_ : latestBefore (c.first + frameOf c.period) c.slack (s.clock.now + 2) = false) :
    ∃ t, exec .frameBoundary s = .next t ∧ entryAt t.rta.claims i = some { c with
      first := c.first + frameOf c.period, later := c.laterAfter c.period (s.clock.now + 2), state := .waiting, outranked := false, unavailable := false, lastEnd := some .missed } := by
  obtain ⟨clock, rta, -⟩ := s.opened_keeps
  have now : s.opened.clock.now = s.clock.now + 1 := congrArg (·.now) clock
  have lone : taken s.opened.rta.claims = [(i, c)] := by
    rw [State.opened_taken one, Claim.reached_open soon placed]
  have eligible : s.opened.eligible s.opened.clock.now c = true := by
    rw [State.eligible_window_iff window, now, last]
    refine ⟨waits, soon, Nat.le_refl _, fun _ => (State.standingDemands_eq_false_iff ..).2 fun _ _ _ j g hg _ standing => ?_⟩
    obtain ⟨-, rfl⟩ := (taken_lone_iff.1 lone j g).1 hg
    simp [window] at standing
  have awarded := State.awarded_lapses (State.opened_unavailable (.inr (.inl hold))) lone eligible window (by rw [now, last])
  obtain ⟨t, row, agrees⟩ := exec_frameBoundary_decides order
  rw [kind] at awarded
  change s.opened.awarded s.rpt.recoveryNext = State.measureEnded _ _ _ _ _ at awarded
  rw [State.measureEnded_lapsed (by simp)] at awarded
  have asked : (s.opened.awarded s.rpt.recoveryNext).rta.asked = some [] := by
    rw [awarded]
    change s.opened.rta.asked = some []
    rw [rta, State.entered_rta]
  rw [State.opened_freed (by simp [idle]), State.turns_idle asked, awarded] at agrees
  obtain ⟨-, -, -, -, tRta, -⟩ := agrees
  refine ⟨t, row, ?_⟩
  rw [tRta]
  have entry : entryAt s.opened.rta.claims i = some c := (taken_lone_iff.1 lone i c).2 ⟨rfl, rfl⟩
  have marked : entryAt (s.opened.onClaim i Claim.unserved).recordHolder.rta.claims i = some c.unserved :=
    (State.onClaim_entry i i Claim.unserved s.opened).trans (by rw [if_pos rfl, entry]; rfl)
  have next : (s.opened.onClaim i Claim.unserved).recordHolder.clock.now + 1 = s.clock.now + 2 := by
    change s.opened.clock.now + 1 = _
    rw [now, BitVec.add_assoc]; rfl
  change entryAt (State.settleClaim i .missed _).rta.claims i = _
  rw [State.settleClaim_entry, if_pos rfl, marked, next]
  exact Claim.unserved_settled window placed kept period open_

end Sys2Proof.Machine
end

section
/-! Sitting 3: a boundary that ends a unit, and the camping that a SEARCH may bring there (O55). -/

namespace Sys2Proof.Machine

/-! ### The holder on record, and a unit that goes on (R42) -/

theorem State.holderRecorded_iff (s : State) : s.holderRecorded ↔
    s.rta.holders.head? = some (s.rta.unit.map fun u => ⟨u.sub, u.kind, u.first, u.withdrawn⟩) := Iff.rfl

theorem exec_frameBoundary_recordsHolder (s : State) : ∃ t, exec .frameBoundary s = .next t ∧
    t.rta.holders.head? = some (t.rta.unit.map fun u => ⟨u.sub, u.kind, u.first, u.withdrawn⟩) ∧
    ∀ u, s.rpt.order = none → s.rta.unit = some u → frameDist u.first (s.clock.now + 1) < u.length →
      (t.rta.unit.map fun v => (v.sub, v.kind, v.first, v.length)) = some (u.sub, u.kind, u.first, u.length) := by
  obtain ⟨t, row, agrees⟩ := exec_frameBoundary s
  obtain ⟨-, -, -, -, rta, -⟩ := agrees
  rw [State.arbitrate_eq] at rta
  have after := (s.entered.weighed.grant s.entered.recovering).attends_after_grant s.rta.asked
  have recorded := after.held (State.recordHolder_records _)
  refine ⟨t, row, ?_⟩
  rw [rta]
  refine ⟨(State.holderRecorded_iff _).1 recorded, fun u order unit within => ?_⟩
  have stays : ∀ v, s.rta.unit = some v → frameDist v.first (s.clock.now + 1) < v.length := fun v hv => by
    obtain rfl : u = v := Option.some.inj (unit.symm.trans hv)
    exact within
  have weighed : s.entered.weighed = s.opened := by rw [State.entered_weighed order, State.opened_freed stays]
  have there : s.opened.rta.unit = some u := by
    obtain ⟨-, rta, -⟩ := s.opened_keeps
    rw [rta, State.entered_rta]; exact unit
  have granted : s.opened.Attends (s.opened.grant s.entered.recovering) :=
    State.grant_attends (.inr (by rw [there]; exact Option.some_ne_none u))
  rw [weighed] at after
  obtain ⟨v, hv, same⟩ := granted.unit_some there
  obtain ⟨w, hw, same'⟩ := after.unit_some (u := v) hv
  rw [weighed]
  have fields := congrArg (fun r : RadioUnit => (r.sub, r.kind, r.first, r.length)) (same'.trans same)
  exact (congrArg (Option.map _) hw).trans (congrArg some fields)

/-! ### The state a boundary decides in -/

theorem State.opened_entry (s : State) {i : Nat} {c : Claim} (h : entryAt s.rta.claims i = some c) :
    entryAt s.opened.rta.claims i = some (c.reached (s.clock.now + 1)) := by
  obtain ⟨-, rta, -⟩ := s.opened_keeps
  rw [rta, State.entered_rta]
  exact (entryAt_map ..).trans (by rw [h]; rfl)

theorem State.opened_mobOf (s : State) (x : Sub) : s.opened.mobOf x = s.counted.mobOf x := by
  have mob : s.opened.mob = s.counted.mob := by simp [State.opened, State.noted, State.entered, State.setAsked]
  unfold State.mobOf; rw [mob]

theorem State.opened_pscOf (s : State) (x : Sub) : (s.opened.pscOf x).listens = (s.pscOf x).listens ∧
    (s.opened.pscOf x).missed = (s.pscOf x).missed ∧ (s.opened.pscOf x).denied = (s.pscOf x).denied := by
  have count (now : Frame) (p : PscSub) :
      (p.count now).listens = p.listens ∧ (p.count now).missed = p.missed ∧ (p.count now).denied = p.denied := by
    unfold PscSub.count; split <;> simp
  have per : s.opened.psc = s.counted.psc := by simp [State.opened, State.noted, State.entered, State.setAsked]
  have counted : s.opened.pscOf x = (s.pscOf x).count (s.clock.now + 1) := by
    unfold State.pscOf
    rw [per]
    cases x <;> simp [State.counted, State.countTimers, State.openWindows, State.nextFrame, PerSub.get]
  rw [counted]
  exact count ..

/-- A boundary without an order that ends the unit in progress (R42 step 1, R43). -/
theorem exec_frameBoundary_endsUnit (s : State) (u : RadioUnit) (order : s.rpt.order = none) (unit : s.rta.unit = some u)
    (over_ : u.length ≤ frameDist u.first (s.clock.now + 1)) : ∃ t, exec .frameBoundary s = .next t ∧
      ((placementOrder.foldl State.takeTurn
        (((s.opened.endUnit false).takeStanding.grant s.rpt.recoveryNext).recordHolder.expireWindows)).setAsked s.rta.asked).agreesButSleep t := by
  obtain ⟨clock, rta, -⟩ := s.opened_keeps
  have ends : s.opened.unitOver = true := (State.unitOver_iff _).2 ⟨u, by rw [rta, State.entered_rta]; exact unit, by rw [clock]; exact over_⟩
  obtain ⟨t, row, agrees⟩ := exec_frameBoundary_decides order
  rw [State.freed, if_pos ends] at agrees
  exact ⟨t, row, agrees⟩

/-! ### Camping on the cell a SEARCH found (R101, R103) -/

/-- MOB holds this serving record for `x`, the cell not barred, and no access of `x` is under way. -/
structure State.Camps (x : Sub) (v : Serving) (s : State) : Prop where
  serving : s.serving x = some v
  noReturn : (s.mobOf x).returnRec = none

section Camps
variable {s t : State} {x : Sub} {v : Serving}

theorem State.Camps.keep (h : s.Camps x v) (unbarred : v.barred = false) (cells : s.keepsCells t) (attends : s.Attends t) : t.Camps x v where
  serving := (cells x (by simp [h.serving, unbarred])).1.trans h.serving
  noReturn := attends.noReturn x h.noReturn

theorem State.Camps.same (h : s.Camps x v) (mob : t.mobOf x = s.mobOf x) : t.Camps x v where
  serving := by unfold State.serving; rw [mob]; exact h.serving
  noReturn := by rw [mob]; exact h.noReturn

theorem State.Camps.mob (h : s.Camps x v) (mob : t.mob = s.mob := by simp) : t.Camps x v := h.same (by unfold State.mobOf; rw [mob])

theorem State.Camps.onMobOf (h : s.Camps x v) {y : Sub} (other : x ≠ y) (f : MobSub → MobSub) : (s.onMobOf y f).Camps x v :=
  h.same ((State.onMobOf_mobOf y x f s).trans (if_neg other))

theorem State.Camps.setCopy (h : s.Camps x v) (y : Sub) : (s.setCopy y).Camps x v := h.mob
theorem State.Camps.recomputeSchedule (h : s.Camps x v) (y : Sub) : (s.recomputeSchedule y).Camps x v := h.mob
theorem State.Camps.giveServingLevel (h : s.Camps x v) (y : Sub) : (s.giveServingLevel y).Camps x v := h.mob
theorem State.Camps.offerPlain (h : s.Camps x v) (y : Sub) (owner : Option Owner) (echo : Ident) (body : UpBody) :
    (s.offerPlain y owner echo body).Camps x v := h.mob
theorem State.Camps.accessOver (h : s.Camps x v) (y : Sub) : (s.accessOver y).Camps x v := h.mob (by simp [State.accessOver])

theorem State.Camps.setAsked (h : s.Camps x v) (l : Option (List (ClaimKind × Sub))) : (s.setAsked l).Camps x v := h.mob rfl

theorem State.Camps.servingSet (h : s.Camps x v) {y : Sub} (other : x ≠ y) : (s.servingSet y).Camps x v :=
  ((((h.onMobOf other _).setCopy y).recomputeSchedule y).onMobOf other _).giveServingLevel y

/-- The failure of the other subscription's access leaves the camping of `x` (R116). -/
theorem State.Camps.accessFailed (h : s.Camps x v) (unbarred : v.barred = false) {y : Sub} (other : x ≠ y) (r : ReturnRecord) (cmd : HoCommand) :
    (s.accessFailed y r cmd).Camps x v := by
  have restored := (h.onMobOf other fun m => { m with serving := some r.serving, neighbours := r.slot.restore m.neighbours }).servingSet other
  unfold State.accessFailed
  refine State.Camps.keep ?_ unbarred (State.settle_settles y _).cells (State.settle_attends y (.refl _))
  exact ((restored.onMobOf other _).accessOver y).offerPlain y _ _ _

/-- A read whose window ends without a unit is over like one that RTA refuses (R106). -/
theorem State.readEnded_lapsed {code : EndCode} (lapse : code = .missed ∨ code = .denied) (y : Sub) (s : State) :
    s.readEnded y code none = s.readRefused y := by
  unfold State.readEnded State.readRefused
  obtain rfl | rfl := lapse <;> (dsimp only; cases (s.mobOf y).readPurpose with
    | none => rfl
    | some p => cases p <;> rfl)

/-- Whatever occurrence lapses, its owner leaves the camping of `x`. -/
theorem State.Camps.tellClaimOwner (h : s.Camps x v) (unbarred : v.barred = false) (y : Sub) (k : ClaimKind) {code : EndCode}
    (lapse : code = .missed ∨ code = .denied) : (s.tellClaimOwner y k code none).Camps x v := by
  have notDone : code ≠ .done := by obtain rfl | rfl := lapse <;> simp
  cases k with
  | handoverAccess =>
    unfold State.tellClaimOwner State.accessEnded
    dsimp only
    split
    next r cmd hr _ =>
      have other : x ≠ y := fun same => by rw [← same, h.noReturn] at hr; cases hr
      obtain rfl | rfl := lapse <;> exact h.accessFailed unbarred other r cmd
    next => exact h
  | traffic => exact h.mob (by simp [State.tellClaimOwner])
  | signalling => exact h
  | pagingListen => exact h.mob (by simp [State.tellClaimOwner])
  | beaconRead =>
    have refused : s.tellClaimOwner y .beaconRead code none = s.readRefused y := State.readEnded_lapsed lapse y s
    rw [refused]
    exact h.keep unbarred (State.readRefused_cells y s) (State.readRefused_attends y (.refl s))
  | measure =>
    have nothing : s.tellClaimOwner y .measure code none = s := State.measureEnded_lapsed notDone s y _ _
    rw [nothing]
    exact h
  | search => exact h

theorem State.Camps.foldl {α : Type} {f : State → α → State} (hf : ∀ (u : State) (a : α), u.Camps x v → (f u a).Camps x v) (l : List α)
    (h : s.Camps x v) : (l.foldl f s).Camps x v := by
  induction l generalizing s with
  | nil => exact h
  | cons a l ih => exact ih (hf s a h)

theorem State.Camps.passOver (h : s.Camps x v) (unbarred : v.barred = false) {code : EndCode} (lapse : code = .missed ∨ code = .denied)
    (e : Nat × Claim) : (s.passOver code e).Camps x v := by
  unfold State.passOver
  split
  · refine State.Camps.tellClaimOwner ?_ unbarred _ _ lapse
    exact h.mob rfl
  · exact h.mob rfl

theorem State.Camps.startUnit (h : s.Camps x v) (i : Nat) (c : Claim) : (s.startUnit i c).Camps x v := by
  have searched : (s.onMobOf c.sub fun _ => (s.mobOf c.sub).takeSearchFreq.2).Camps x v := by
    by_cases own : x = c.sub
    · have mob := (State.onMobOf_mobOf c.sub x (fun _ => (s.mobOf c.sub).takeSearchFreq.2) s).trans (if_pos own)
      obtain ⟨serving, returnRec, -⟩ := MobSub.takeSearchFreq_fields (s.mobOf c.sub)
      refine ⟨?_, by rw [mob, returnRec, ← own]; exact h.noReturn⟩
      unfold State.serving
      rw [mob, serving, ← own]
      exact h.serving
    · exact h.onMobOf own _
  have found : (s.orderCell c.sub c.kind).2.Camps x v := by
    unfold State.orderCell
    cases c.kind with
    | search => exact searched
    | _ => exact h
  exact found.mob (by rw [State.startUnit_mob])

theorem State.Camps.grant (h : s.Camps x v) (unbarred : v.barred = false) (recovery : Bool) : (s.grant recovery).Camps x v := by
  have passes {code : EndCode} (lapse : code = .missed ∨ code = .denied) (l : List (Nat × Claim)) {u : State} (k : u.Camps x v) :
      (l.foldl (State.passOver code) u).Camps x v := State.Camps.foldl (fun _ e c => c.passOver unbarred lapse e) l k
  unfold State.grant
  dsimp only
  split
  · exact passes (.inl rfl) _ h
  split
  · exact passes (.inr rfl) _ h
  have contested : s.contested.Camps x v := h.mob rfl
  split
  · exact contested
  · exact (passes (.inr rfl) _ contested).startUnit _ _

theorem Claim.expiryCode_lapse (c : Claim) : c.expiryCode = .missed ∨ c.expiryCode = .denied := by
  unfold Claim.expiryCode
  (repeat' split) <;> simp

theorem State.Camps.expireWindow (h : s.Camps x v) (unbarred : v.barred = false) (e : Nat × Claim) : (s.expireWindow e).Camps x v := by
  unfold State.expireWindow
  split
  · exact h
  split
  next c _ _ =>
    refine State.Camps.tellClaimOwner ?_ unbarred _ _ c.expiryCode_lapse
    exact h.mob rfl
  next => exact h

theorem State.Camps.awarded (h : s.Camps x v) (unbarred : v.barred = false) (recovery : Bool) : (s.awarded recovery).Camps x v := by
  have granted : (s.grant recovery).recordHolder.Camps x v := (h.grant unbarred recovery).mob rfl
  exact State.Camps.foldl (fun _ e c => c.expireWindow unbarred e) _ granted

theorem State.Camps.takeTurns (h : s.Camps x v) (unbarred : v.barred = false) (l : List (ClaimKind × Sub)) :
    (l.foldl State.takeTurn s).Camps x v :=
  h.keep unbarred (State.takeTurns_keepsOwners l s).2 (State.takeTurns_attends l (.refl s))

/-- A change of MOB's tables for `x` that leaves the serving record and the return record. -/
theorem State.Camps.onOwn (h : s.Camps x v) (f : MobSub → MobSub) (serving : (f (s.mobOf x)).serving = some v)
    (returnRec : (f (s.mobOf x)).returnRec = (s.mobOf x).returnRec) : (s.onMobOf x f).Camps x v := by
  have own := State.onMobOf_self x f s
  refine ⟨?_, by rw [own, returnRec]; exact h.noReturn⟩
  unfold State.serving
  rw [own, serving]

/-- A fresh serving record has a floor run of 0 already, and everything else that its coming sets leaves it (R89, R95, R97). -/
theorem State.Camps.servingSet_own (h : s.Camps x v) (fresh : v.floorRun = 0) : (s.servingSet x).Camps x v := by
  have there : (s.mobOf x).serving = some v := h.serving
  have same : ({ v with floorRun := 0 } : Serving) = v := by rw [← fresh]
  have floor : (s.onServing x fun v => { v with floorRun := 0 }).Camps x v :=
    h.onOwn _ (by simp only [there, Option.map_some, same]) rfl
  have ranked := (floor.setCopy x).recomputeSchedule x
  refine State.Camps.giveServingLevel (ranked.onOwn MobSub.rerankAnew ?_ (MobSub.rerankAnew_fields _).2.1) x
  rw [(MobSub.rerankAnew_fields _).1]
  exact ranked.serving

theorem State.Camps.placeMeasure (h : s.Camps x v) (unbarred : v.barred = false) (y : Sub) : (s.placeMeasure y).Camps x v := by
  have cells : s.keepsCells (s.placeMeasure y) := by
    unfold State.placeMeasure State.ask
    split
    · exact State.tryMeasure_cells y s
    · split <;> exact State.keepsCells_of_mob rfl
  exact h.keep unbarred cells (State.placeMeasure_attends y (.refl s))

end Camps

/-- The serving record of a cell that a SEARCH found (R103). -/
def foundCell (b : BeaconBlock) (freq : Nat) : Serving :=
  ⟨b.cellId, freq, b.area, b.offset, b.phase, b.c, b.qmin, false, some (16 * clampLevel b.level), 0, true⟩

/-- A SEARCH that ends DONE with a beacon kept camps on its cell (R101, R103). -/
theorem State.searchEnded_camps {s : State} {x : Sub} (idle : s.activity x = .noService) (noReturn : (s.mobOf x).returnRec = none)
    (freq : Nat) (b : BeaconBlock) : (s.searchEnded x .done freq (some b)).Camps x (foundCell b freq) := by
  have camped : (s.onMobOf x fun m => m.camp freq b).Camps x (foundCell b freq) := by
    have own := State.onMobOf_self x (fun m => m.camp freq b) s
    refine ⟨?_, by rw [own]; exact noReturn⟩
    unfold State.serving
    rw [own]
    rfl
  have passed : (((s.onMobOf x fun m => m.camp freq b).servingSet x).areaPassed x).Camps x (foundCell b freq) :=
    (camped.servingSet_own rfl).mob
  have settled := passed.keep rfl (State.settle_settles x _).cells (State.settle_attends x (.refl _))
  unfold State.searchEnded
  rw [idle]
  exact (settled.placeMeasure rfl x).mob (State.withdraw_mob _ _ (by simp))

/-- The end of a SEARCH unit with a beacon kept, not withdrawn, camps on its cell (R43, R103). -/
theorem State.endUnit_camps {s : State} {u : RadioUnit} {b : BeaconBlock} (unit : s.rta.unit = some u) (kind : u.kind = .search)
    (stays : u.withdrawn = false) (kept : u.kept = some b) (idle : s.activity u.sub = .noService)
    (noReturn : (s.mobOf u.sub).returnRec = none) : (s.endUnit false).Camps u.sub (foundCell b u.freq) := by
  have done : u.endCode false = .done := by simp [RadioUnit.endCode, stays]
  have told (t : State) : t.tellClaimOwner u.sub .search .done (some u) = t.searchEnded u.sub .done u.freq (some b) := by
    rw [← kept]; rfl
  cases hc : s.claimOf u.sub u.kind with
  | none =>
    rw [State.endUnit_unclaimed unit hc, done, kind, told]
    exact State.searchEnded_camps (s := s.unitGone) idle noReturn u.freq b
  | some e =>
    rw [State.endUnit_claimed unit hc, done, kind, told]
    exact State.searchEnded_camps (s := s.unitGone.settleClaim e.1 .done) idle noReturn u.freq b

/-- A SEARCH with a beacon kept camps at the boundary that ends its unit (R42, R43, R103). -/
theorem frameBoundary_camps (s : State) (u : RadioUnit) (order : s.rpt.order = none) (unit : s.rta.unit = some u)
    (last : u.length ≤ frameDist u.first (s.clock.now + 1)) (b : BeaconBlock) (ok : s.callsOk) (kind : u.kind = .search)
    (stays : u.withdrawn = false) (kept : u.kept = some b) (idle : s.activity u.sub = .noService) :
    ∃ t, exec .frameBoundary s = .next t ∧ (t.activity u.sub).isCampedState = true ∧ t.serving u.sub = some (foundCell b u.freq) := by
  obtain ⟨t, row, agrees⟩ := exec_frameBoundary_endsUnit s u order unit last
  obtain ⟨-, rta, -, -, sbs, -⟩ := s.opened_keeps
  have there : s.opened.rta.unit = some u := by rw [rta, State.entered_rta]; exact unit
  have rest : s.opened.activity u.sub = .noService := by
    unfold State.activity State.record at idle ⊢
    rw [sbs]; exact idle
  have ⟨activity, _, _, _, _, returns⟩ := ok
  have unserved : s.serving u.sub = none := ((activity u.sub).2 (by rw [idle]; rfl)).1
  have noReturn : (s.mobOf u.sub).returnRec = none := by
    cases hr : (s.mobOf u.sub).returnRec with
    | none => rfl
    | some r => have held := (returns u.sub r hr).2; simp [unserved] at held
  have noReturn' : (s.opened.mobOf u.sub).returnRec = none := by rw [State.opened_mobOf, State.counted_mobOf]; exact noReturn
  have ended := State.endUnit_camps there kind stays kept rest noReturn'
  have freed : (s.opened.endUnit false).takeStanding.Camps u.sub (foundCell b u.freq) := ended.takeTurns rfl _
  have awarded : (((s.opened.endUnit false).takeStanding.grant s.rpt.recoveryNext).recordHolder.expireWindows).Camps u.sub
      (foundCell b u.freq) := freed.awarded rfl s.rpt.recoveryNext
  have granted := awarded.takeTurns rfl placementOrder
  have camps : t.Camps u.sub (foundCell b u.freq) := by
    obtain ⟨-, -, -, -, -, -, -, -, -, -, mob, -⟩ := agrees
    exact (granted.setAsked s.rta.asked).mob mob
  obtain ⟨activity', -⟩ := exec_callsOk .frameBoundary s t ok row
  exact ⟨t, row, activity'.camped (by rw [camps.serving]; exact Option.some_ne_none _), camps.serving⟩

/-! ### Assembly -/

theorem Claim.settled_cases (c : Claim) (code : EndCode) (t : Frame) :
    (∀ w, c.placement = some w → ∃ g, c.settled code t = some g ∧ g.first = w.first ∧ g.slack = w.slack ∧ g.length = w.length ∧
      g.period = w.period ∧ g.later = w.later ∧ g.placement = none ∧ g.withdrawing = false ∧ g.outranked = false ∧ g.unavailable = false ∧
      g.lastEnd = some code ∧ g.state = (if c.suspend then .heldOut else .waiting) ∧ g.sub = c.sub ∧ g.kind = c.kind) ∧
    (c.placement = none → c.withdrawing = true → c.settled code t = none) ∧
    (c.placement = none → c.withdrawing = false → c.perFrame = true →
      c.settled code t = some { c with state := if c.suspend then .heldOut else .waiting, suspend := false, lastEnd := some code }) ∧
    (c.placement = none → c.withdrawing = false → c.perFrame = false → c.period = 0 → c.settled code t = none) ∧
    (c.placement = none → c.withdrawing = false → c.perFrame = false → c.period ≠ 0 →
      ∃ n g, c.settled code t = some g ∧ g = { c with
          first := c.first + frameOf n, later := c.laterAfter n t, state := .waiting, outranked := false, unavailable := false,
          lastEnd := some code } ∧
        (latestBefore (c.first + frameOf c.period) c.slack t = false → n = c.period) ∧
        (∀ k, k ≤ 4095 → (∀ m, 1 ≤ m → m ≤ k → latestBefore (c.first + frameOf (m * c.period)) c.slack t = true) →
          latestBefore (c.first + frameOf ((k + 1) * c.period)) c.slack t = false → n = (k + 1) * c.period) ∧
        (g.later = true ↔ g.first ≠ t ∧ frameDist g.first t ≤ g.slack ∧ frameDist c.first t < n) ∧
        ∀ s : State, frameDist c.first t < n → g.first ≠ t → s.eligible t g = false) := by
  refine ⟨fun w placed => ⟨_, Claim.settled_placed placed, rfl, rfl, rfl, rfl, rfl, rfl, rfl, rfl, rfl, rfl, rfl, rfl, rfl⟩,
    Claim.settled_withdrawn, Claim.settled_standing, Claim.settled_once, fun placed kept window period => ?_⟩
  exact ⟨c.advance t, _, Claim.settled_repeats placed kept window period, rfl, Claim.advance_once, fun k => Claim.advance_eq,
    c.laterAfter_iff _ t, fun s ahead apart => Claim.rearm_not_eligible window ahead apart s⟩

/-- A unit that ends (R37, R43): its code, its claim settled, its owner told with what the unit brought. -/
theorem State.endUnit_cases (s : State) (u : RadioUnit) (faulted : Bool) (code : EndCode) (o : State) (unit : s.rta.unit = some u)
    (hcode : code = (if u.withdrawn = true then .withdrawn else if faulted = true then .radioFault else .done))
    (ho : o = { s with rta := { s.rta with unit := none } }) :
    (∀ i c, s.claimOf u.sub u.kind = some (i, c) → s.endUnit faulted = (o.settleClaim i code).tellClaimOwner u.sub u.kind code (some u)) ∧
    (s.claimOf u.sub u.kind = none → s.endUnit faulted = o.tellClaimOwner u.sub u.kind code (some u)) ∧
    (∀ i c, entryAt s.rta.claims i = some c → entryAt (o.settleClaim i code).rta.claims i = c.settled code (s.clock.now + 1) ∧
      ∀ j, j ≠ i → entryAt (o.settleClaim i code).rta.claims j = entryAt s.rta.claims j) ∧
    o.tellClaimOwner u.sub .pagingListen code (some u) = o.listenEnded u.sub code (some u.first) ∧
    o.tellClaimOwner u.sub .beaconRead code (some u) = o.readEnded u.sub code u.kept ∧
    o.tellClaimOwner u.sub .measure code (some u) = o.measureEnded u.sub code u.cells u.result ∧
    o.tellClaimOwner u.sub .search code (some u) = o.searchEnded u.sub code u.freq u.kept ∧
    o.tellClaimOwner u.sub .handoverAccess code (some u) = o.accessEnded u.sub code u.goodNotice ∧
    o.tellClaimOwner u.sub .traffic code (some u) = o.trafficEnded code ∧
    o.tellClaimOwner u.sub .signalling code (some u) = o := by
  obtain rfl : code = u.endCode faulted := hcode
  obtain rfl : o = s.unitGone := ho
  refine ⟨fun i c hc => State.endUnit_claimed unit hc faulted, fun hc => State.endUnit_unclaimed unit hc faulted, fun i c hc => ⟨?_, ?_⟩,
    rfl, rfl, rfl, rfl, rfl, rfl, rfl⟩
  · rw [State.settleClaim_entry, if_pos rfl]
    change ((entryAt s.rta.claims i).bind _) = _
    rw [hc]
    rfl
  · intro j other
    rw [State.settleClaim_entry, if_neg (Ne.symm other)]
    rfl

/-- Settles O55: a claim's end by `Claim.settled_cases`, a unit's by `endUnit_cases`, a boundary's parts by the lemmas about `opened`. -/
theorem unitsEndAndClaimsAreSettled : Obligations.UnitsEndAndClaimsAreSettled := by
  unfold Obligations.UnitsEndAndClaimsAreSettled
  refine ⟨Claim.settled_cases, fun s i c hc => ⟨fun window waits soon last code hcode => ?_, State.expireWindow_stays hc⟩,
    State.trafficEnded_eq, exec_frameBoundary_recordsHolder, frameBoundary_loneMeasure, State.endUnit_cases,
    fun s u order unit last => ⟨?_, frameBoundary_camps s u order unit last⟩⟩
  · rw [hcode, ← Claim.expiryCode_eq]
    exact State.expireWindow_ends hc window waits soon last
  · obtain ⟨t, row, agrees⟩ := exec_frameBoundary_endsUnit s u order unit last
    obtain ⟨clock, rta, -, rpt, sbs, dlc, -⟩ := s.opened_keeps
    refine ⟨t, s.opened, _, row, by rw [rta, State.entered_rta]; exact unit, clock, sbs, dlc, rpt, by rw [rta, State.entered_rta],
      fun i c hc => s.opened_entry hc, fun x => ?_, rfl, agrees⟩
    rw [State.opened_mobOf, State.counted_mobOf]
    exact ⟨rfl, rfl, rfl, rfl, rfl, rfl, s.opened_pscOf x⟩

end Sys2Proof.Machine
end

section
/-! Sitting 3: what a measurement result is, and the trigger it moves (O32). -/

namespace Sys2Proof.Machine

/-! ### The result held (R52) -/

/-- A unit with the entries of a result that comes for it. -/
def RadioUnit.holding (entries : List (Option Int)) (u : RadioUnit) : RadioUnit :=
  if u.kind == .measure && u.result.isNone then { u with result := some (entries.take u.cells.length) } else u

theorem State.holdResult_eq (entries : List (Option Int)) (s : State) :
    s.holdResult entries = { s with rta := { s.rta with unit := s.rta.unit.map (RadioUnit.holding entries) } } := rfl

theorem State.holdResult_held {s : State} {u : RadioUnit} (unit : s.rta.unit = some u) (kind : u.kind = .measure) (fresh : u.result = none)
    (entries : List (Option Int)) : s.holdResult entries =
      { s with rta := { s.rta with unit := some { u with result := some (entries.take u.cells.length) } } } := by
  have held : u.holding entries = { u with result := some (entries.take u.cells.length) } := by simp [RadioUnit.holding, kind, fresh]
  rw [State.holdResult_eq, unit, Option.map_some, held]

theorem State.holdResult_same {s : State} (h : ∀ u, s.rta.unit = some u → u.kind ≠ .measure ∨ u.result ≠ none) (entries : List (Option Int)) :
    s.holdResult entries = s := by
  have same : s.rta.unit.map (RadioUnit.holding entries) = s.rta.unit := by
    cases unit : s.rta.unit with
    | none => rfl
    | some u =>
      refine congrArg some (if_neg fun held => ?_)
      rw [Bool.and_eq_true, beq_iff_eq, Option.isNone_iff_eq_none] at held
      obtain ⟨kind, fresh⟩ := held
      exact (h u unit).elim (fun other => other kind) fun result => result fresh
  rw [State.holdResult_eq, same]

/-- MEASUREMENT_RESULT is the holding of the result, but for the outputs. -/
theorem exec_measurementResult (entries : List (Option Int)) (s : State) :
    ∃ t, exec (.measurementResult entries) s = .next t ∧ (s.holdResult entries).agrees t :=
  ⟨_, rfl, State.finish_agrees rfl⟩

/-! ### A neighbour entry (R90) -/

theorem Neighbour.measured_level (k : Nat) (n : Neighbour) (m : Int) : n.measured k (some m) =
    { n with state := .tracked, miss := 0, f := some (filtered k (if n.state = .tracked then n.f else none) m) } := by
  cases h : n.state <;> simp [Neighbour.measured, h]

theorem Neighbour.measured_lost (k : Nat) {n : Neighbour} (h : n.state = .lost) : n.measured k none = n := by
  simp [Neighbour.measured, h]

theorem Neighbour.measured_miss (k : Nat) {n : Neighbour} (h : n.state ≠ .lost) (few : n.miss < 2) :
    n.measured k none = { n with miss := n.miss + 1 } := by
  have again : ¬ 2 ≤ n.miss := by omega
  cases hs : n.state <;> simp_all [Neighbour.measured]

theorem Neighbour.measured_gone (k : Nat) {n : Neighbour} (h : n.state = .tracked) (third : n.miss = 2) :
    n.measured k none = { n with state := .lost, f := none, miss := 3, trigger := 0 } := by
  simp [Neighbour.measured, h, third]

theorem Neighbour.measured_never (k : Nat) {n : Neighbour} (h : n.state = .unmeasured) (third : n.miss = 2) :
    n.measured k none = { n with state := .lost, miss := 3 } := by
  simp [Neighbour.measured, h, third]

/-! ### The trigger (R96) -/

section Trigger
variable {m : MobSub} {i : Nat} {n : Neighbour}

theorem MobSub.candidate_iff (m : MobSub) (i : Nat) (n : Neighbour) : m.candidate = some (i, n) ↔
    m.ranking.head? = some i ∧ entryAt m.neighbours i = some n ∧
      ∃ rs v, m.servingRank = some rs ∧ n.rankValue = some v ∧ rs < v := by
  unfold MobSub.candidate
  cases head : m.ranking.head? with
  | none => simp
  | some j =>
    cases rank : m.servingRank with
    | none => simp
    | some rs =>
      cases entry : entryAt m.neighbours j with
      | none =>
        simp only [entry, reduceCtorEq, false_iff]
        rintro ⟨same, there, -⟩
        rw [← Option.some.inj same, entry] at there
        cases there
      | some e =>
        simp only [entry, Option.any_eq_true, decide_eq_true_eq, Option.some.injEq]
        constructor
        · intro h
          split at h
          next better =>
            simp only [Option.some.injEq, Prod.mk.injEq] at h
            obtain ⟨rfl, rfl⟩ := h
            obtain ⟨v, hv, lt⟩ := better
            exact ⟨rfl, entry, rs, v, rfl, hv, lt⟩
          next => cases h
        · rintro ⟨rfl, there, r, v, rfl, hv, lt⟩
          obtain rfl : e = n := Option.some.inj (entry.symm.trans there)
          rw [if_pos ⟨v, hv, lt⟩]

theorem MobSub.clearTriggers_entry (m : MobSub) (j : Nat) :
    entryAt m.clearTriggers.neighbours j = (entryAt m.neighbours j).map fun n => { n with trigger := 0 } := entryAt_map ..

theorem MobSub.setTrigger_entry (m : MobSub) (i j count : Nat) : entryAt (m.setTrigger i count).neighbours j =
    if i = j then (entryAt m.neighbours j).map fun n => { n with trigger := count } else entryAt m.neighbours j := entryAt_modify_map ..

theorem MobSub.trigger_none (h : m.candidate = none) :
    m.trigger.1 = none ∧ m.trigger.2.fired = false ∧ ∀ j e, entryAt m.trigger.2.neighbours j = some e → e.trigger = 0 := by
  have off : m.trigger = (none, { m.clearTriggers with fired := false }) := by unfold MobSub.trigger; rw [h]
  rw [off]
  refine ⟨rfl, rfl, fun j e he => ?_⟩
  rw [MobSub.clearTriggers_entry, Option.map_eq_some_iff] at he
  obtain ⟨n, -, rfl⟩ := he
  rfl

/-- The count of a candidate after a result (R96). -/
def Neighbour.nextCount (n : Neighbour) : Nat := if 0 < n.trigger then min 15 (n.trigger + 1) else 1

/-- MOB's tables once the candidate's count has been counted, before the firing (R96). -/
def MobSub.countedFor (m : MobSub) (i : Nat) (n : Neighbour) : MobSub :=
  (if 0 < n.trigger then m else { m.clearTriggers with fired := false }).setTrigger i n.nextCount

theorem satInc_15 (n : Nat) : satInc 15 n = min 15 (n + 1) := by
  unfold satInc; split <;> omega

theorem MobSub.trigger_some (h : m.candidate = some (i, n)) : m.trigger =
    if m.params.ttt ≤ n.nextCount ∧ (0 < n.trigger → m.fired = false) then
      (some i, { m.countedFor i n with fired := true }) else (none, m.countedFor i n) := by
  unfold MobSub.trigger
  rw [h]
  dsimp only
  rw [satInc_15]
  unfold MobSub.countedFor Neighbour.nextCount
  by_cases again : 0 < n.trigger
  · simp [again, MobSub.setTrigger]
  · simp [again, MobSub.setTrigger, MobSub.clearTriggers]

theorem MobSub.countedFor_entry (m : MobSub) (i : Nat) (n : Neighbour) {e : Neighbour} (entry : entryAt m.neighbours i = some e) :
    entryAt (m.countedFor i n).neighbours i = some { e with trigger := n.nextCount } := by
  unfold MobSub.countedFor
  rw [MobSub.setTrigger_entry, if_pos rfl]
  split
  · rw [entry]; rfl
  · change (entryAt m.clearTriggers.neighbours i).map _ = _
    rw [MobSub.clearTriggers_entry, entry]
    rfl

theorem MobSub.countedFor_cleared (fresh : n.trigger = 0) {j : Nat} (other : j ≠ i) {e : Neighbour}
    (he : entryAt (m.countedFor i n).neighbours j = some e) : e.trigger = 0 := by
  unfold MobSub.countedFor at he
  rw [MobSub.setTrigger_entry, if_neg (Ne.symm other), if_neg (by omega)] at he
  change entryAt m.clearTriggers.neighbours j = _ at he
  rw [MobSub.clearTriggers_entry, Option.map_eq_some_iff] at he
  obtain ⟨f, -, rfl⟩ := he
  rfl

theorem MobSub.trigger_neighbours (h : m.candidate = some (i, n)) : m.trigger.2.neighbours = (m.countedFor i n).neighbours := by
  rw [MobSub.trigger_some h]
  split <;> rfl

theorem MobSub.trigger_counts (m : MobSub) (i : Nat) (n : Neighbour) (count : Nat) (h : m.candidate = some (i, n))
    (hc : count = (if 0 < n.trigger then min 15 (n.trigger + 1) else 1)) :
    entryAt m.trigger.2.neighbours i = some { n with trigger := count } ∧
      (m.trigger.1 = some i ↔ m.params.ttt ≤ count ∧ (0 < n.trigger → m.fired = false)) ∧
      (n.trigger = 0 → ∀ j e, j ≠ i → entryAt m.trigger.2.neighbours j = some e → e.trigger = 0) := by
  obtain rfl : count = n.nextCount := hc
  obtain ⟨-, entry, -⟩ := (m.candidate_iff i n).1 h
  rw [MobSub.trigger_neighbours h]
  refine ⟨m.countedFor_entry i n entry, ?_, fun fresh j e other he => MobSub.countedFor_cleared fresh other he⟩
  rw [MobSub.trigger_some h]
  split
  next fires => exact ⟨fun _ => fires, fun _ => rfl⟩
  next idle => exact ⟨(nomatch ·), fun fires => absurd fires idle⟩

end Trigger

/-! ### The cells of a MEASURE order (R92) -/

/-- The entries from the rotation position on, each as an order lists it. -/
def MobSub.scanned (m : MobSub) (k : Nat) : Option ListedCell :=
  (entryAt m.neighbours ((m.rotation + k) % 16)).map fun n => ⟨some ((m.rotation + k) % 16), n.cellId, n.freq⟩

theorem MobSub.listedNeighbours_eq (m : MobSub) : m.listedNeighbours = ((List.range 16).filterMap m.scanned).take 7 := by
  unfold MobSub.listedNeighbours MobSub.scanned
  dsimp only
  rw [List.filterMap_map]
  rfl

/-- How far an index lies from the rotation position on. -/
def MobSub.placeOf (m : MobSub) (i : Nat) : Nat := (i + 16 - m.rotation % 16) % 16

theorem MobSub.placeOf_scanned (m : MobSub) {k : Nat} (h : k < 16) : m.placeOf ((m.rotation + k) % 16) = k := by
  unfold MobSub.placeOf
  omega

theorem MobSub.scanned_placeOf (m : MobSub) {i : Nat} (h : i < 16) : (m.rotation + m.placeOf i) % 16 = i := by
  unfold MobSub.placeOf
  omega

/-- One cell of an order comes before another in the order of the scan. -/
def MobSub.before (m : MobSub) (c d : ListedCell) : Prop := ∀ i j, c.index = some i → d.index = some j → m.placeOf i < m.placeOf j

theorem MobSub.scanned_some {m : MobSub} {k : Nat} {c : ListedCell} (h : m.scanned k = some c) :
    ∃ n, entryAt m.neighbours ((m.rotation + k) % 16) = some n ∧ c = ⟨some ((m.rotation + k) % 16), n.cellId, n.freq⟩ := by
  obtain ⟨n, hn, rfl⟩ := Option.map_eq_some_iff.1 h
  exact ⟨n, hn, rfl⟩

theorem MobSub.scan_ordered (m : MobSub) : ((List.range 16).filterMap m.scanned).Pairwise m.before := by
  rw [List.pairwise_filterMap]
  refine List.pairwise_lt_range.imp_of_mem fun {j k} hj hk lt c hc d hd i i' hi hi' => ?_
  obtain ⟨n, -, rfl⟩ := MobSub.scanned_some hc
  obtain ⟨n', -, rfl⟩ := MobSub.scanned_some hd
  rw [← Option.some.inj hi, ← Option.some.inj hi', m.placeOf_scanned (List.mem_range.1 hj), m.placeOf_scanned (List.mem_range.1 hk)]
  exact lt

theorem MobSub.listed_length (m : MobSub) : m.listedNeighbours.length ≤ 7 := by
  rw [MobSub.listedNeighbours_eq]
  exact List.length_take_le ..

theorem MobSub.listed_entry {m : MobSub} {c : ListedCell} (h : c ∈ m.listedNeighbours) :
    ∃ i n, entryAt m.neighbours i = some n ∧ c = ⟨some i, n.cellId, n.freq⟩ := by
  rw [MobSub.listedNeighbours_eq] at h
  obtain ⟨k, -, hk⟩ := List.mem_filterMap.1 (List.mem_of_mem_take h)
  exact ⟨_, MobSub.scanned_some hk⟩

theorem MobSub.listed_ordered (m : MobSub) :
    (m.listedNeighbours.filterMap (·.index)).Pairwise (fun i j => m.placeOf i < m.placeOf j) := by
  rw [MobSub.listedNeighbours_eq, List.pairwise_filterMap]
  exact (m.scan_ordered.sublist (List.take_sublist ..)).imp fun before i hi j hj => before i j hi hj

/-- A valid entry that is not listed comes after seven that are. -/
theorem MobSub.listed_or_after {m : MobSub} (size : m.neighbours.length = 16) {i : Nat} {n : Neighbour}
    (hn : entryAt m.neighbours i = some n) : (⟨some i, n.cellId, n.freq⟩ : ListedCell) ∈ m.listedNeighbours ∨
      m.listedNeighbours.length = 7 ∧ ∀ j ∈ m.listedNeighbours.filterMap (·.index), m.placeOf j < m.placeOf i := by
  have within : i < 16 := size ▸ lt_of_entryAt hn
  have place : m.placeOf i < 16 := Nat.mod_lt _ (by omega)
  have scans : m.scanned (m.placeOf i) = some ⟨some i, n.cellId, n.freq⟩ := by
    unfold MobSub.scanned
    rw [m.scanned_placeOf within, hn]
    rfl
  have found : (⟨some i, n.cellId, n.freq⟩ : ListedCell) ∈ (List.range 16).filterMap m.scanned :=
    List.mem_filterMap.2 ⟨_, List.mem_range.2 place, scans⟩
  have ordered := m.scan_ordered
  rw [MobSub.listedNeighbours_eq]
  rw [← List.take_append_drop 7 ((List.range 16).filterMap m.scanned)] at found ordered
  obtain listed | later := List.mem_append.1 found
  · exact .inl listed
  · refine .inr ⟨?_, fun j hj => ?_⟩
    · have more := List.length_pos_of_mem later
      rw [List.length_drop] at more
      rw [List.length_take]
      omega
    · obtain ⟨c, hc, index⟩ := List.mem_filterMap.1 hj
      exact (List.pairwise_append.1 ordered).2.2 c hc _ later j i index rfl

theorem MobSub.measureCells_eq (m : MobSub) : m.measureCells = match m.serving with
    | some v => ⟨none, v.cellId, v.freq⟩ :: m.listedNeighbours
    | none => m.listedNeighbours := by
  unfold MobSub.measureCells
  cases m.serving <;> rfl

end Sys2Proof.Machine
end

section
/-! Sitting 3: what a DONE measurement result makes of MOB's tables (O32). -/

namespace Sys2Proof.Machine

/-! ### The cells of an order paired with a result (R52) -/

theorem pairResult_cons (c : ListedCell) (cells : List ListedCell) (result : List (Option Int)) :
    pairResult (c :: cells) result = (c, (result[0]?).getD none) :: pairResult cells result.tail := by
  cases result <;> rfl

theorem pairResult_getElem (cells : List ListedCell) (result : List (Option Int)) (j : Nat) :
    (pairResult cells result)[j]? = (cells[j]?).map fun c => (c, (result[j]?).getD none) := by
  induction cells generalizing result j with
  | nil => rfl
  | cons c cells ih =>
    rw [pairResult_cons]
    cases j with
    | zero => rfl
    | succ j => rw [List.getElem?_cons_succ, List.getElem?_cons_succ, ih, List.getElem?_tail]

theorem pairResult_cells (cells : List ListedCell) (result : List (Option Int)) : (pairResult cells result).map Prod.fst = cells := by
  induction cells generalizing result with
  | nil => rfl
  | cons c cells ih => rw [pairResult_cons, List.map_cons, ih]

/-! ### The neighbours listed (R90, R93) -/

/-- What an entry of a result makes of the table entry it names, which may hold another cell by now (R93 step 3). -/
def Neighbour.heard (k cellId : Nat) (entry : Option Int) (n : Neighbour) : Neighbour := if n.cellId = cellId then n.measured k entry else n

/-- A neighbour's entry of a result changes the table's entry of its index alone. -/
theorem MobSub.applyEntry_neighbour {c : ListedCell} {i : Nat} (h : c.index = some i) (entry : Option Int) (m : MobSub) :
    m.applyEntry (c, entry) = { m with neighbours := (m.applyEntry (c, entry)).neighbours } ∧
      ∀ j, entryAt (m.applyEntry (c, entry)).neighbours j =
        if i = j then (entryAt m.neighbours j).map (Neighbour.heard m.params.k c.cellId entry) else entryAt m.neighbours j := by
  unfold MobSub.applyEntry
  dsimp only
  rw [h]
  dsimp only
  cases there : entryAt m.neighbours i with
  | none =>
    refine ⟨rfl, fun j => ?_⟩
    by_cases same : i = j
    · rw [if_pos same, ← same, there]; rfl
    · rw [if_neg same]
  | some n =>
    by_cases own : n.cellId = c.cellId
    · simp only [own, if_true]
      refine ⟨trivial, fun j => ?_⟩
      rw [entryAt_set]
      by_cases same : i = j
      · subst same
        rw [if_pos ⟨rfl, lt_of_entryAt there⟩, if_pos rfl, there]
        simp [Neighbour.heard, own]
      · rw [if_neg fun both => same both.1, if_neg same]
    · simp only [own, if_false]
      refine ⟨trivial, fun j => ?_⟩
      split
      next same => rw [← same, there]; simp [Neighbour.heard, own]
      next => rfl

/-- The entries of a result for neighbours of different indexes, one after another. -/
theorem MobSub.applyEntries_neighbours (l : List (ListedCell × Option Int)) (indexed : ∀ e ∈ l, e.1.index ≠ none)
    (apart : l.Pairwise fun e f => e.1.index ≠ f.1.index) (m : MobSub) :
    l.foldl MobSub.applyEntry m = { m with neighbours := (l.foldl MobSub.applyEntry m).neighbours } ∧
      (∀ e ∈ l, ∀ i, e.1.index = some i → entryAt (l.foldl MobSub.applyEntry m).neighbours i =
        (entryAt m.neighbours i).map (Neighbour.heard m.params.k e.1.cellId e.2)) ∧
      ∀ i, (∀ e ∈ l, e.1.index ≠ some i) → entryAt (l.foldl MobSub.applyEntry m).neighbours i = entryAt m.neighbours i := by
  induction l generalizing m with
  | nil => exact ⟨rfl, by simp, fun _ _ => rfl⟩
  | cons e l ih =>
    obtain ⟨i, hi⟩ := Option.ne_none_iff_exists'.1 (indexed e List.mem_cons_self)
    obtain ⟨first, entries⟩ := MobSub.applyEntry_neighbour hi e.2 m
    rw [List.pairwise_cons] at apart
    obtain ⟨distinct, apart⟩ := apart
    obtain ⟨rest, named, other⟩ := ih (fun f hf => indexed f (List.mem_cons_of_mem e hf)) apart (m.applyEntry e)
    have params : (m.applyEntry e).params = m.params := by rw [first]
    refine ⟨by rw [List.foldl_cons, rest, first], fun f hf j hj => ?_, fun j hj => ?_⟩
    · rw [List.foldl_cons]
      rw [List.mem_cons] at hf
      by_cases mem : f ∈ l
      · rw [named f mem j hj, entries, if_neg, params]
        exact fun same => distinct f mem (by rw [hi, hj, same])
      · obtain rfl : f = e := hf.resolve_right mem
        obtain rfl : i = j := Option.some.inj (hi.symm.trans hj)
        rw [other i fun g hg same => distinct g hg (hi.trans same.symm), entries, if_pos rfl]
    · rw [List.foldl_cons, other j fun f hf => hj f (List.mem_cons_of_mem e hf), entries, if_neg]
      exact fun same => hj e List.mem_cons_self (by rw [hi, same])

/-! ### The serving cell (R94, R97) -/

/-- The filtered serving level after the entry of a result that names this cell (R94). -/
def Serving.levelAfter (k cellId : Nat) (entry : Option Int) (v : Serving) : Option Int :=
  match entry with
  | some level => if v.cellId = cellId then some (filtered k v.fs level) else v.fs
  | none => v.fs

/-- The floor run after the entry of a result that names this cell (R97). -/
def Serving.runAfter (cellId : Nat) (entry : Option Int) (fs : Option Int) (v : Serving) : Nat :=
  if v.cellId ≠ cellId then v.floorRun else if entry ≠ none ∧ ∃ f, fs = some f ∧ v.qmin ≤ rounded f then 0 else v.floorRun + 1

theorem MobSub.applyEntry_serving {m : MobSub} {v : Serving} (hv : m.serving = some v) (cellId freq : Nat) (entry : Option Int) :
    m.applyEntry (⟨none, cellId, freq⟩, entry) = { m with serving := some { v with fs := v.levelAfter m.params.k cellId entry } } := by
  have same : m = { m with serving := some v } := by rw [← hv]
  unfold MobSub.applyEntry Serving.levelAfter
  dsimp only
  rw [hv]
  cases entry with
  | none => exact same
  | some level =>
    dsimp only
    split
    · rfl
    · exact same

theorem MobSub.servingEntry_first {m : MobSub} {v : Serving} (hv : m.serving = some v) (cellId freq : Nat) (entry : Option Int)
    (rest : List (ListedCell × Option Int)) : m.servingEntry ((⟨none, cellId, freq⟩, entry) :: rest) =
      if v.cellId = cellId then some entry else none := by
  unfold MobSub.servingEntry
  simp [hv]

theorem Serving.floorAfter_eq (v : Serving) (cellId : Nat) (entry fs : Option Int) :
    ({ v with fs := fs } : Serving).floorAfter (if v.cellId = cellId then some entry else none) =
      { v with fs := fs, floorRun := v.runAfter cellId entry fs } := by
  unfold Serving.runAfter Serving.floorAfter
  by_cases own : v.cellId = cellId
  · cases entry with
    | none => simp [own]
    | some level =>
      cases fs with
      | none => simp [own]
      | some f => by_cases low : v.qmin ≤ rounded f <;> simp [own, low]
  · simp [own]

/-! ### The tables of a result (R93 steps 1 to 5) -/

/-- MOB's tables after the entries of a result, before the trigger. -/
def MobSub.resulted (m : MobSub) (cells : List ListedCell) (result : List (Option Int)) : MobSub :=
  (((pairResult cells result).foldl MobSub.applyEntry m).advanceRotation cells).rerank

theorem MobSub.advanceRotation_eq (m : MobSub) (cells : List ListedCell) :
    m.advanceRotation cells = { m with rotation := (m.advanceRotation cells).rotation } := by
  unfold MobSub.advanceRotation; split <;> rfl

theorem MobSub.rerank_served {m : MobSub} {v : Serving} (h : m.serving = some v) :
    m.rerank = { m with ranking := rankingOf m.neighbours v.qmin } := by
  unfold MobSub.rerank; rw [h]

/-- MOB's tables once the serving cell's own entry has been taken. -/
def MobSub.withLevel (m : MobSub) (v : Serving) (fs : Option Int) : MobSub := { m with serving := some { v with fs := fs } }

section Resulted
variable {m : MobSub} {v : Serving} {cells : List ListedCell} {cellId freq : Nat}

/-- The neighbours of an order are of different table entries (R92). -/
def namesApart (cells : List ListedCell) : Prop := (∀ c ∈ cells, c.index ≠ none) ∧ cells.Pairwise fun c d => c.index ≠ d.index

theorem MobSub.neighbours_heard (listed : namesApart cells) (entries : List (Option Int)) (m : MobSub) :
    (pairResult cells entries).foldl MobSub.applyEntry m =
        { m with neighbours := ((pairResult cells entries).foldl MobSub.applyEntry m).neighbours } ∧
      (∀ (j : Nat) (c : ListedCell) (i : Nat), cells[j]? = some c → c.index = some i →
        entryAt ((pairResult cells entries).foldl MobSub.applyEntry m).neighbours i =
          (entryAt m.neighbours i).map (Neighbour.heard m.params.k c.cellId ((entries[j]?).getD none))) ∧
      ∀ i, (∀ c ∈ cells, c.index ≠ some i) →
        entryAt ((pairResult cells entries).foldl MobSub.applyEntry m).neighbours i = entryAt m.neighbours i := by
  obtain ⟨indexed, apart⟩ := listed
  have cell {e : ListedCell × Option Int} (he : e ∈ pairResult cells entries) : e.1 ∈ cells := by
    rw [← pairResult_cells cells entries]; exact List.mem_map_of_mem he
  have apartPairs : (pairResult cells entries).Pairwise fun e f => e.1.index ≠ f.1.index := by
    rw [← pairResult_cells cells entries, List.pairwise_map] at apart
    exact apart
  obtain ⟨rest, named, other⟩ := MobSub.applyEntries_neighbours (pairResult cells entries) (fun e he => indexed e.1 (cell he)) apartPairs m
  refine ⟨rest, fun j c i hc hi => ?_, fun i hi => other i fun e he => hi e.1 (cell he)⟩
  have paired : (c, (entries[j]?).getD none) ∈ pairResult cells entries := by
    refine List.mem_of_getElem? (i := j) ?_
    rw [pairResult_getElem, hc]
    rfl
  exact named _ paired i hi

/-- The tables of a result, by their fields: the serving level, the neighbours named, the ranking anew, the rotation on. -/
theorem MobSub.resulted_eq (hv : m.serving = some v) (listed : namesApart cells) (result : List (Option Int)) :
    m.resulted (⟨none, cellId, freq⟩ :: cells) result =
      { m.withLevel v (v.levelAfter m.params.k cellId ((result[0]?).getD none)) with
        neighbours := ((pairResult cells result.tail).foldl MobSub.applyEntry
          (m.withLevel v (v.levelAfter m.params.k cellId ((result[0]?).getD none)))).neighbours
        ranking := rankingOf ((pairResult cells result.tail).foldl MobSub.applyEntry
          (m.withLevel v (v.levelAfter m.params.k cellId ((result[0]?).getD none)))).neighbours v.qmin
        rotation := (m.advanceRotation cells).rotation } := by
  obtain ⟨rest, -⟩ := MobSub.neighbours_heard listed result.tail (m.withLevel v (v.levelAfter m.params.k cellId ((result[0]?).getD none)))
  unfold MobSub.resulted
  rw [pairResult_cons, List.foldl_cons, MobSub.applyEntry_serving hv]
  change (((pairResult cells result.tail).foldl MobSub.applyEntry (m.withLevel v _)).advanceRotation _).rerank = _
  generalize (pairResult cells result.tail).foldl MobSub.applyEntry (m.withLevel v _) = folded at rest ⊢
  have rotation : (folded.advanceRotation (⟨none, cellId, freq⟩ :: cells)).rotation = (m.advanceRotation cells).rotation := by
    rw [rest]
    unfold MobSub.advanceRotation
    rw [List.filterMap_cons_none rfl]
    cases (cells.filterMap (·.index)).getLast? <;> rfl
  rw [MobSub.advanceRotation_eq, rotation]
  have served : ({ folded with rotation := (m.advanceRotation cells).rotation } : MobSub).serving =
      some { v with fs := v.levelAfter m.params.k cellId ((result[0]?).getD none) } := by rw [rest]; rfl
  rw [MobSub.rerank_served served, rest]

theorem MobSub.rotation_last (m : MobSub) {c : ListedCell} {i : Nat} (last : cells.getLast? = some c) (hi : c.index = some i) :
    (m.advanceRotation cells).rotation = (i + 1) % 16 := by
  obtain ⟨before, rfl⟩ := List.getLast?_eq_some_iff.1 last
  unfold MobSub.advanceRotation
  simp [hi, Config.neighbourEntries]

end Resulted

/-! ### The trigger leaves the rest (R96) -/

theorem MobSub.trigger_rest (m : MobSub) : m.trigger.2 = { m with neighbours := m.trigger.2.neighbours, fired := m.trigger.2.fired } := by
  unfold MobSub.trigger
  split
  · rfl
  · dsimp only; (repeat' split) <;> rfl

/-- The neighbours of one table are those of another, but for their trigger counts. -/
def sameButTriggers (l k : List (Option Neighbour)) : Prop :=
  ∀ i n, entryAt l i = some n → ∃ count, entryAt k i = some { n with trigger := count }

theorem sameButTriggers.refl (l : List (Option Neighbour)) : sameButTriggers l l := fun _ n h => ⟨n.trigger, h⟩

theorem sameButTriggers.trans {l k j : List (Option Neighbour)} (h : sameButTriggers l k) (g : sameButTriggers k j) : sameButTriggers l j := by
  intro i n hn
  obtain ⟨c, hc⟩ := h i n hn
  obtain ⟨d, hd⟩ := g i { n with trigger := c } hc
  exact ⟨d, hd⟩

theorem MobSub.clearTriggers_same (m : MobSub) : sameButTriggers m.neighbours m.clearTriggers.neighbours := by
  intro i n hn
  exact ⟨0, by rw [MobSub.clearTriggers_entry, hn]; rfl⟩

theorem MobSub.setTrigger_same (m : MobSub) (i count : Nat) : sameButTriggers m.neighbours (m.setTrigger i count).neighbours := by
  intro j n hn
  rw [MobSub.setTrigger_entry]
  split
  · exact ⟨count, by rw [hn]; rfl⟩
  · exact ⟨n.trigger, hn⟩

theorem MobSub.trigger_same (m : MobSub) : sameButTriggers m.neighbours m.trigger.2.neighbours := by
  cases hc : m.candidate with
  | none =>
    have off : m.trigger.2.neighbours = m.clearTriggers.neighbours := by unfold MobSub.trigger; rw [hc]
    rw [off]
    exact m.clearTriggers_same
  | some e =>
    rw [MobSub.trigger_neighbours hc]
    unfold MobSub.countedFor
    split
    · exact m.setTrigger_same e.1 _
    · exact m.clearTriggers_same.trans (MobSub.setTrigger_same { m.clearTriggers with fired := false } e.1 _)

end Sys2Proof.Machine
end

section
/-! Sitting 3: what follows the tables of a measurement result (O32). -/

namespace Sys2Proof.Machine

/-! ### What follows the tables (R93 steps 8 and 9) -/

/-- MOB's tables but for trigger counts, the fired mark and a read asked for. -/
structure MobSub.KeepsResult (m n : MobSub) : Prop where
  serving : n.serving = m.serving
  rotation : n.rotation = m.rotation
  ranking : n.ranking = m.ranking
  guard : n.guard = m.guard
  neighbours : sameButTriggers m.neighbours n.neighbours

theorem MobSub.KeepsResult.refl (m : MobSub) : m.KeepsResult m := ⟨rfl, rfl, rfl, rfl, .refl _⟩

theorem MobSub.KeepsResult.trans {m n o : MobSub} (h : m.KeepsResult n) (k : n.KeepsResult o) : m.KeepsResult o :=
  ⟨k.serving.trans h.serving, k.rotation.trans h.rotation, k.ranking.trans h.ranking, k.guard.trans h.guard, h.neighbours.trans k.neighbours⟩

/-- A later step on `x` keeps what a result made of MOB's tables, and PSC's part. -/
structure State.KeepsResult (x : Sub) (s t : State) : Prop where
  mob : (s.mobOf x).KeepsResult (t.mobOf x)
  psc : t.pscOf x = s.pscOf x

section Keeps
variable {s t u : State} {x : Sub}

theorem State.KeepsResult.refl (x : Sub) (s : State) : s.KeepsResult x s := ⟨.refl _, rfl⟩

theorem State.KeepsResult.trans (h : s.KeepsResult x t) (k : t.KeepsResult x u) : s.KeepsResult x u := ⟨h.mob.trans k.mob, k.psc.trans h.psc⟩

theorem State.KeepsResult.of (mob : t.mob = s.mob) (per : t.psc.per = s.psc.per) : s.KeepsResult x t where
  mob := by unfold State.mobOf; rw [mob]; exact .refl _
  psc := by unfold State.pscOf; rw [per]

theorem State.KeepsResult.onMobOf {f : MobSub → MobSub} (s : State) (h : (s.mobOf x).KeepsResult (f (s.mobOf x))) :
    s.KeepsResult x (s.onMobOf x f) := ⟨by rw [State.onMobOf_self]; exact h, rfl⟩

theorem State.notActedOn_keepsResult (x : Sub) (s : State) : s.KeepsResult x (s.notActedOn x) :=
  State.KeepsResult.onMobOf s ⟨rfl, rfl, rfl, rfl, .refl _⟩

theorem State.readFailed_keepsResult (x : Sub) (i cellId : Nat) (s : State) : s.KeepsResult x (s.readFailed x i cellId) := by
  refine State.KeepsResult.onMobOf s ?_
  dsimp only
  split
  · exact ⟨rfl, rfl, rfl, rfl, (s.mobOf x).setTrigger_same i 0⟩
  · exact ⟨rfl, rfl, rfl, rfl, .refl _⟩

theorem State.readRefused_keepsResult (x : Sub) (s : State) : s.KeepsResult x (s.readRefused x) := by
  have cleared : s.KeepsResult x (s.onMobOf x fun m => { m with readPurpose := none }) :=
    State.KeepsResult.onMobOf s ⟨rfl, rfl, rfl, rfl, .refl _⟩
  unfold State.readRefused
  dsimp only
  split
  · exact cleared.trans (State.readFailed_keepsResult ..)
  · exact cleared
  · exact cleared

theorem State.tryRead_keepsResult (x : Sub) (s : State) : s.KeepsResult x (s.tryRead x) := by
  unfold State.tryRead
  split <;> (have k := congrArg Prod.snd ‹_ = (_, _)›; dsimp only at k; subst k)
  · exact .of (by simp) (by simp)
  · exact State.KeepsResult.trans (.of (by simp) (by simp)) (State.readRefused_keepsResult ..)

theorem State.placeRead_keepsResult (x : Sub) (p : ReadPurpose) (s : State) : s.KeepsResult x (s.placeRead x p) := by
  have noted : s.KeepsResult x (s.onMobOf x fun m => { m with readPurpose := some p }) :=
    State.KeepsResult.onMobOf s ⟨rfl, rfl, rfl, rfl, .refl _⟩
  unfold State.placeRead State.ask
  split
  · exact noted.trans (State.tryRead_keepsResult ..)
  · split
    · exact noted
    · exact noted.trans (.of rfl rfl)

/-- The settling of a subscription whose activity state is the derived one already leaves MOB's and PSC's parts. -/
theorem State.settle_settled (h : s.activity x = s.derivedActivity x) : (s.settle x).mob = s.mob ∧ (s.settle x).psc.per = s.psc.per := by
  have derived : s.derive x = s.updateStanding x := by
    unfold State.derive
    simp only [h, if_true]
  have same : (s.settleAlone x).activity x = s.activity x := by
    rw [State.settleAlone, derived, ← State.updateStanding_activity x x s]
    unfold State.activity State.record
    simp
  unfold State.settle
  dsimp only
  rw [same, if_neg (by simp), State.settleAlone, derived]
  simp

/-- A report offered leaves the activity state of a subscription in a call (R20). -/
theorem State.offerReport_keepsResult (ok : s.activityOk) (inCall : s.activity x = .inCall) : s.KeepsResult x (s.offerReport x) := by
  unfold State.offerReport
  split <;> (have k := congrArg Prod.snd ‹_ = (_, _)›; dsimp only at k; subst k)
  · have offered (o : Offer) : s.KeepsResult x (s.offer x o).2 := .of (by simp) (by simp)
    have busy (o : Offer) : (s.offer x o).2.keepsBusy x := by
      refine ok.keepsBusy (by rw [inCall]; rfl) (by simp [State.activity, State.record]) (by simp [State.serving, State.mobOf]) (by simp)
        (fun some gone => some ?_) (by simp [State.outgoingOf])
      rw [State.txnsOf_nil_iff] at gone ⊢
      exact fun i p hp => gone i p (State.offer_txns x o s i p hp)
    have settled (o : Offer) : (s.offer x o).2.activity x = (s.offer x o).2.derivedActivity x := by
      refine (busy o).resolve_right fun other => other.2 ?_
      rw [← inCall]; simp [State.activity, State.record]
    obtain ⟨mob, per⟩ := State.settle_settled (settled ⟨some .mob, some .measReport, 0, none, (s.mobOf x).reportBody⟩)
    exact (offered _).trans (.of mob per)
  · exact State.KeepsResult.trans (.of (by simp) (by simp)) (State.notActedOn_keepsResult ..)

theorem State.actOnFiring_keepsResult (ok : s.activityOk) (i : Nat) : s.KeepsResult x (s.actOnFiring x i) := by
  unfold State.actOnFiring
  split
  · split
    · exact State.placeRead_keepsResult ..
    · exact State.notActedOn_keepsResult ..
  next inCall _ =>
    split
    · exact State.offerReport_keepsResult ok inCall
    · exact State.notActedOn_keepsResult ..
  · exact State.notActedOn_keepsResult ..

theorem State.refreshRead_keepsResult (x : Sub) (s : State) : s.KeepsResult x (s.refreshRead x) := by
  unfold State.refreshRead
  (repeat' split)
  · exact .refl x s
  · exact State.placeRead_keepsResult ..
  · exact .refl x s

/-- A read of the serving cell that RTA refuses leaves the triggers and the fired mark (R108). -/
theorem State.refreshRead_triggers (x : Sub) (s : State) : ((s.refreshRead x).mobOf x).neighbours = (s.mobOf x).neighbours ∧
    ((s.refreshRead x).mobOf x).fired = (s.mobOf x).fired := by
  have set (p : Option ReadPurpose) (u : State) : (u.onMobOf x fun m => { m with readPurpose := p }).mobOf x =
      { u.mobOf x with readPurpose := p } := State.onMobOf_self ..
  have tried (u : State) (h : (u.mobOf x).readPurpose = some .refresh) : ((u.tryRead x).mobOf x).neighbours = (u.mobOf x).neighbours ∧
      ((u.tryRead x).mobOf x).fired = (u.mobOf x).fired := by
    unfold State.tryRead
    split <;> (have k := congrArg Prod.snd ‹_ = (_, _)›; dsimp only at k; subst k)
    · simp [State.mobOf]
    · have same : (u.place x .beaconRead ⟨u.clock.now + 1, 15, 4, 0, false⟩).2.mobOf x = u.mobOf x := by simp [State.mobOf]
      unfold State.readRefused
      rw [same, h]
      simp only [set, same, and_self]
  unfold State.refreshRead State.placeRead State.ask
  (repeat' split)
  · exact ⟨rfl, rfl⟩
  · obtain ⟨neighbours, fired⟩ := tried (s.onMobOf x fun m => { m with readPurpose := some .refresh }) (by rw [set])
    rw [neighbours, fired, set]
    exact ⟨rfl, rfl⟩
  · rw [set]; exact ⟨rfl, rfl⟩
  · have asked := set (some .refresh) s
    change ((s.onMobOf x _).mobOf x).neighbours = _ ∧ ((s.onMobOf x _).mobOf x).fired = _
    rw [asked]
    exact ⟨rfl, rfl⟩
  · exact ⟨rfl, rfl⟩

/-! ### The level for PSC, and the guard (R110) -/

theorem State.withRelax_pscOf (x : Sub) (f : PscSub → PscSub) (s : State) : (s.withRelax x f).pscOf x = f (s.pscOf x) := by
  have own : (s.onPscOf x f).pscOf x = f (s.pscOf x) := by cases x <;> rfl
  unfold State.withRelax
  dsimp only
  split
  · rw [← own]
    unfold State.pscOf
    simp
  · exact own

theorem State.giveServingLevel_level {v : Serving} (hv : s.serving x = some v) :
    ((s.giveServingLevel x).pscOf x).level = v.fs.map rounded ∧ ((s.giveServingLevel x).pscOf x).qmin = some v.qmin := by
  unfold State.giveServingLevel State.giveLevel
  rw [hv]
  dsimp only
  rw [State.withRelax_pscOf]
  split <;> exact ⟨rfl, rfl⟩

/-- The rule of the activity states reads SBS, the contexts, the transactions, the texts and whether there is a serving cell (R20). -/
theorem State.activityOk.congr (ok : s.activityOk) (sbs : t.sbs = s.sbs) (cal : t.cal = s.cal) (sge : t.sge = s.sge) (txt : t.txt = s.txt)
    (serving : ∀ y, (t.serving y).isNone = (s.serving y).isNone) : t.activityOk := by
  intro y
  have act : t.activity y = s.activity y := by unfold State.activity State.record; rw [sbs]
  have txns : t.txnsOf y = s.txnsOf y := by unfold State.txnsOf State.openTxns; rw [sge]
  have outgoing : t.outgoingOf y = s.outgoingOf y := by unfold State.outgoingOf; rw [txt]
  obtain ⟨ctx, call⟩ := State.calls_congr cal y
  obtain ⟨derived, without⟩ := ok y
  have same : t.derivedActivity y = s.derivedActivity y := by
    simp only [State.derivedActivity, act, serving, call, ctx, txns, outgoing]
  refine ⟨by rw [act, same, derived], fun camped => ?_⟩
  rw [act] at camped
  obtain ⟨gone, rest⟩ := without camped
  refine ⟨?_, by rw [ctx, txns, outgoing]; exact rest⟩
  rw [← Option.isNone_iff_eq_none, serving, gone]
  rfl

/-- What the tables of a result become at the end of its processing (R93). -/
structure State.AfterResult (x : Sub) (v : Serving) (fires : Option Nat) (s t : State) : Prop where
  serving : t.serving x = some v
  rotation : (t.mobOf x).rotation = (s.mobOf x).rotation
  ranking : (t.mobOf x).ranking = (s.mobOf x).ranking
  neighbours : sameButTriggers (s.mobOf x).neighbours (t.mobOf x).neighbours
  unfired : fires = none → (t.mobOf x).neighbours = (s.mobOf x).neighbours ∧ (t.mobOf x).fired = (s.mobOf x).fired
  guard : (t.mobOf x).guard = (s.mobOf x).guard - 1
  level : (t.pscOf x).level = v.fs.map rounded ∧ (t.pscOf x).qmin = some v.qmin

theorem State.afterResult_spec {v : Serving} (ok : s.activityOk) (hv : s.serving x = some v) (fires : Option Nat) :
    s.AfterResult x v fires (s.afterResult x fires) := by
  let told := (s.giveServingLevel x).onMobOf x fun m => { m with guard := countDown m.guard }
  have same : (s.giveServingLevel x).mobOf x = s.mobOf x := by simp [State.mobOf]
  have own : told.mobOf x = { s.mobOf x with guard := (s.mobOf x).guard - 1 } := by
    change ((s.giveServingLevel x).onMobOf x _).mobOf x = _
    rw [State.onMobOf_self, same]
    rfl
  have level : (told.pscOf x).level = v.fs.map rounded ∧ (told.pscOf x).qmin = some v.qmin := State.giveServingLevel_level hv
  have toldOk : told.activityOk := by
    refine ok.congr (by simp [told]) (by simp [told]) (by simp [told]) (by simp [told]) fun y => ?_
    change ((((s.giveServingLevel x).onMobOf x _).mobOf y).serving).isNone = _
    rw [State.onMobOf_mobOf]
    split <;> simp [State.serving, State.mobOf]
  have acted : told.KeepsResult x (match fires with
      | none => told
      | some i => told.actOnFiring x i) := by
    cases fires with
    | none => exact .refl x told
    | some i => exact State.actOnFiring_keepsResult toldOk i
  have refreshed := acted.trans (State.refreshRead_keepsResult x _)
  obtain ⟨⟨serving, rotation, ranking, guard, neighbours⟩, psc⟩ := refreshed
  rw [own] at serving rotation ranking guard neighbours
  refine ⟨serving.trans hv, rotation, ranking, neighbours, fun idle => ?_, guard, by rw [← psc] at level; exact level⟩
  subst idle
  obtain ⟨triggers, fired⟩ := State.refreshRead_triggers x told
  exact ⟨triggers.trans (by rw [own]), fired.trans (by rw [own])⟩

end Keeps

end Sys2Proof.Machine
end

section
/-! Sitting 3: the loss of a serving cell (O32). -/

namespace Sys2Proof.Machine

section Loss
variable {s t : State} {x : Sub}

/-! ### The loss of service (R24) -/

/-- `x` has no serving cell and is recorded as without service. -/
def State.unserved (s : State) (x : Sub) : Prop := s.serving x = none ∧ s.activity x = .noService

/-- Without a cell, what is recorded is what the facts give (R20). -/
theorem State.unserved.derived (h : s.unserved x) : s.derivedActivity x = .noService := by
  obtain ⟨serving, activity⟩ := h
  unfold State.derivedActivity
  rw [activity, serving]
  rfl

theorem State.unserved.of (h : s.unserved x) (mob : t.mob = s.mob) (act : t.activity x = s.activity x) : t.unserved x := by
  obtain ⟨serving, activity⟩ := h
  refine ⟨?_, act.trans activity⟩
  rw [← serving]
  unfold State.serving State.mobOf
  rw [mob]

theorem State.unserved.sbs (h : s.unserved x) (mob : t.mob = s.mob) (sbs : t.sbs = s.sbs) : t.unserved x :=
  h.of mob (by unfold State.activity State.record; rw [sbs])

theorem State.unserved.spared (h : s.unserved x) (k : s.Spares x t) : t.unserved x := by
  obtain ⟨serving, activity⟩ := h
  refine ⟨?_, ?_⟩
  · rw [← serving]; exact congrArg MobSub.serving k.mob
  · rw [← activity]; exact congrArg SubRecord.activity k.record

/-- The ends of transactions in a loss of service leave the activity states. -/
theorem State.teardownOutcome_activity (p : Txn) (s : State) (y : Sub) : (s.teardownOutcome p .noService).activity y = s.activity y := by
  have registered : (s.onRecord p.sub fun r => { r with registration := .unregistered }).record y =
      if y = p.sub then { s.record y with registration := .unregistered } else s.record y := PerSub.get_upd ..
  unfold State.teardownOutcome
  split
  · simp [State.activity, State.record]
  · unfold State.areaEnded State.activity
    rw [registered]
    split <;> rfl
  · unfold State.passOutcome
    split <;> simp [State.activity, State.record]
  all_goals rfl

theorem State.teardownSge_activity (x y : Sub) (s : State) : (s.teardownSge x .noService).activity y = s.activity y := by
  have ended (l : List (Nat × Txn)) (t : State) :
      (l.foldl (fun s e => (s.freeTxn e.1).teardownOutcome e.2 .noService) t).activity y = t.activity y := by
    induction l generalizing t with
    | nil => rfl
    | cons e l ih =>
      rw [List.foldl_cons, ih, State.teardownOutcome_activity]
      simp [State.activity, State.record]
  exact ended ..

theorem State.loseService_unserved (camped : (s.activity x).isCampedState = true) : (s.loseService x).unserved x := by
  let cut := s.onMobOf x fun m => { m with serving := none, lastFreq := ((s.serving x).map (·.freq)).orElse fun _ => m.lastFreq }
  let off := cut.writeActivity x .noService
  let torn := ((off.endAllCtxs x .radioLost).teardownSge x .noService).withdraw x .signalling
  let left := (((((torn.failText x .noService).withdrawPaging x).onPscOf x PscSub.tornDown).withdraw x .measure).withdraw x .beaconRead).withdraw
    x .handoverAccess
  let bare := left.onMobOf x MobSub.afterLoss
  have last : s.loseService x = (((bare.placeSearch x).setFilter x false).updateStanding x).clearDue .update x := by
    unfold State.loseService
    rw [if_neg (by simp [camped])]
  have like : bare.Like (s.loseService x) := by rw [last]; simp (maxDischargeDepth := 20)
  have gone : bare.serving x = none := by unfold State.serving; rw [State.onMobOf_self]; rfl
  have activity : bare.activity x = .noService :=
    calc bare.activity x
      _ = torn.activity x := by simp [bare, left, State.activity, State.record]
      _ = ((off.endAllCtxs x .radioLost).teardownSge x .noService).activity x := by simp [torn, State.activity, State.record]
      _ = (off.endAllCtxs x .radioLost).activity x := State.teardownSge_activity ..
      _ = off.activity x := by simp [State.activity, State.record]
      _ = .noService := (cut.writeActivity_activity x .noService).1
  exact ⟨(like.serving x).2 gone, (like.activity x).trans activity⟩

/-! ### The owners that try again (R5, R27, R158) -/

theorem State.unserved.tryOnce (h : s.unserved x) (w : WaitKind) : (s.tryOnce w x).unserved x := by
  have update : s.retryUpdate x = s := by unfold State.retryUpdate; rw [h.1]
  unfold State.tryOnce
  (repeat' split)
  · rw [update]; exact h
  · exact h
  · exact h.sbs (by simp) (by simp)
  · exact h

theorem State.unserved.settleAlone (h : s.unserved x) : (s.settleAlone x).unserved x := by
  have derived : s.derive x = s.updateStanding x := State.derive_same (h.2.trans h.derived.symm)
  have standing : (s.updateStanding x).unserved x := h.of (by simp) (State.updateStanding_activity ..)
  rw [State.settleAlone, derived]
  exact standing.sbs (by simp) (by simp)

theorem State.unserved.tryWaiter (h : s.unserved x) (e : Waiter) : (State.tryWaiter none s e).unserved x := by
  unfold State.tryWaiter
  dsimp only
  rw [if_neg (by simp)]
  by_cases own : e.sub = x
  · subst own
    have cleared : (s.clearDue e.what e.sub).unserved e.sub := h.sbs (by simp) (by simp)
    exact (cleared.tryOnce e.what).settleAlone
  · obtain rfl : x = e.sub.other := State.eq_other_of_ne (Ne.symm own)
    exact h.spared (State.settleAlone_spares (State.tryOnce_spares _ (State.clearDue_spares e.what (.refl s))))

theorem State.unserved.tryWaiters (h : s.unserved x) : (s.tryWaiters none).unserved x := by
  have tried (l : List Waiter) : ∀ t : State, t.unserved x → (l.foldl (State.tryWaiter none) t).unserved x := by
    induction l with
    | nil => exact fun _ k => k
    | cons e l ih => exact fun t k => ih _ (k.tryWaiter e)
  exact tried _ s h

/-- A subscription that loses its cell is without service also when the owners that wait have tried (R24). -/
theorem State.lose_unserved (camped : (s.activity x).isCampedState = true) : (s.lose x).unserved x :=
  (State.loseService_unserved camped).tryWaiters

end Loss

end Sys2Proof.Machine
end

section
/-! Sitting 3: a measurement result processed whole (O32). -/

namespace Sys2Proof.Machine

section Process
variable {s : State} {x : Sub} {m : MobSub} {v : Serving} {cells : List ListedCell} {cellId freq : Nat}

theorem State.onMobOf_twice (f g : MobSub → MobSub) (s : State) : (s.onMobOf x f).onMobOf x g = s.onMobOf x (g ∘ f) := by
  cases x <;> rfl

/-- The tables a result leaves, the serving level and the floor run set. -/
def MobSub.tabled (q : MobSub) (v : Serving) (fs : Option Int) (run : Nat) : MobSub :=
  { q.trigger.2 with serving := some { v with fs := fs, floorRun := run } }

/-- The state with the tables a result makes, the serving cell's floor run moved (R93 steps 1 to 7). -/
def State.tabulated (x : Sub) (cells : List ListedCell) (result : List (Option Int)) (s : State) : State :=
  (s.onMobOf x fun _ => ((s.mobOf x).resulted cells result).trigger.2).onServing x fun v =>
    v.floorAfter ((s.mobOf x).servingEntry (pairResult cells result))

theorem State.processResult_eq (x : Sub) (cells : List ListedCell) (result : List (Option Int)) (s : State) :
    s.processResult x cells result =
      if ((s.tabulated x cells result).serving x).any fun v => 4 ≤ v.floorRun then (s.tabulated x cells result).lose x
      else (s.tabulated x cells result).afterResult x ((s.mobOf x).resulted cells result).trigger.1 := rfl

/-- A DONE result, processed outside an access: its tables, then the loss of the cell or what follows them (R93, R97). -/
theorem State.measureEnded_done (access : (s.mobOf x).hoState ≠ .access) (hv : (s.mobOf x).serving = some v) (listed : namesApart cells)
    (result : Option (List (Option Int))) {entry fs : Option Int} {run : Nat} (he : entry = (((result.getD [])[0]?).getD none))
    (hfs : fs = v.levelAfter (s.mobOf x).params.k cellId entry) (hrun : run = v.runAfter cellId entry fs) {q : MobSub}
    (hq : q = (s.mobOf x).resulted (⟨none, cellId, freq⟩ :: cells) (result.getD [])) :
    s.measureEnded x .done (⟨none, cellId, freq⟩ :: cells) result =
      if 4 ≤ run then (s.onMobOf x fun _ => q.tabled v fs run).lose x
      else (s.onMobOf x fun _ => q.tabled v fs run).afterResult x q.trigger.1 := by
  have served : q.serving = some { v with fs := fs } := by rw [hq, MobSub.resulted_eq hv listed, hfs, he]; rfl
  have triggered : q.trigger.2.serving = some { v with fs := fs } := by rw [q.trigger_rest]; exact served
  have tables : s.tabulated x (⟨none, cellId, freq⟩ :: cells) (result.getD []) = s.onMobOf x fun _ => q.tabled v fs run := by
    unfold State.tabulated State.onServing
    rw [← hq]
    rw [State.onMobOf_twice, pairResult_cons, MobSub.servingEntry_first hv, ← he]
    refine congrArg (State.onMobOf x · s) (funext fun _ => ?_)
    rw [Function.comp_apply, triggered, Option.map_some, Serving.floorAfter_eq, ← hrun]
    rfl
  have held : (s.onMobOf x fun _ => q.tabled v fs run).serving x = some { v with fs := fs, floorRun := run } := by
    unfold State.serving; rw [State.onMobOf_self]; rfl
  have outside : s.measureEnded x .done (⟨none, cellId, freq⟩ :: cells) result =
      s.processResult x (⟨none, cellId, freq⟩ :: cells) (result.getD []) := if_pos (by simpa using access)
  rw [outside, State.processResult_eq, tables, held, ← hq]
  simp only [Option.any_some, decide_eq_true_eq]

/-- What a result makes of the tables, and what is left of it at the end, where the cell is kept (R90, R92 to R97, R110). -/
theorem State.measureEnded_kept (ok : s.activityOk) (hv : (s.mobOf x).serving = some v) (listed : namesApart cells)
    (result : Option (List (Option Int))) {entry fs : Option Int} {run : Nat} (he : entry = (((result.getD [])[0]?).getD none))
    (hfs : fs = v.levelAfter (s.mobOf x).params.k cellId entry) (hrun : run = v.runAfter cellId entry fs)
    (access : (s.mobOf x).hoState ≠ .access) (few : run < 4) {q : MobSub}
    (hq : q = (s.mobOf x).resulted (⟨none, cellId, freq⟩ :: cells) (result.getD [])) {t : State}
    (ht : t = s.measureEnded x .done (⟨none, cellId, freq⟩ :: cells) result) :
    t = (s.onMobOf x fun _ => q.tabled v fs run).afterResult x q.trigger.1 ∧
      t.serving x = some { v with fs := fs, floorRun := run } ∧ (t.mobOf x).rotation = q.rotation ∧ (t.mobOf x).ranking = q.ranking ∧
      sameButTriggers q.neighbours (t.mobOf x).neighbours ∧
      (q.trigger.1 = none → (t.mobOf x).neighbours = q.trigger.2.neighbours ∧ (t.mobOf x).fired = q.trigger.2.fired) ∧
      (t.mobOf x).guard = q.guard - 1 ∧ (t.pscOf x).level = fs.map rounded ∧ (t.pscOf x).qmin = some v.qmin := by
  have processed := ht.trans (State.measureEnded_done access hv listed result he hfs hrun hq)
  rw [if_neg (by omega)] at processed
  have own : (s.onMobOf x fun _ => q.tabled v fs run).mobOf x = q.tabled v fs run := State.onMobOf_self ..
  have served : (s.onMobOf x fun _ => q.tabled v fs run).serving x = some { v with fs := fs, floorRun := run } := by
    unfold State.serving; rw [own]; rfl
  have baseOk : (s.onMobOf x fun _ => q.tabled v fs run).activityOk := by
    refine ok.congr rfl rfl rfl rfl fun y => ?_
    by_cases same : y = x
    · subst same
      rw [served]
      unfold State.serving
      rw [hv]
      rfl
    · unfold State.serving
      rw [State.onMobOf_mobOf, if_neg same]
  obtain ⟨serving, rotation, ranking, neighbours, unfired, guard, level⟩ := State.afterResult_spec baseOk served q.trigger.1
  rw [← processed, own] at rotation ranking neighbours unfired guard
  rw [← processed] at serving level
  have rest : (q.tabled v fs run).rotation = q.rotation ∧ (q.tabled v fs run).ranking = q.ranking ∧ (q.tabled v fs run).guard = q.guard := by
    unfold MobSub.tabled; rw [q.trigger_rest]; exact ⟨rfl, rfl, rfl⟩
  obtain ⟨ofRotation, ofRanking, ofGuard⟩ := rest
  exact ⟨processed, serving, rotation.trans ofRotation, ranking.trans ofRanking, q.trigger_same.trans neighbours, unfired,
    by rw [guard, ofGuard], level⟩

/-- The serving cell is lost when the floor run reaches 4 (R97). -/
theorem State.measureEnded_floor (ok : s.activityOk) (hv : (s.mobOf x).serving = some v) (listed : namesApart cells)
    (result : Option (List (Option Int))) {entry fs : Option Int} {run : Nat} (he : entry = (((result.getD [])[0]?).getD none))
    (hfs : fs = v.levelAfter (s.mobOf x).params.k cellId entry) (hrun : run = v.runAfter cellId entry fs)
    (access : (s.mobOf x).hoState ≠ .access) (low : 4 ≤ run) :
    (s.measureEnded x .done (⟨none, cellId, freq⟩ :: cells) result).unserved x := by
  have camped : (s.activity x).isCampedState = true := ok.camped (x := x) (by unfold State.serving; rw [hv]; exact Option.some_ne_none v)
  rw [State.measureEnded_done access hv listed result he hfs hrun rfl, if_pos low]
  exact State.lose_unserved camped

theorem State.measureEnded_access (access : (s.mobOf x).hoState = .access) (code : EndCode) (cells : List ListedCell)
    (result : Option (List (Option Int))) : s.measureEnded x code cells result = s := by
  unfold State.measureEnded
  rw [access, if_neg (by simp)]

/-! ### The tables of a result, by what the entries name -/

theorem MobSub.resulted_named (hv : m.serving = some v) (listed : namesApart cells) (result : List (Option Int)) {j i id f : Nat} {n : Neighbour}
    (hc : cells[j]? = some ⟨some i, id, f⟩) (hn : entryAt m.neighbours i = some n) :
    entryAt (m.resulted (⟨none, cellId, freq⟩ :: cells) result).neighbours i =
      some (if n.cellId = id then n.measured m.params.k ((result[j + 1]?).getD none) else n) := by
  obtain ⟨-, named, -⟩ :=
    MobSub.neighbours_heard listed result.tail (m.withLevel v (v.levelAfter m.params.k cellId ((result[0]?).getD none)))
  rw [MobSub.resulted_eq hv listed]
  refine (named j _ i hc rfl).trans ?_
  rw [List.getElem?_tail]
  exact congrArg (Option.map _) hn

theorem MobSub.resulted_other (hv : m.serving = some v) (listed : namesApart cells) (result : List (Option Int)) {i : Nat}
    (other : ∀ c ∈ cells, c.index ≠ some i) :
    entryAt (m.resulted (⟨none, cellId, freq⟩ :: cells) result).neighbours i = entryAt m.neighbours i := by
  obtain ⟨-, -, rest⟩ :=
    MobSub.neighbours_heard listed result.tail (m.withLevel v (v.levelAfter m.params.k cellId ((result[0]?).getD none)))
  rw [MobSub.resulted_eq hv listed]
  exact rest i other

theorem MobSub.resulted_free (hv : m.serving = some v) (listed : namesApart cells) (result : List (Option Int)) {i : Nat}
    (free : entryAt m.neighbours i = none) : entryAt (m.resulted (⟨none, cellId, freq⟩ :: cells) result).neighbours i = none := by
  by_cases other : ∀ c ∈ cells, c.index ≠ some i
  · rw [MobSub.resulted_other hv listed result other, free]
  · push Not at other
    obtain ⟨c, mem, index⟩ := other
    obtain ⟨j, hj⟩ := List.mem_iff_getElem?.1 mem
    obtain ⟨-, named, -⟩ :=
      MobSub.neighbours_heard listed result.tail (m.withLevel v (v.levelAfter m.params.k cellId ((result[0]?).getD none)))
    rw [MobSub.resulted_eq hv listed]
    exact (named j c i hj index).trans (congrArg (Option.map _) free)

/-- The fields of the tables of a result that are not its neighbours (R92, R94, R95). -/
theorem MobSub.resulted_rest (hv : m.serving = some v) (listed : namesApart cells) (result : List (Option Int)) {fs : Option Int} {q : MobSub}
    (hfs : fs = v.levelAfter m.params.k cellId ((result[0]?).getD none)) (hq : q = m.resulted (⟨none, cellId, freq⟩ :: cells) result) :
    (cells = [] → q.rotation = m.rotation) ∧ (∀ c i, cells.getLast? = some c → c.index = some i → q.rotation = (i + 1) % 16) ∧
      q.ranking = rankingOf q.neighbours v.qmin ∧
      q = { m with serving := some { v with fs := fs }, neighbours := q.neighbours, ranking := q.ranking, rotation := q.rotation } := by
  rw [MobSub.resulted_eq hv listed, ← hfs] at hq
  subst hq
  refine ⟨fun none => ?_, fun c i last index => m.rotation_last last index, rfl, rfl⟩
  subst none
  rfl

end Process

/-! ### The obligation -/

/-- Settles O32: the result held and taken, the neighbour entries, the trigger and the cells listed by their own lemmas; a result processed
whole by the tables it makes (`MobSub.resulted`), the loss of the cell at a floor run of 4, or what follows the tables, which moves
triggers alone. -/
theorem measurementResults : Obligations.MeasurementResults := by
  unfold Obligations.MeasurementResults
  refine ⟨fun s entries => ⟨fun u unit kind fresh => ?_, fun h => ?_⟩,
    fun k n => ⟨n.measured_level k, n.measured_lost k, n.measured_miss k, n.measured_gone k, n.measured_never k⟩,
    fun m => ⟨m.candidate_iff, MobSub.trigger_none, m.trigger_counts⟩,
    fun m size => ⟨m.measureCells_eq, m.listed_length, fun c => MobSub.listed_entry, m.listed_ordered, fun i n => MobSub.listed_or_after size⟩,
    ?_⟩
  · have held := exec_measurementResult entries s
    rw [State.holdResult_held unit kind fresh] at held
    exact held
  · have held := exec_measurementResult entries s
    rw [State.holdResult_same h] at held
    exact held
  · rintro s x m v cellId freq cells result entry fs run ok rfl hv indexed apart he hfs hrun
    have listed : namesApart cells := ⟨indexed, apart⟩
    have level : fs = v.levelAfter (s.mobOf x).params.k cellId entry := hfs.trans (by cases entry <;> rfl)
    refine ⟨fun access few => ?_, fun access low => ⟨_, rfl, State.measureEnded_floor ok hv listed result he level hrun access low⟩,
      fun access code r => State.measureEnded_access access code _ r, fun code r lapsed => State.measureEnded_lapsed lapsed s x _ r⟩
    obtain ⟨q, hq⟩ : ∃ q, q = (s.mobOf x).resulted (⟨none, cellId, freq⟩ :: cells) (result.getD []) := ⟨_, rfl⟩
    obtain ⟨unchanged, last, ranking, rest⟩ := MobSub.resulted_rest hv listed (result.getD []) (he ▸ level) hq
    have guard : q.guard = (s.mobOf x).guard := by rw [rest]
    obtain ⟨processed, kept⟩ := State.measureEnded_kept ok hv listed result he level hrun access few hq rfl
    rw [guard] at kept
    refine ⟨q, _, rfl, processed, fun j i id f n hc hn => ?_, fun i other => ?_, fun i free => ?_, unchanged, last, ranking, rest, kept⟩
    · rw [hq]; exact MobSub.resulted_named hv listed _ hc hn
    · rw [hq]; exact MobSub.resulted_other hv listed _ other
    · rw [hq]; exact MobSub.resulted_free hv listed _ free

end Sys2Proof.Machine
end
